-- ==== Sys2Proof/Word.lean ====
section
/-! DEFINITION. The words that cross the command link: bytes and the multi-byte numbers of R178.
Counts, ids and times inside the part are natural numbers, held in range by the rules that write them. -/

namespace Sys2Proof

/-- One byte of the link (R176). -/
abbrev Byte := BitVec 8

/-- A two-byte number of the link, sent most significant byte first (R178). -/
abbrev U16 := BitVec 16

/-- A three-byte word of the link: the event word and the enable word (R194). -/
abbrev U24 := BitVec 24

/-- A four-byte number of the link: times and spans (R178). -/
abbrev U32 := BitVec 32

end Sys2Proof
end

