-- ==== Sys2Proof/Syntax.lean ====
section
/-! DEFINITION. The commands of the block. `Command` is one command of the link with its argument bytes
grouped as its rule groups them (R178). `Instr` has one constructor per row of spec/opcode_table.json:
the link commands, each with the check byte the host sends after the arguments (`none`: the host sends
none), and the events and units of work of the part that the table lists beside them. -/

namespace Sys2Proof

/-- A command of the link: the forty-three codes of R178 with their arguments. -/
inductive Command where
  /-- DEFINE NODE (R4). -/
  | defineNode (node : U16) (kind : Byte) (online : Byte)
  /-- DEFINE SWITCH (R6). -/
  | defineSwitch (sw : U16) (endA : U16) (endB : U16) (position : Byte)
  /-- BUILD END (R9). -/
  | buildEnd
  /-- CLEAR MODEL (R17, R18). -/
  | clearModel
  /-- SET POLICY (R25). -/
  | setPolicy (policy : Byte)
  /-- OVERRIDE SWITCH (R33). -/
  | overrideSwitch (sw : U16) (action : Byte)
  /-- RETIRE SWITCH (R35). -/
  | retireSwitch (sw : U16)
  /-- LOOKUP SWITCH (R36). -/
  | lookupSwitch (sw : U16)
  /-- LOOKUP NODE (R60). -/
  | lookupNode (node : U16)
  /-- LOOKUP ISLAND (R61). -/
  | lookupIsland (island : U16) (generation : Byte)
  /-- WALK SET (R63). -/
  | walkSet (island : U16) (generation : Byte) (stride : Byte)
  /-- WALK MOVE (R64). -/
  | walkMove (move : Byte)
  /-- READ TABLE, `first` its start index (R66). -/
  | readTable (table : Byte) (first : U16)
  /-- READ CLOCK (R82). -/
  | readClock
  /-- SET PACING (R90). -/
  | setPacing (rate : U16) (direction : Byte)
  /-- SET END (R92). -/
  | setEnd (endTime : U32)
  /-- SET MARK (R93). -/
  | setMark (presence : Byte) (mark : U32)
  /-- SET STEP SPAN (R94). -/
  | setStepSpan (span : U32)
  /-- LOAD BATCH (R100). -/
  | loadBatch (letter : Byte) (tag : Byte)
  /-- ARM BATCH (R105). -/
  | armBatch (letter : Byte)
  /-- DISCARD BATCH (R106). -/
  | discardBatch (letter : Byte)
  /-- READ BATCH (R107). -/
  | readBatch (letter : Byte)
  /-- START (R130). -/
  | start
  /-- PAUSE (R131). -/
  | pause
  /-- RESUME (R132). -/
  | resume
  /-- STEP (R133). -/
  | step
  /-- RESTORE (R137). -/
  | restore
  /-- READ STATUS (R144). -/
  | readStatus
  /-- SET WATCH (R149). -/
  | setWatch (number : Byte) (quantity : Byte) (relation : Byte) (threshold : U16) (state : Byte)
  /-- CLEAR WATCH (R150). -/
  | clearWatch (number : Byte)
  /-- READ WATCH (R151). -/
  | readWatch (number : Byte)
  /-- READ EVENTS (R154). -/
  | readEvents
  /-- SET EVENT ENABLES (R156). -/
  | setEventEnables (word : U24)
  /-- SET INTERRUPT LINE (R157). -/
  | setInterruptLine (enabled : Byte) (level : Byte) (drive : Byte)
  /-- READ INTERRUPT (R159). -/
  | readInterrupt
  /-- SET CUE LINE (R165). -/
  | setCueLine (line : Byte) (function : Byte) (edge : Byte) (enable : Byte)
  /-- CLEAR LINE FLAGS (R166). -/
  | clearLineFlags (mask : Byte)
  /-- READ CUE LINE (R174). -/
  | readCueLine (line : Byte)
  /-- SET INDICATOR (R167). -/
  | setIndicator (line : Byte) (mode : Byte) (node : U16) (fixed : Byte) (level : Byte) (highZ : Byte)
  /-- READ INDICATOR (R174). -/
  | readIndicator (line : Byte)
  /-- REFRESH INDICATORS (R169). -/
  | refreshIndicators
  /-- READ LINES (R173). -/
  | readLines
  /-- SET CHECK MODE (R185). -/
  | setCheckMode (value : Byte)
  deriving DecidableEq, Repr

/-- One constructor per row of spec/opcode_table.json. -/
inductive Instr where
  /-- Assertion of RESETn or power-on, with the strap levels sampled (high: true) and whether SEL is
  low when RESETn is released (R19, R175, R177, R190). -/
  | hardwareReset (lmode0 lmode1 lchk selLow : Bool)
  /-- The host asserts SEL (R177). -/
  | selAssert
  /-- The host clocks `clocked` in whole byte positions and then releases SEL (R183). -/
  | selRelease (clocked : List Byte)
  /-- A command byte that names no command (R179). -/
  | unknownCommand (code : Byte)
  /-- DEFINE NODE (R4). -/
  | defineNode (node : U16) (kind : Byte) (online : Byte) (check : Option Byte)
  /-- DEFINE SWITCH (R6). -/
  | defineSwitch (sw : U16) (endA : U16) (endB : U16) (position : Byte) (check : Option Byte)
  /-- BUILD END (R9). -/
  | buildEnd (check : Option Byte)
  /-- The first stage of compile (R10). -/
  | compileIncidenceLists
  /-- The second stage of compile (R11). -/
  | compileStartingValues
  /-- The third stage of compile and its end (R12 to R14). -/
  | compileEnd
  /-- CLEAR MODEL (R17, R18). -/
  | clearModel (check : Option Byte)
  /-- SET POLICY (R25). -/
  | setPolicy (policy : Byte) (check : Option Byte)
  /-- OVERRIDE SWITCH (R33). -/
  | overrideSwitch (sw : U16) (action : Byte) (check : Option Byte)
  /-- RETIRE SWITCH (R35). -/
  | retireSwitch (sw : U16) (check : Option Byte)
  /-- LOOKUP SWITCH (R36). -/
  | lookupSwitch (sw : U16) (check : Option Byte)
  /-- LOOKUP NODE (R60). -/
  | lookupNode (node : U16) (check : Option Byte)
  /-- LOOKUP ISLAND (R61). -/
  | lookupIsland (island : U16) (generation : Byte) (check : Option Byte)
  /-- WALK SET (R63). -/
  | walkSet (island : U16) (generation : Byte) (stride : Byte) (check : Option Byte)
  /-- WALK MOVE (R64). -/
  | walkMove (move : Byte) (check : Option Byte)
  /-- READ TABLE, `first` its start index (R66). -/
  | readTable (table : Byte) (first : U16) (check : Option Byte)
  /-- The grant of a streamed record (R67). -/
  | readTableRecord
  /-- READ CLOCK (R82). -/
  | readClock (check : Option Byte)
  /-- SET PACING (R90). -/
  | setPacing (rate : U16) (direction : Byte) (check : Option Byte)
  /-- SET END (R92). -/
  | setEnd (endTime : U32) (check : Option Byte)
  /-- SET MARK (R93). -/
  | setMark (presence : Byte) (mark : U32) (check : Option Byte)
  /-- SET STEP SPAN (R94). -/
  | setStepSpan (span : U32) (check : Option Byte)
  /-- LOAD BATCH (R100). -/
  | loadBatch (letter : Byte) (tag : Byte) (check : Option Byte)
  /-- The bytes of one batch entry, with its check byte in check mode (R101). -/
  | batchEntry (bytes : List Byte)
  /-- ARM BATCH (R105). -/
  | armBatch (letter : Byte) (check : Option Byte)
  /-- DISCARD BATCH (R106). -/
  | discardBatch (letter : Byte) (check : Option Byte)
  /-- READ BATCH (R107). -/
  | readBatch (letter : Byte) (check : Option Byte)
  /-- START (R130). -/
  | start (check : Option Byte)
  /-- PAUSE (R131). -/
  | pause (check : Option Byte)
  /-- RESUME (R132). -/
  | resume (check : Option Byte)
  /-- STEP (R133). -/
  | step (check : Option Byte)
  /-- RESTORE (R137). -/
  | restore (check : Option Byte)
  /-- The first stage of restore (R138). -/
  | restoreFirstStage
  /-- The second stage of restore (R139). -/
  | restoreSecondStage
  /-- The third stage of restore and its end (R140). -/
  | restoreEnd
  /-- READ STATUS (R144). -/
  | readStatus (check : Option Byte)
  /-- SET WATCH (R149). -/
  | setWatch (number : Byte) (quantity : Byte) (relation : Byte) (threshold : U16) (state : Byte) (check : Option Byte)
  /-- CLEAR WATCH (R150). -/
  | clearWatch (number : Byte) (check : Option Byte)
  /-- READ WATCH (R151). -/
  | readWatch (number : Byte) (check : Option Byte)
  /-- READ EVENTS (R154). -/
  | readEvents (check : Option Byte)
  /-- SET EVENT ENABLES (R156). -/
  | setEventEnables (word : U24) (check : Option Byte)
  /-- SET INTERRUPT LINE (R157). -/
  | setInterruptLine (enabled : Byte) (level : Byte) (drive : Byte) (check : Option Byte)
  /-- READ INTERRUPT (R159). -/
  | readInterrupt (check : Option Byte)
  /-- SET CUE LINE (R165). -/
  | setCueLine (line : Byte) (function : Byte) (edge : Byte) (enable : Byte) (check : Option Byte)
  /-- CLEAR LINE FLAGS (R166). -/
  | clearLineFlags (mask : Byte) (check : Option Byte)
  /-- READ CUE LINE (R174). -/
  | readCueLine (line : Byte) (check : Option Byte)
  /-- SET INDICATOR (R167). -/
  | setIndicator (line : Byte) (mode : Byte) (node : U16) (fixed : Byte) (level : Byte) (highZ : Byte) (check : Option Byte)
  /-- READ INDICATOR (R174). -/
  | readIndicator (line : Byte) (check : Option Byte)
  /-- REFRESH INDICATORS (R169). -/
  | refreshIndicators (check : Option Byte)
  /-- READ LINES (R173). -/
  | readLines (check : Option Byte)
  /-- SET CHECK MODE (R185). -/
  | setCheckMode (value : Byte) (check : Option Byte)
  /-- The pacing tick (R83, R84). -/
  | pacingTick
  /-- A Sequencer grant (R112). -/
  | applyEntry
  /-- The guard claim of a MERGE (R49). -/
  | mergeGuard
  /-- A RELABEL claim of a MERGE (R50). -/
  | mergeRelabel
  /-- The guard claim of a SPLIT with side A's first turn (R52). -/
  | splitGuard
  /-- A search claim of a SPLIT (R53). -/
  | splitVisit
  /-- A RELABEL claim of a SPLIT (R55). -/
  | splitRelabel
  /-- The claim of a SOURCE job (R57). -/
  | sourceJob
  /-- The cue line sample event: bit n of `levels` is the level of CUEn (R162); the edges of the lines
  in `order` are taken first, in that order, then the rest in ascending order (R163). -/
  | sampleEvent (levels : Byte) (order : List (Fin 8))
  /-- The flash phase turns (R171). -/
  | flashPhaseTurn
  deriving DecidableEq, Repr

/-- The row of a link command sent with the check byte `check`. -/
def Command.toInstr (check : Option Byte) : Command → Instr
  | .defineNode node kind online => .defineNode node kind online check
  | .defineSwitch sw endA endB position => .defineSwitch sw endA endB position check
  | .buildEnd => .buildEnd check
  | .clearModel => .clearModel check
  | .setPolicy policy => .setPolicy policy check
  | .overrideSwitch sw action => .overrideSwitch sw action check
  | .retireSwitch sw => .retireSwitch sw check
  | .lookupSwitch sw => .lookupSwitch sw check
  | .lookupNode node => .lookupNode node check
  | .lookupIsland island generation => .lookupIsland island generation check
  | .walkSet island generation stride => .walkSet island generation stride check
  | .walkMove move => .walkMove move check
  | .readTable table first => .readTable table first check
  | .readClock => .readClock check
  | .setPacing rate direction => .setPacing rate direction check
  | .setEnd endTime => .setEnd endTime check
  | .setMark presence mark => .setMark presence mark check
  | .setStepSpan span => .setStepSpan span check
  | .loadBatch letter tag => .loadBatch letter tag check
  | .armBatch letter => .armBatch letter check
  | .discardBatch letter => .discardBatch letter check
  | .readBatch letter => .readBatch letter check
  | .start => .start check
  | .pause => .pause check
  | .resume => .resume check
  | .step => .step check
  | .restore => .restore check
  | .readStatus => .readStatus check
  | .setWatch number quantity relation threshold state => .setWatch number quantity relation threshold state check
  | .clearWatch number => .clearWatch number check
  | .readWatch number => .readWatch number check
  | .readEvents => .readEvents check
  | .setEventEnables word => .setEventEnables word check
  | .setInterruptLine enabled level drive => .setInterruptLine enabled level drive check
  | .readInterrupt => .readInterrupt check
  | .setCueLine line function edge enable => .setCueLine line function edge enable check
  | .clearLineFlags mask => .clearLineFlags mask check
  | .readCueLine line => .readCueLine line check
  | .setIndicator line mode node fixed level highZ => .setIndicator line mode node fixed level highZ check
  | .readIndicator line => .readIndicator line check
  | .refreshIndicators => .refreshIndicators check
  | .readLines => .readLines check
  | .setCheckMode value => .setCheckMode value check

end Sys2Proof
end

