-- ==== Sys2Proof/Decode.lean ====
section
/-! DEFINITION. The codec of link frames (R178): the code of each command, the number of its argument
bytes, the bytes a command is sent as, and the command that a code and its argument bytes spell. A code
that names no command has no argument count and decodes to nothing (R179). After it `decodeTableWord`,
which the host asks for: spec/opcode_table.json gives no bits for any row, so no word spells a command. -/

namespace Sys2Proof

/-- A two-byte number as it is sent, most significant byte first (R178). -/
def bytes16 (w : U16) : List Byte := [w.extractLsb' 8 8, w.extractLsb' 0 8]

/-- A three-byte word as it is sent (R194). -/
def bytes24 (w : U24) : List Byte := [w.extractLsb' 16 8, w.extractLsb' 8 8, w.extractLsb' 0 8]

/-- A four-byte number as it is sent (R178). -/
def bytes32 (w : U32) : List Byte :=
  [w.extractLsb' 24 8, w.extractLsb' 16 8, w.extractLsb' 8 8, w.extractLsb' 0 8]

/-- The two-byte number that two bytes spell (R178). -/
def word16 (b1 b0 : Byte) : U16 := b1 ++ b0

/-- The three-byte word that three bytes spell (R194). -/
def word24 (b2 b1 b0 : Byte) : U24 := b2 ++ b1 ++ b0

/-- The four-byte number that four bytes spell (R178). -/
def word32 (b3 b2 b1 b0 : Byte) : U32 := b3 ++ b2 ++ b1 ++ b0

/-- The command byte of a command (R178). -/
def Command.code : Command → Byte
  | .defineNode _ _ _ => 0x10
  | .defineSwitch _ _ _ _ => 0x11
  | .buildEnd => 0x12
  | .clearModel => 0x13
  | .setPolicy _ => 0x20
  | .overrideSwitch _ _ => 0x21
  | .retireSwitch _ => 0x22
  | .lookupSwitch _ => 0x23
  | .lookupNode _ => 0x30
  | .lookupIsland _ _ => 0x31
  | .walkSet _ _ _ => 0x32
  | .walkMove _ => 0x33
  | .readTable _ _ => 0x34
  | .readClock => 0x40
  | .setPacing _ _ => 0x41
  | .setEnd _ => 0x42
  | .setMark _ _ => 0x43
  | .setStepSpan _ => 0x44
  | .loadBatch _ _ => 0x50
  | .armBatch _ => 0x51
  | .discardBatch _ => 0x52
  | .readBatch _ => 0x53
  | .start => 0x60
  | .pause => 0x61
  | .resume => 0x62
  | .step => 0x63
  | .restore => 0x64
  | .readStatus => 0x65
  | .setWatch _ _ _ _ _ => 0x70
  | .clearWatch _ => 0x71
  | .readWatch _ => 0x72
  | .readEvents => 0x73
  | .setEventEnables _ => 0x74
  | .setInterruptLine _ _ _ => 0x75
  | .readInterrupt => 0x76
  | .setCueLine _ _ _ _ => 0x80
  | .clearLineFlags _ => 0x81
  | .readCueLine _ => 0x82
  | .setIndicator _ _ _ _ _ _ => 0x83
  | .readIndicator _ => 0x84
  | .refreshIndicators => 0x85
  | .readLines => 0x86
  | .setCheckMode _ => 0x90

/-- The argument bytes of a command, in the order its rule gives (R178). -/
def Command.argBytes : Command → List Byte
  | .defineNode node kind online => bytes16 node ++ [kind, online]
  | .defineSwitch sw endA endB position => bytes16 sw ++ bytes16 endA ++ bytes16 endB ++ [position]
  | .buildEnd => []
  | .clearModel => []
  | .setPolicy policy => [policy]
  | .overrideSwitch sw action => bytes16 sw ++ [action]
  | .retireSwitch sw => bytes16 sw
  | .lookupSwitch sw => bytes16 sw
  | .lookupNode node => bytes16 node
  | .lookupIsland island generation => bytes16 island ++ [generation]
  | .walkSet island generation stride => bytes16 island ++ [generation, stride]
  | .walkMove move => [move]
  | .readTable table first => [table] ++ bytes16 first
  | .readClock => []
  | .setPacing rate direction => bytes16 rate ++ [direction]
  | .setEnd endTime => bytes32 endTime
  | .setMark presence mark => [presence] ++ bytes32 mark
  | .setStepSpan span => bytes32 span
  | .loadBatch letter tag => [letter, tag]
  | .armBatch letter => [letter]
  | .discardBatch letter => [letter]
  | .readBatch letter => [letter]
  | .start => []
  | .pause => []
  | .resume => []
  | .step => []
  | .restore => []
  | .readStatus => []
  | .setWatch number quantity relation threshold state => [number, quantity, relation] ++ bytes16 threshold ++ [state]
  | .clearWatch number => [number]
  | .readWatch number => [number]
  | .readEvents => []
  | .setEventEnables word => bytes24 word
  | .setInterruptLine enabled level drive => [enabled, level, drive]
  | .readInterrupt => []
  | .setCueLine line function edge enable => [line, function, edge, enable]
  | .clearLineFlags mask => [mask]
  | .readCueLine line => [line]
  | .setIndicator line mode node fixed level highZ => [line, mode] ++ bytes16 node ++ [fixed, level, highZ]
  | .readIndicator line => [line]
  | .refreshIndicators => []
  | .readLines => []
  | .setCheckMode value => [value]

/-- All bytes of a command's frame without check bytes: the command byte, then the arguments. -/
def Command.frameBytes (c : Command) : List Byte := c.code :: c.argBytes

/-- The number of argument bytes a command byte calls for; nothing for a byte that names no command
(R178, R179). -/
def argCount (code : Byte) : Option Nat :=
  match code.toNat with
  | 0x10 => some 4
  | 0x11 => some 7
  | 0x12 => some 0
  | 0x13 => some 0
  | 0x20 => some 1
  | 0x21 => some 3
  | 0x22 => some 2
  | 0x23 => some 2
  | 0x30 => some 2
  | 0x31 => some 3
  | 0x32 => some 4
  | 0x33 => some 1
  | 0x34 => some 3
  | 0x40 => some 0
  | 0x41 => some 3
  | 0x42 => some 4
  | 0x43 => some 5
  | 0x44 => some 4
  | 0x50 => some 2
  | 0x51 => some 1
  | 0x52 => some 1
  | 0x53 => some 1
  | 0x60 => some 0
  | 0x61 => some 0
  | 0x62 => some 0
  | 0x63 => some 0
  | 0x64 => some 0
  | 0x65 => some 0
  | 0x70 => some 6
  | 0x71 => some 1
  | 0x72 => some 1
  | 0x73 => some 0
  | 0x74 => some 3
  | 0x75 => some 3
  | 0x76 => some 0
  | 0x80 => some 4
  | 0x81 => some 1
  | 0x82 => some 1
  | 0x83 => some 7
  | 0x84 => some 1
  | 0x85 => some 0
  | 0x86 => some 0
  | 0x90 => some 1
  | _ => none

/-- A command of no byte of arguments, from exactly that many. -/
def spell0 (c : Command) : List Byte → Option Command
  | [] => some c
  | _ => none

/-- A command of one byte of arguments, from exactly that many. -/
def spell1 (c : Byte → Command) : List Byte → Option Command
  | [b0] => some (c b0)
  | _ => none

/-- A command of two bytes of arguments, from exactly that many. -/
def spell2 (c : Byte → Byte → Command) : List Byte → Option Command
  | [b0, b1] => some (c b0 b1)
  | _ => none

/-- A command of three bytes of arguments, from exactly that many. -/
def spell3 (c : Byte → Byte → Byte → Command) : List Byte → Option Command
  | [b0, b1, b2] => some (c b0 b1 b2)
  | _ => none

/-- A command of four bytes of arguments, from exactly that many. -/
def spell4 (c : Byte → Byte → Byte → Byte → Command) : List Byte → Option Command
  | [b0, b1, b2, b3] => some (c b0 b1 b2 b3)
  | _ => none

/-- A command of five bytes of arguments, from exactly that many. -/
def spell5 (c : Byte → Byte → Byte → Byte → Byte → Command) : List Byte → Option Command
  | [b0, b1, b2, b3, b4] => some (c b0 b1 b2 b3 b4)
  | _ => none

/-- A command of six bytes of arguments, from exactly that many. -/
def spell6 (c : Byte → Byte → Byte → Byte → Byte → Byte → Command) : List Byte → Option Command
  | [b0, b1, b2, b3, b4, b5] => some (c b0 b1 b2 b3 b4 b5)
  | _ => none

/-- A command of seven bytes of arguments, from exactly that many. -/
def spell7 (c : Byte → Byte → Byte → Byte → Byte → Byte → Byte → Command) : List Byte → Option Command
  | [b0, b1, b2, b3, b4, b5, b6] => some (c b0 b1 b2 b3 b4 b5 b6)
  | _ => none

/-- The command that a command byte and its argument bytes spell (R178). -/
def decodeCommand (code : Byte) (args : List Byte) : Option Command :=
  match code.toNat with
  | 0x10 => spell4 (fun b0 b1 b2 b3 => .defineNode (word16 b0 b1) b2 b3) args
  | 0x11 => spell7 (fun b0 b1 b2 b3 b4 b5 b6 => .defineSwitch (word16 b0 b1) (word16 b2 b3) (word16 b4 b5) b6) args
  | 0x12 => spell0 .buildEnd args
  | 0x13 => spell0 .clearModel args
  | 0x20 => spell1 (fun b0 => .setPolicy b0) args
  | 0x21 => spell3 (fun b0 b1 b2 => .overrideSwitch (word16 b0 b1) b2) args
  | 0x22 => spell2 (fun b0 b1 => .retireSwitch (word16 b0 b1)) args
  | 0x23 => spell2 (fun b0 b1 => .lookupSwitch (word16 b0 b1)) args
  | 0x30 => spell2 (fun b0 b1 => .lookupNode (word16 b0 b1)) args
  | 0x31 => spell3 (fun b0 b1 b2 => .lookupIsland (word16 b0 b1) b2) args
  | 0x32 => spell4 (fun b0 b1 b2 b3 => .walkSet (word16 b0 b1) b2 b3) args
  | 0x33 => spell1 (fun b0 => .walkMove b0) args
  | 0x34 => spell3 (fun b0 b1 b2 => .readTable b0 (word16 b1 b2)) args
  | 0x40 => spell0 .readClock args
  | 0x41 => spell3 (fun b0 b1 b2 => .setPacing (word16 b0 b1) b2) args
  | 0x42 => spell4 (fun b0 b1 b2 b3 => .setEnd (word32 b0 b1 b2 b3)) args
  | 0x43 => spell5 (fun b0 b1 b2 b3 b4 => .setMark b0 (word32 b1 b2 b3 b4)) args
  | 0x44 => spell4 (fun b0 b1 b2 b3 => .setStepSpan (word32 b0 b1 b2 b3)) args
  | 0x50 => spell2 (fun b0 b1 => .loadBatch b0 b1) args
  | 0x51 => spell1 (fun b0 => .armBatch b0) args
  | 0x52 => spell1 (fun b0 => .discardBatch b0) args
  | 0x53 => spell1 (fun b0 => .readBatch b0) args
  | 0x60 => spell0 .start args
  | 0x61 => spell0 .pause args
  | 0x62 => spell0 .resume args
  | 0x63 => spell0 .step args
  | 0x64 => spell0 .restore args
  | 0x65 => spell0 .readStatus args
  | 0x70 => spell6 (fun b0 b1 b2 b3 b4 b5 => .setWatch b0 b1 b2 (word16 b3 b4) b5) args
  | 0x71 => spell1 (fun b0 => .clearWatch b0) args
  | 0x72 => spell1 (fun b0 => .readWatch b0) args
  | 0x73 => spell0 .readEvents args
  | 0x74 => spell3 (fun b0 b1 b2 => .setEventEnables (word24 b0 b1 b2)) args
  | 0x75 => spell3 (fun b0 b1 b2 => .setInterruptLine b0 b1 b2) args
  | 0x76 => spell0 .readInterrupt args
  | 0x80 => spell4 (fun b0 b1 b2 b3 => .setCueLine b0 b1 b2 b3) args
  | 0x81 => spell1 (fun b0 => .clearLineFlags b0) args
  | 0x82 => spell1 (fun b0 => .readCueLine b0) args
  | 0x83 => spell7 (fun b0 b1 b2 b3 b4 b5 b6 => .setIndicator b0 b1 (word16 b2 b3) b4 b5 b6) args
  | 0x84 => spell1 (fun b0 => .readIndicator b0) args
  | 0x85 => spell0 .refreshIndicators args
  | 0x86 => spell0 .readLines args
  | 0x90 => spell1 (fun b0 => .setCheckMode b0) args
  | _ => none

/-- The check byte of a run of bytes: their XOR (R186, R187). -/
def xorBytes (bytes : List Byte) : Byte := bytes.foldl (· ^^^ ·) 0

/-- The command that a word spells by the table's bits. spec/opcode_table.json gives no bits for any row,
so no word spells one. -/
def decodeTableWord (_nbits _w : Nat) : Option Instr := none

end Sys2Proof
end

