-- ==== Sys2Proof/Config.lean ====
section
/-! DEFINITION. The fixed sizes of the part (00_scope.md, "Capacities at a glance") and the maxima at
which its counts saturate, and one free value. No command leaves a value open: the free value is a level on a wire. -/

namespace Sys2Proof.Config

/-- Node ids are 0 to 4095 (R1). -/
def nodeCapacity : Nat := 4096

/-- Switch ids are 0 to 8191 (R3). -/
def switchCapacity : Nat := 8192

/-- Island ids are 0 to 4095 (R38). -/
def islandCapacity : Nat := 4096

/-- The work queue holds at most 64 jobs (R44). -/
def queueCapacity : Nat := 64

/-- A batch buffer holds at most 256 entries (R98, R102). -/
def bufferCapacity : Nat := 256

/-- The link turn falls due at 16 grants given to others (R71). -/
def linkTurn : Nat := 16

/-- The sequencer turn falls due at 4 resolver grants (R72). -/
def sequencerTurn : Nat := 4

/-- The greatest replay time, 4,294,967,295 (R80). -/
def maxTime : Nat := 4294967295

/-- The greatest rate, 64 times real time (R80, R90). -/
def maxRate : Nat := 16384

/-- Sixteen-bit counts saturate at 65,535 (00_scope.md, "Numbers and byte order"). -/
def max16 : Nat := 65535

/-- The entries-applied count saturates at 4,294,967,295 (R119). -/
def max32 : Nat := 4294967295

/-- The level that SDO is driven to from the assertion of SEL to the first edge of SCK with LMODE1 high. The spec
states none, and nothing is known of it (R175; log 28). -/
opaque sdoBeforeFirstBit : Bool

end Sys2Proof.Config
end

