-- ==== Sys2Proof/Machine/State.lean ====
section
/-! DEFINITION. The state of the part, block by block as 00_scope.md lists them, as plain data. What is
only a view of other state (the free island pool, the interrupt request, the pins) is computed elsewhere. -/

namespace Sys2Proof.Machine

/-! ### The Table Store (R1 to R3, R38) -/

/-- Records by id: ids strictly rising, an id that is not listed holds the table's default. -/
abbrev Tab (α : Type) := List (Nat × α)

/-- The kind of a node (R1, codes R193). -/
inductive NodeKind where
  | bus | source | load
  deriving DecidableEq, Repr

/-- The position of a switch as the archive gives it (R3, codes R193). -/
inductive Position where
  | opened | closed | transit | invalid
  deriving DecidableEq, Repr

/-- A position that topology can use (R3). -/
inductive Contact where
  | opened | closed
  deriving DecidableEq, Repr

/-- Whether an online source feeds an island (R40). -/
inductive Feed where
  | dead | live
  deriving DecidableEq, Repr

/-- A defined node's record (R1). -/
structure NodeRec where
  kind : NodeKind
  /-- Present for a SOURCE node only. -/
  initialOnline : Option Bool
  /-- Present for a SOURCE node only. -/
  online : Option Bool
  island : Option Nat
  prev : Option Nat
  next : Option Nat
  /-- The switch ids that touch the node, ascending (R2). -/
  incidence : List Nat
  deriving DecidableEq, Repr

/-- A defined switch's record (R3). -/
structure SwitchRec where
  endA : Nat
  endB : Nat
  initial : Contact
  archived : Position
  held : Contact
  override : Option Contact
  effective : Contact
  retired : Bool
  discrepancy : Bool
  changeCount : Nat
  lastChange : Option Nat
  deriving DecidableEq, Repr

/-- The fields of an island record that are present while the island exists (R38). -/
structure Island where
  feed : Feed
  memberCount : Nat
  sourceCount : Nat
  loadCount : Nat
  first : Nat
  last : Nat
  since : Nat
  deriving DecidableEq, Repr

/-- An island record: the generation is kept whether or not the island exists (R38). -/
structure IslandRec where
  generation : Byte
  body : Option Island
  deriving DecidableEq, Repr

/-- The tables of the Table Store. An unlisted node or switch is undefined; an unlisted island id does
not exist and has generation 0 (R19). -/
structure Store where
  nodes : Tab NodeRec
  switches : Tab SwitchRec
  islands : Tab IslandRec
  deriving DecidableEq, Repr

/-- The invalid policy (R24). -/
inductive Policy where
  | hold | asOpen | asClosed
  deriving DecidableEq, Repr

/-! ### The Island Resolver (R42 to R45, R62) -/

/-- The three device counts (R42). -/
structure Counts where
  live : Nat
  deadNodes : Nat
  deadLoads : Nat
  deriving DecidableEq, Repr

/-- A job of the work queue with its subject and cause time (R44). -/
inductive Job where
  | merge (sw cause : Nat)
  | split (sw cause : Nat)
  | source (node : Nat) (online : Bool) (cause : Nat)
  deriving DecidableEq, Repr

/-- The stage of the job in progress (R45). -/
inductive JobStage where
  | guard | search | relabel
  deriving DecidableEq, Repr

/-- The two sides of a SPLIT's search (R52). -/
inductive SideName where
  | a | b
  deriving DecidableEq, Repr

/-- One side's queue and visited set, both in the order the nodes entered (R52, R54). -/
structure Side where
  queue : List Nat
  visited : List Nat
  deriving DecidableEq, Repr

/-- The job in progress (R45). -/
structure JobInProgress where
  job : Job
  stage : JobStage
  /-- The device counts when the job was taken. -/
  atTake : Counts
  survivor : Option Nat
  absorbed : Option Nat
  sideA : Side
  sideB : Side
  /-- The side whose turn is next. -/
  turn : SideName
  exhausted : Option SideName
  /-- The nodes still to relabel; the first is the next node to relabel. -/
  toRelabel : List Nat
  newIsland : Option Nat
  /-- The job has moved a node or changed an island's state (R48 step 2). -/
  touched : Bool
  deriving DecidableEq, Repr

/-- The walk cursor (R62). -/
structure Cursor where
  island : Nat
  generation : Byte
  current : Option Nat
  stride : Nat
  valid : Bool
  deriving DecidableEq, Repr

/-- The state of the Island Resolver beside the tables. -/
structure Resolver where
  counts : Counts
  queue : List Job
  current : Option JobInProgress
  cursor : Cursor
  deriving DecidableEq, Repr

/-! ### The Store Arbiter (R68) -/

/-- The holder of the current grant (R68). -/
inductive Grant where
  | none | compileRestore | resolver | sequencer | link
  deriving DecidableEq, Repr

/-- The arbiter's register and counts (R68), the claims that wait (R69), and a CLEAR MODEL that waits for
the grant in progress to end (R79). -/
structure Arbiter where
  grant : Grant
  linkWait : Nat
  sequencerWait : Nat
  resolverClaim : Bool
  sequencerClaim : Bool
  linkClaim : Bool
  clearPending : Bool
  deriving DecidableEq, Repr

/-! ### The Replay Clock (R80) -/

/-- The direction of play, and the direction tag of a batch. -/
inductive Direction where
  | forward | reverse
  deriving DecidableEq, Repr

/-- The clock's state (R80). -/
structure Clock where
  time : Nat
  frac : Nat
  rate : Nat
  direction : Direction
  endTime : Nat
  mark : Option Nat
  span : Nat
  boundary : Option Nat
  starve : Bool
  backlog : Bool
  holdLine : Bool
  pausedState : Bool
  deriving DecidableEq, Repr

/-! ### The Sequencer (R98, R99, R115, R119) -/

/-- The letter of a batch buffer. -/
inductive BufferName where
  | a | b
  deriving DecidableEq, Repr

/-- The state of a batch buffer (R98, R99). -/
inductive BufferState where
  | empty | loading | armed | active | spent
  deriving DecidableEq, Repr

/-- The outcome of a load (R98). -/
inductive LoadOutcome where
  | ok | check | full
  deriving DecidableEq, Repr

/-- The record of the last accepted LOAD BATCH frame of a buffer (R98). -/
structure LastLoad where
  outcome : LoadOutcome
  counted : Nat
  torn : Bool
  deriving DecidableEq, Repr

/-- A batch buffer (R98). An entry is its eight bytes as one number, byte 0 the most significant; the
entry count is the length of the list. -/
structure Buffer where
  state : BufferState
  tag : Option Direction
  entries : List (BitVec 64)
  index : Nat
  lastLoad : Option LastLoad
  deriving DecidableEq, Repr

/-- The run statistics (R119). -/
structure Stats where
  applied : Nat
  maxLag : Nat
  outOfOrder : Nat
  faults : Nat
  discrepancies : Nat
  previous : Option Nat
  deriving DecidableEq, Repr

/-- The state of the Sequencer. -/
structure Sequencer where
  bufferA : Buffer
  bufferB : Buffer
  armOrder : List BufferName
  cueStop : Bool
  stats : Stats
  deriving DecidableEq, Repr

/-! ### The Run Controller (R124) -/

/-- The run state (R124). -/
inductive RunState where
  | build | compiling | ready | running | stepping | paused | ended | restoring
  deriving DecidableEq, Repr

/-- The stage that the compile operation takes next (R10 to R14; log 22). -/
inductive CompileStage where
  | incidence | starting | labelling
  deriving DecidableEq, Repr

/-- The stage that the restore operation takes next (R124, R138 to R140). -/
inductive RestoreStage where
  | first | second | labelling
  deriving DecidableEq, Repr

/-- The run state and the progress of the two operations. -/
structure RunControl where
  state : RunState
  compileStage : Option CompileStage
  restoreStage : Option RestoreStage
  deriving DecidableEq, Repr

/-! ### The Watch Unit (R145, R153, R156, R157) -/

/-- The quantities a condition may watch (R146). -/
inductive Quantity where
  | liveIslands | deadNodes | deadLoads | maxLag | discrepancies
  deriving DecidableEq, Repr

/-- The relation of a watch condition (R147). -/
inductive Relation where
  | atLeast | atMost
  deriving DecidableEq, Repr

/-- The state of a watch condition (R145). -/
inductive WatchState where
  | disabled | armed | tripped
  deriving DecidableEq, Repr

/-- A watch condition (R145). -/
structure Watch where
  quantity : Quantity
  relation : Relation
  threshold : Nat
  state : WatchState
  tripTime : Option Nat
  deriving DecidableEq, Repr

/-- The nineteen events (R153), numbered in R194. -/
inductive Event where
  | buildDone | restoreDone | settled | starved | backlog | batchDone | batchRejected | entryFault
  | entryTorn | cue | mark | stepDone | ended | watch0 | watch1 | watch2 | watch3 | cueLine | linkCheck
  deriving DecidableEq, Repr

/-- The Watch Unit. Bit n of `flags` and `enables` is the flag numbered n in R194. -/
structure WatchUnit where
  conditions : Vector Watch 4
  flags : BitVec 19
  enables : BitVec 19
  intEnabled : Bool
  /-- The active level of INT is HIGH. -/
  intActiveHigh : Bool
  /-- The drive is PUSH_PULL; otherwise OPEN_DRAIN. -/
  intPushPull : Bool
  deriving DecidableEq, Repr

/-! ### The Panel Port (R161, R167, R171) -/

/-- The function of a cue line (R161). -/
inductive CueFunction where
  | none | step | hold | pauseToggle
  deriving DecidableEq, Repr

/-- The edge select of a cue line (R161). -/
inductive CueEdge where
  | rising | falling
  deriving DecidableEq, Repr

/-- A cue line (R161). A level is `true` when HIGH. -/
structure CueLine where
  function : CueFunction
  edge : CueEdge
  intEnable : Bool
  flag : Bool
  taken : Option Bool
  lastSample : Option Bool
  deriving DecidableEq, Repr

/-- The mode of an indicator line (R167). -/
inductive IndicatorMode where
  | fixed | live | deadFlash
  deriving DecidableEq, Repr

/-- The followed state of an indicator line (R168). -/
inductive Followed where
  | none | live | dead | unknown
  deriving DecidableEq, Repr

/-- An indicator line (R167). -/
structure Indicator where
  mode : IndicatorMode
  node : Nat
  /-- The fixed level is ACTIVE. -/
  fixedActive : Bool
  /-- The active level is HIGH. -/
  activeHigh : Bool
  highZ : Bool
  followed : Followed
  deriving DecidableEq, Repr

/-- The Panel Port. -/
structure Panel where
  cues : Vector CueLine 8
  indicators : Vector Indicator 16
  /-- The flash phase is ACTIVE_HALF. -/
  flashActive : Bool
  deriving DecidableEq, Repr

/-! ### The Link Port (R175 to R177, R184) -/

/-- The state of the frame (R177). -/
inductive FrameState where
  | idle | command | arguments | check | waiting | status | reply | entries | refusedLoad | trailing
  deriving DecidableEq, Repr

/-- The status of a command (R180). -/
inductive Status where
  | ok | busy | protect | range | stale | check | unknown | full | finish
  deriving DecidableEq, Repr

/-- The tables READ TABLE streams (R66). -/
inductive TableName where
  | nodes | switches | islands
  deriving DecidableEq, Repr

/-- The reading commands whose reply items are taken when their status byte is sent (R181). -/
inductive LateRead where
  | status | events | interrupt | lines
  deriving DecidableEq, Repr

/-- The stream of a READ TABLE frame: the table and the index of the next record (R66). -/
structure Stream where
  table : TableName
  index : Nat
  deriving DecidableEq, Repr

/-- The Link Port. -/
structure Link where
  frame : FrameState
  /-- The command byte of the frame. -/
  code : Option Byte
  /-- The argument bytes gathered so far. -/
  args : List Byte
  /-- The running XOR of the argument bytes. -/
  xor : Byte
  /-- The check-mode flag that governs the frame. -/
  frameCheck : Bool
  /-- The check-mode flag (R184). -/
  checkMode : Bool
  /-- The value a SET CHECK MODE gives the flag when its status byte has been sent (R185). -/
  checkNext : Option Bool
  /-- The command decided and not yet carried out: its claim waits or is granted, or it is a CLEAR MODEL
  that has not acted (R177 WAITING). -/
  taken : Option Command
  /-- A byte position that began in WAITING has begun and has not ended, so that it carries a wait byte whatever the
  frame state is by now (R176; log 29). -/
  waitBegun : Bool
  /-- The bytes of the present reply that have not been sent, its status first. -/
  reply : List Byte
  /-- The reading command whose items are still to be taken, with its status byte (R181). -/
  late : Option LateRead
  /-- Replies of later streamed records, held until the present one has been sent (R182). -/
  ready : List (List Byte)
  stream : Option Stream
  /-- The buffer of an accepted LOAD BATCH. -/
  load : Option BufferName
  /-- The bytes of the entry being gathered (R101). -/
  gathered : List Byte
  /-- The status a LOAD BATCH was refused with (R104). -/
  refusal : Option Status
  /-- The flags a READ EVENTS has captured and not yet delivered (R155). -/
  captured : Option (BitVec 19)
  /-- SEL was low when RESETn was released and has not gone high since (R177). -/
  awaitSelHigh : Bool
  lmode0 : Bool
  lmode1 : Bool
  lchk : Bool
  deriving DecidableEq, Repr

/-! ### The whole part -/

/-- The state of the part, and the queue of commands and events that wait, oldest first. -/
structure State where
  store : Store
  policy : Policy
  resolver : Resolver
  arbiter : Arbiter
  clock : Clock
  sequencer : Sequencer
  run : RunControl
  watch : WatchUnit
  panel : Panel
  link : Link
  pending : List Instr
  deriving DecidableEq, Repr

/-- Why the machine stops with a fault: nothing does. The part answers every error with a status byte, an
event flag, a count or a hold. -/
inductive Fault where
  deriving DecidableEq, Repr

/-- Why a step has no meaning. -/
inductive Refusal where
  /-- Raised by an arm of `exec` whose instruction has no meaning yet. Safe: the model stops. -/
  | notModelled (mnemonic : String)
  deriving DecidableEq, Repr

/-! ### Reset values -/

/-- A batch buffer in EMPTY (R98). -/
def Buffer.cleared : Buffer :=
  { state := .empty, tag := none, entries := [], index := 0, lastLoad := none }

/-- The run statistics after each of the three resets (R119). -/
def Stats.zero : Stats :=
  { applied := 0, maxLag := 0, outOfOrder := 0, faults := 0, discrepancies := 0, previous := none }

/-- The Sequencer after each of the three resets (R98, R99, R115, R119, R123). -/
def Sequencer.cleared : Sequencer :=
  { bufferA := .cleared, bufferB := .cleared, armOrder := [], cueStop := false, stats := .zero }

/-- Device counts of an empty model (R17, R19). -/
def Counts.zero : Counts := { live := 0, deadNodes := 0, deadLoads := 0 }

/-- The arbiter after hardware reset and CLEAR MODEL (R68, R79). -/
def Arbiter.free : Arbiter :=
  { grant := .none, linkWait := 0, sequencerWait := 0, resolverClaim := false,
    sequencerClaim := false, linkClaim := false, clearPending := false }

/-- The clock after hardware reset (R80). -/
def Clock.initial : Clock :=
  { time := 0, frac := 0, rate := 256, direction := .forward, endTime := Config.maxTime, mark := none,
    span := 10000, boundary := none, starve := false, backlog := false, holdLine := false,
    pausedState := false }

/-- A watch condition after hardware reset (R145). -/
def Watch.initial : Watch :=
  { quantity := .liveIslands, relation := .atLeast, threshold := 0, state := .disabled, tripTime := none }

/-- The Watch Unit after hardware reset (R145, R160). -/
def WatchUnit.initial : WatchUnit :=
  { conditions := Vector.replicate 4 .initial, flags := 0, enables := 0, intEnabled := false,
    intActiveHigh := false, intPushPull := false }

/-- A cue line after hardware reset (R161). -/
def CueLine.initial : CueLine :=
  { function := .none, edge := .rising, intEnable := false, flag := false, taken := none,
    lastSample := none }

/-- An indicator line after hardware reset (R167). -/
def Indicator.initial : Indicator :=
  { mode := .fixed, node := 0, fixedActive := false, activeHigh := true, highZ := true,
    followed := .none }

/-- The Panel Port after hardware reset (R161, R167, R171). -/
def Panel.initial : Panel :=
  { cues := Vector.replicate 8 .initial, indicators := Vector.replicate 16 .initial,
    flashActive := true }

/-- The Link Port after hardware reset with the straps as sampled; `selLow` says that SEL is low when
RESETn is released (R175, R177, R184, R190). The running XOR and the frame's check flag have no reset
value in the spec (log 14), nor has the command byte, which is absent here (log 27). -/
def Link.initial (lmode0 lmode1 lchk selLow : Bool) : Link :=
  { frame := .idle, code := none, args := [], xor := 0, frameCheck := false, checkMode := lchk,
    checkNext := none, taken := none, waitBegun := false, reply := [], late := none, ready := [], stream := none,
    load := none, gathered := [], refusal := none, captured := none, awaitSelHigh := selLow, lmode0 := lmode0,
    lmode1 := lmode1, lchk := lchk }

/-- The whole part after hardware reset with the straps as sampled (R19, R24, R62, R68, R80, R98, R119,
R124, R145, R160, R161, R167, R171, R190). -/
def State.afterReset (lmode0 lmode1 lchk selLow : Bool) (pending : List Instr) : State :=
  { store := { nodes := [], switches := [], islands := [] },
    policy := .hold,
    resolver :=
      { counts := .zero, queue := [], current := none,
        cursor := { island := 0, generation := 0, current := none, stride := 1, valid := false } },
    arbiter := .free,
    clock := .initial,
    sequencer := .cleared,
    run := { state := .build, compileStage := none, restoreStage := none },
    watch := .initial,
    panel := .initial,
    link := .initial lmode0 lmode1 lchk selLow,
    pending := pending }

/-- The machine right after hardware reset, with the straps low, SEL high (log 14) and an empty queue. -/
def State.reset : State := State.afterReset false false false false []

end Sys2Proof.Machine
end

