-- ==== Sys2Proof/Machine/Flags.lean ====
section
/-! DEFINITION. The event flags (R153), the interrupt request and INT (R158), the SETTLE line (R172), the
conditions over the cue lines (R164) and the indicator outputs (R170). All but the raising of a flag are
views of State: no line holds a state of its own. -/

namespace Sys2Proof.Machine

/-- The number of an event's flag (R194). -/
def Event.bit : Event → Nat
  | .buildDone => 0
  | .restoreDone => 1
  | .settled => 2
  | .starved => 3
  | .backlog => 4
  | .batchDone => 5
  | .batchRejected => 6
  | .entryFault => 7
  | .entryTorn => 8
  | .cue => 9
  | .mark => 10
  | .stepDone => 11
  | .ended => 12
  | .watch0 => 13
  | .watch1 => 14
  | .watch2 => 15
  | .watch3 => 16
  | .cueLine => 17
  | .linkCheck => 18

/-- Whether the flag of an event is yes. -/
def State.flag (s : State) (e : Event) : Bool := s.watch.flags.getLsbD e.bit

/-- Raises an event: its flag becomes yes, whatever its enable and the run state (R153). -/
def raise (e : Event) (s : State) : State :=
  { s with watch.flags := s.watch.flags ||| (1#19 <<< e.bit) }

/-- The event word: bit n is flag n, bits 19 to 23 are 0 (R194). -/
def eventWord (flags : BitVec 19) : U24 := flags.setWidth 24

/-- The interrupt request: some flag is yes with its enable on (R158). -/
def State.interruptRequest (s : State) : Bool := (s.watch.flags &&& s.watch.enables) != 0

/-- The level of an output pin. -/
inductive PinLevel where
  | low | high | highZ
  deriving DecidableEq, Repr

/-- A driven level. -/
def PinLevel.ofBool (b : Bool) : PinLevel := if b then .high else .low

/-- The interrupt line INT (R158). -/
def State.intPin (s : State) : PinLevel :=
  if !s.watch.intEnabled then .highZ
  else if s.watch.intPushPull then
    PinLevel.ofBool (s.interruptRequest == s.watch.intActiveHigh)
  else if s.interruptRequest then .low else .highZ

/-- The part is settled: the work queue is empty and no job is in progress (R47). -/
def State.settled (s : State) : Bool := s.resolver.queue.isEmpty && s.resolver.current.isNone

/-- The run is COMPILING or RESTORING: compile or restore holds the Table Store (R73). -/
def RunState.holdsStore : RunState → Bool
  | .compiling => true
  | .restoring => true
  | _ => false

/-- The SETTLE line is active; it drives LOW while it is (R172). -/
def State.settleActive (s : State) : Bool := !s.settled || s.run.state.holdsStore

/-- The level of the SETTLE pin, driven at all times (R172). -/
def State.settlePin (s : State) : PinLevel := PinLevel.ofBool (!s.settleActive)

/-- A cue line is asserted while its taken level is the level its edge select names (R161). -/
def CueLine.asserted (c : CueLine) : Bool :=
  match c.edge with
  | .rising => c.taken == some true
  | .falling => c.taken == some false

/-- The HOLD condition (R164). -/
def Panel.holdCondition (p : Panel) : Bool :=
  p.cues.toList.any fun c => decide (c.function = .hold) && c.asserted

/-- The STEP condition (R164). -/
def Panel.stepCondition (p : Panel) : Bool :=
  p.cues.toList.any fun c => decide (c.function = .step) && c.asserted

/-- An indicator line shows its active level (R170): the first two columns of the table after high
impedance. -/
def Indicator.lit (l : Indicator) (flashActive : Bool) : Bool :=
  match l.mode, l.followed with
  | .fixed, _ => l.fixedActive
  | .live, .live => true
  | .live, _ => false
  | .deadFlash, .live => true
  | .deadFlash, .dead => flashActive
  | .deadFlash, _ => false

/-- The output of an indicator line (R170). -/
def Indicator.output (l : Indicator) (flashActive : Bool) : PinLevel :=
  if l.highZ then .highZ else PinLevel.ofBool (l.lit flashActive == l.activeHigh)

end Sys2Proof.Machine
end

