-- ==== Sys2Proof/Machine/Operands.lean ====
section
/-! DEFINITION. The operand forms: the codes of R193 and R180 in both directions, numbers as reply bytes,
and the layout of a batch entry (R191). A byte outside its field's codes reads as `none`. -/

namespace Sys2Proof.Machine

/-! ### Numbers in replies (most significant byte first) -/

/-- A number as one reply byte. -/
def byteOf (n : Nat) : Byte := BitVec.ofNat 8 n

/-- A number as two reply bytes. -/
def reply16 (n : Nat) : List Byte := bytes16 (BitVec.ofNat 16 n)

/-- A number as four reply bytes. -/
def reply32 (n : Nat) : List Byte := bytes32 (BitVec.ofNat 32 n)

/-- A yes-or-no field as one byte, 1 for yes. -/
def flagByte (b : Bool) : Byte := if b then 1 else 0

/-- An optional time as a presence byte and four bytes, 0 when absent (R192). -/
def replyTime (t : Option Nat) : List Byte :=
  match t with
  | some n => 1 :: reply32 n
  | none => 0 :: reply32 0

/-! ### Codes that commands carry (R193) -/

/-- A byte that must be 0 or 1. -/
def parseFlag (b : Byte) : Option Bool :=
  match b.toNat with
  | 0 => some false
  | 1 => some true
  | _ => none

/-- Node kind codes. -/
def parseKind (b : Byte) : Option NodeKind :=
  match b.toNat with
  | 0 => some .bus
  | 1 => some .source
  | 2 => some .load
  | _ => none

/-- Initial position codes: DEFINE SWITCH takes OPEN and CLOSED only. -/
def parseContact (b : Byte) : Option Contact :=
  match b.toNat with
  | 0 => some .opened
  | 1 => some .closed
  | _ => none

/-- Four-bit position codes of an entry; a value above 3 names no position (R191). -/
def parsePosition (n : Nat) : Option Position :=
  match n with
  | 0 => some .opened
  | 1 => some .closed
  | 2 => some .transit
  | 3 => some .invalid
  | _ => none

/-- Invalid policy codes. -/
def parsePolicy (b : Byte) : Option Policy :=
  match b.toNat with
  | 0 => some .hold
  | 1 => some .asOpen
  | 2 => some .asClosed
  | _ => none

/-- Override action codes: the override the action leaves, absent for RELEASE. -/
def parseAction (b : Byte) : Option (Option Contact) :=
  match b.toNat with
  | 0 => some (some .opened)
  | 1 => some (some .closed)
  | 2 => some none
  | _ => none

/-- The moves of WALK MOVE. -/
inductive WalkMoveName where
  | first | last | next | prev
  deriving DecidableEq, Repr

/-- Walk move codes. -/
def parseMove (b : Byte) : Option WalkMoveName :=
  match b.toNat with
  | 0 => some .first
  | 1 => some .last
  | 2 => some .next
  | 3 => some .prev
  | _ => none

/-- Table codes. -/
def parseTable (b : Byte) : Option TableName :=
  match b.toNat with
  | 0 => some .nodes
  | 1 => some .switches
  | 2 => some .islands
  | _ => none

/-- The number of indexes of a table (R66). -/
def tableSize : TableName → Nat
  | .nodes => Config.nodeCapacity
  | .switches => Config.switchCapacity
  | .islands => Config.islandCapacity

/-- Direction codes, of play and of a batch's tag. -/
def parseDirection (b : Byte) : Option Direction :=
  match b.toNat with
  | 1 => some .forward
  | 2 => some .reverse
  | _ => none

/-- Buffer letters. -/
def parseBuffer (b : Byte) : Option BufferName :=
  match b.toNat with
  | 0x41 => some .a
  | 0x42 => some .b
  | _ => none

/-- Watch quantity codes. -/
def parseQuantity (b : Byte) : Option Quantity :=
  match b.toNat with
  | 0 => some .liveIslands
  | 1 => some .deadNodes
  | 2 => some .deadLoads
  | 3 => some .maxLag
  | 4 => some .discrepancies
  | _ => none

/-- Watch relation codes. -/
def parseRelation (b : Byte) : Option Relation :=
  match b.toNat with
  | 0 => some .atLeast
  | 1 => some .atMost
  | _ => none

/-- Watch state codes: SET WATCH takes DISABLED and ARMED only. -/
def parseWatchState (b : Byte) : Option WatchState :=
  match b.toNat with
  | 0 => some .disabled
  | 1 => some .armed
  | _ => none

/-- Cue line function codes. -/
def parseFunction (b : Byte) : Option CueFunction :=
  match b.toNat with
  | 0 => some .none
  | 1 => some .step
  | 2 => some .hold
  | 3 => some .pauseToggle
  | _ => none

/-- Cue line edge codes. -/
def parseEdge (b : Byte) : Option CueEdge :=
  match b.toNat with
  | 0 => some .rising
  | 1 => some .falling
  | _ => none

/-- Indicator mode codes. -/
def parseMode (b : Byte) : Option IndicatorMode :=
  match b.toNat with
  | 0 => some .fixed
  | 1 => some .live
  | 2 => some .deadFlash
  | _ => none

/-- A watch condition number, 0 to 3. -/
def parseCondition (b : Byte) : Option (Fin 4) := if h : b.toNat < 4 then some ⟨b.toNat, h⟩ else none

/-- A cue line number, 0 to 7. -/
def parseCue (b : Byte) : Option (Fin 8) := if h : b.toNat < 8 then some ⟨b.toNat, h⟩ else none

/-- An indicator line number, 0 to 15. -/
def parseIndicator (b : Byte) : Option (Fin 16) :=
  if h : b.toNat < 16 then some ⟨b.toNat, h⟩ else none

/-! ### Codes that replies show (R180, R193) -/

/-- Status codes (R180). -/
def Status.code : Status → Byte
  | .ok => 0x01
  | .busy => 0x02
  | .protect => 0x03
  | .range => 0x04
  | .stale => 0x05
  | .check => 0x06
  | .unknown => 0x07
  | .full => 0x08
  | .finish => 0x09

/-- Node kind codes. -/
def NodeKind.code : NodeKind → Byte
  | .bus => 0
  | .source => 1
  | .load => 2

/-- Switch position codes. -/
def Position.code : Position → Byte
  | .opened => 0
  | .closed => 1
  | .transit => 2
  | .invalid => 3

/-- Switch position codes of a definite position. -/
def Contact.code : Contact → Byte
  | .opened => 0
  | .closed => 1

/-- Island state codes. -/
def Feed.code : Feed → Byte
  | .dead => 0
  | .live => 1

/-- Direction codes. -/
def Direction.code : Direction → Byte
  | .forward => 1
  | .reverse => 2

/-- Buffer state codes. -/
def BufferState.code : BufferState → Byte
  | .empty => 0
  | .loading => 1
  | .armed => 2
  | .active => 3
  | .spent => 4

/-- Last load outcome codes, those of the statuses of the same names. -/
def LoadOutcome.code : LoadOutcome → Byte
  | .ok => 0x01
  | .check => 0x06
  | .full => 0x08

/-- Run state codes. -/
def RunState.code : RunState → Byte
  | .build => 0
  | .compiling => 1
  | .ready => 2
  | .running => 3
  | .stepping => 4
  | .paused => 5
  | .ended => 6
  | .restoring => 7

/-- Watch quantity codes. -/
def Quantity.code : Quantity → Byte
  | .liveIslands => 0
  | .deadNodes => 1
  | .deadLoads => 2
  | .maxLag => 3
  | .discrepancies => 4

/-- Watch relation codes. -/
def Relation.code : Relation → Byte
  | .atLeast => 0
  | .atMost => 1

/-- Watch state codes. -/
def WatchState.code : WatchState → Byte
  | .disabled => 0
  | .armed => 1
  | .tripped => 2

/-- Cue line function codes. -/
def CueFunction.code : CueFunction → Byte
  | .none => 0
  | .step => 1
  | .hold => 2
  | .pauseToggle => 3

/-- Cue line edge codes. -/
def CueEdge.code : CueEdge → Byte
  | .rising => 0
  | .falling => 1

/-- Indicator mode codes. -/
def IndicatorMode.code : IndicatorMode → Byte
  | .fixed => 0
  | .live => 1
  | .deadFlash => 2

/-- Followed state codes. -/
def Followed.code : Followed → Byte
  | .none => 0
  | .live => 1
  | .dead => 2
  | .unknown => 3

/-! ### Batch entries (R191) -/

/-- The eight bytes of an entry as one number, byte 0 the most significant. -/
def packEntry (bytes : List Byte) : BitVec 64 :=
  bytes.foldl (fun acc b => (acc <<< 8) ||| b.setWidth 64) 0

/-- Byte `i` of an entry. -/
def entryByte (e : BitVec 64) (i : Nat) : Byte := e.extractLsb' (8 * (7 - i)) 8

/-- Bytes 4 to 7: the timestamp, in the same place whatever the kind. -/
def entryTime (e : BitVec 64) : Nat := (e.extractLsb' 0 32).toNat

/-- Bytes 1 and 2: the switch id or the node id. -/
def entryId (e : BitVec 64) : Nat := (e.extractLsb' 40 16).toNat

/-- An entry as its kind reads it. -/
inductive Entry where
  /-- A SWITCH entry; a position code that names none is absent. -/
  | switch (id : Nat) (fromPos toPos : Option Position)
  /-- A SOURCE entry; an online-after code other than 0 and 1 is absent. -/
  | source (node : Nat) (onlineAfter : Option Bool)
  | cue
  /-- A kind code that names no kind. -/
  | bad
  deriving DecidableEq, Repr

/-- The reading of an entry's bytes 0 to 3. -/
def readEntry (e : BitVec 64) : Entry :=
  match (entryByte e 0).toNat with
  | 1 => .switch (entryId e) (parsePosition ((entryByte e 3).toNat / 16))
      (parsePosition ((entryByte e 3).toNat % 16))
  | 2 => .source (entryId e) (parseFlag (entryByte e 3))
  | 3 => .cue
  | _ => .bad

end Sys2Proof.Machine
end

