-- ==== Sys2Proof/Machine/Tables.lean ====
section
/-! DEFINITION. The sparse tables of the Table Store and their canonical form: ids strictly rising, and in
the island table no entry equal to what an unlisted id holds. Reads and writes of records go through the
operations of this file. -/

namespace Sys2Proof.Machine

variable {α : Type}

/-- The record an id holds, when it is listed. -/
def Tab.get (t : Tab α) (k : Nat) : Option α :=
  match t with
  | [] => none
  | (i, v) :: rest => if i = k then some v else Tab.get rest k

/-- Lists `v` at `k`, replacing what stood there; the ids stay rising. -/
def Tab.put (t : Tab α) (k : Nat) (v : α) : Tab α :=
  match t with
  | [] => [(k, v)]
  | (i, w) :: rest =>
    if k < i then (k, v) :: (i, w) :: rest
    else if k = i then (k, v) :: rest
    else (i, w) :: Tab.put rest k v

/-- Takes `k` out of the list. -/
def Tab.del (t : Tab α) (k : Nat) : Tab α :=
  match t with
  | [] => []
  | (i, w) :: rest => if i = k then rest else (i, w) :: Tab.del rest k

/-- Applies `f` to every record; the ids stay as they are. -/
def Tab.mapRecords (f : Nat → α → α) (t : Tab α) : Tab α := t.map fun p => (p.1, f p.1 p.2)

/-- Writes a record where one is listed; an unlisted id stays unlisted. -/
def Tab.modify (t : Tab α) (k : Nat) (f : α → α) : Tab α :=
  match Tab.get t k with
  | some v => Tab.put t k (f v)
  | none => t

/-- The listed ids rise strictly. -/
def Tab.Rising (t : Tab α) : Bool :=
  match t with
  | [] => true
  | [_] => true
  | (i, _) :: (j, w) :: rest => decide (i < j) && Tab.Rising ((j, w) :: rest)

/-- What an unlisted island id holds: it does not exist and has generation 0 (R19). -/
def IslandRec.absent : IslandRec := { generation := 0, body := none }

/-- The record of an island id (R38). -/
def Store.islandRec (st : Store) (id : Nat) : IslandRec := (Tab.get st.islands id).getD .absent

/-- Writes the record of an island id, keeping the canonical form. -/
def Store.setIslandRec (st : Store) (id : Nat) (r : IslandRec) : Store :=
  { st with islands := if r = .absent then Tab.del st.islands id else Tab.put st.islands id r }

/-- The island on an id, when it exists (R38). -/
def Store.island (st : Store) (id : Nat) : Option Island := (st.islandRec id).body

/-- Writes the fields of an existing island; an id that names no island is left as it is. -/
def Store.modifyIsland (st : Store) (id : Nat) (f : Island → Island) : Store :=
  match st.island id with
  | some b => st.setIslandRec id { st.islandRec id with body := some (f b) }
  | none => st

/-- The record of a node, when it is defined (R1). -/
def Store.node (st : Store) (id : Nat) : Option NodeRec := Tab.get st.nodes id

/-- The record of a switch, when it is defined (R3). -/
def Store.switch (st : Store) (id : Nat) : Option SwitchRec := Tab.get st.switches id

/-- Writes the record of a defined node; an undefined node stays undefined. -/
def Store.modifyNode (st : Store) (id : Nat) (f : NodeRec → NodeRec) : Store :=
  { st with nodes := Tab.modify st.nodes id f }

/-- The canonical form of the three tables, with every id in range. -/
def Store.canonical (st : Store) : Bool :=
  Tab.Rising st.nodes && Tab.Rising st.switches && Tab.Rising st.islands &&
  st.nodes.all (fun p => p.1 < Config.nodeCapacity) &&
  st.switches.all (fun p => p.1 < Config.switchCapacity) &&
  st.islands.all (fun p => p.1 < Config.islandCapacity && p.2 != .absent)

/-- Applies `f` to every element of a vector. -/
def mapVector {β : Type} {n : Nat} (f : α → β) (v : Vector α n) : Vector β n :=
  ⟨(v.toList.map f).toArray, by simp⟩

end Sys2Proof.Machine
end

