-- ==== Sys2Proof/Machine/Ops.lean ====
section
/-! DEFINITION. The operations that several commands and steps share: answering a frame, evaluating the
watch conditions, the work queue, the clock's spans and holds, the batch buffers and their activation,
the entries into RUNNING, STEPPING and PAUSED, and the arbiter's choice. -/

namespace Sys2Proof.Machine

/-! ### Answering a command (R180, R181, R187) -/

/-- The bytes of a reply: status, data, and in check mode the XOR of both (R187). -/
def replyBytes (checked : Bool) (st : Status) (data : List Byte) : List Byte :=
  if checked then st.code :: data ++ [xorBytes (st.code :: data)] else st.code :: data

/-- The command of the frame has its answer: the frame passes to STATUS with the reply to be sent (R177). -/
def answer (st : Status) (data : List Byte) (s : State) : State :=
  { s with
    link.frame := .status
    link.taken := none
    link.reply := replyBytes s.link.frameCheck st data }

/-- A reading command whose items are taken when its status byte is sent is answered OK: its status is the
reply so far (R181). -/
def answerLate (r : LateRead) (s : State) : State :=
  { s with
    link.frame := .status
    link.taken := none
    link.reply := [Status.ok.code]
    link.late := some r }

/-! ### Watch conditions (R146 to R148) -/

/-- The present value of a quantity, read from its owner (R146). -/
def State.quantity (s : State) : Quantity → Nat
  | .liveIslands => s.resolver.counts.live
  | .deadNodes => s.resolver.counts.deadNodes
  | .deadLoads => s.resolver.counts.deadLoads
  | .maxLag => s.sequencer.stats.maxLag
  | .discrepancies => s.sequencer.stats.discrepancies

/-- The test of a condition against a value (R147). -/
def Watch.test (w : Watch) (value : Nat) : Bool :=
  match w.relation with
  | .atLeast => decide (w.threshold ≤ value)
  | .atMost => decide (value ≤ w.threshold)

/-- Condition n raises WATCHn (R145). -/
def watchEvent (n : Fin 4) : Event :=
  match n.val with
  | 0 => .watch0
  | 1 => .watch1
  | 2 => .watch2
  | _ => .watch3

/-- Writes condition `n`. -/
def setCondition (n : Fin 4) (w : Watch) (s : State) : State :=
  { s with watch.conditions := s.watch.conditions.set n.val w n.isLt }

/-- One evaluation of condition `n`: when it is ARMED and its test is true it trips, with the clock's T as
trip time, and WATCHn is raised (R147, R148). -/
def evaluate (n : Fin 4) (s : State) : State :=
  let w := s.watch.conditions.get n
  if w.state = .armed ∧ w.test (s.quantity w.quantity) = true then
    raise (watchEvent n)
      (setCondition n { w with state := .tripped, tripTime := some s.clock.time } s)
  else s

/-- The four conditions, in the order of evaluation (R147). -/
def conditionOrder : List (Fin 4) := [0, 1, 2, 3]

/-- A change of quantity `q` is handed: every condition that watches it is evaluated, 0 to 3 (R147). -/
def handOver (q : Quantity) (s : State) : State :=
  conditionOrder.foldl
    (fun s n => if (s.watch.conditions.get n).quantity = q then evaluate n s else s) s

/-- Hands `q` when its value changed. -/
def handIf (changed : Bool) (q : Quantity) (s : State) : State :=
  if changed then handOver q s else s

/-- Hands each device count that differs from its value in `before` (R43). -/
def handCounts (before : Counts) (s : State) : State :=
  let now := s.resolver.counts
  handIf (decide (before.deadLoads ≠ now.deadLoads)) .deadLoads
    (handIf (decide (before.deadNodes ≠ now.deadNodes)) .deadNodes
      (handIf (decide (before.live ≠ now.live)) .liveIslands s))

/-- Every ARMED condition is evaluated once (R140 step 2). -/
def evaluateAll (s : State) : State := conditionOrder.foldl (fun s n => evaluate n s) s

/-! ### The work queue (R23, R44, R45) -/

/-- The job in progress as it stands when it is taken (R45). -/
def JobInProgress.begin (j : Job) (counts : Counts) : JobInProgress :=
  { job := j, stage := .guard, atTake := counts, survivor := none, absorbed := none,
    sideA := { queue := [], visited := [] }, sideB := { queue := [], visited := [] }, turn := .a,
    exhausted := none, toRelabel := [], newIsland := none, touched := false }

/-- The resolver takes the oldest job: its slot is free at once, and a BACKLOG hold is cleared (R45,
R117). -/
def takeJob (s : State) : State :=
  match s.resolver.queue with
  | [] => s
  | j :: rest =>
    { s with
      resolver.queue := rest
      resolver.current := some (JobInProgress.begin j s.resolver.counts)
      clock.backlog := false }

/-- A job is appended at the tail of the work queue; a resolver with no job in progress takes it (R44,
R45). -/
def appendJob (j : Job) (s : State) : State :=
  let s := { s with resolver.queue := s.resolver.queue ++ [j] }
  if s.resolver.current.isNone then takeJob s else s

/-- The work queue has room for one more job (R44). -/
def State.hasRoom (s : State) : Bool := decide (s.resolver.queue.length < Config.queueCapacity)

/-! ### The clock -/

/-- A span added to `base` in the direction of play, stopping at E or at 0 (R95). -/
def Clock.addSpan (c : Clock) (base : Nat) : Nat :=
  match c.direction with
  | .forward => min (base + c.span) c.endTime
  | .reverse => base - c.span

/-- HOLD_LINE follows the HOLD condition (R97, R164). -/
def refreshHold (s : State) : State := { s with clock.holdLine := s.panel.holdCondition }

/-- The clock can move in the direction in force (R91, R136). -/
def Clock.canMove (c : Clock) : Bool :=
  match c.direction with
  | .forward => decide (c.time < c.endTime)
  | .reverse => decide (0 < c.time)

/-- T and F at 0, the boundary absent, STARVE, BACKLOG and PAUSED_STATE no, HOLD_LINE from the cue lines
(R81). -/
def rewindClock (s : State) : State :=
  refreshHold
    { s with
      clock.time := 0
      clock.frac := 0
      clock.boundary := none
      clock.starve := false
      clock.backlog := false
      clock.pausedState := false }

/-! ### Batch buffers (R98, R99, R108, R109, R118) -/

/-- The buffer of a letter. -/
def Sequencer.buffer (q : Sequencer) : BufferName → Buffer
  | .a => q.bufferA
  | .b => q.bufferB

/-- Writes the buffer of a letter. -/
def setBuffer (n : BufferName) (b : Buffer) (s : State) : State :=
  match n with
  | .a => { s with sequencer.bufferA := b }
  | .b => { s with sequencer.bufferB := b }

/-- Some buffer is in the state `x`. -/
def Sequencer.anyBuffer (q : Sequencer) (x : BufferState) : Bool :=
  decide (q.bufferA.state = x) || decide (q.bufferB.state = x)

/-- The letter of the ACTIVE buffer. -/
def Sequencer.activeName (q : Sequencer) : Option BufferName :=
  if q.bufferA.state = .active then some .a
  else if q.bufferB.state = .active then some .b
  else none

/-- The run states in which buffers activate and entries are applied (R108, R111). -/
def RunState.appliesEntries : RunState → Bool
  | .running => true
  | .stepping => true
  | .ended => true
  | _ => false

/-- The run states in which the clock advances (R83). -/
def RunState.moves : RunState → Bool
  | .running => true
  | .stepping => true
  | _ => false

/-- A buffer is rejected: it becomes EMPTY and BATCH_REJECTED is raised (R109). -/
def rejectBuffer (n : BufferName) (s : State) : State :=
  raise .batchRejected (setBuffer n .cleared s)

/-- Takes letters from the head of the arm order until one passes the direction check (R108, R109). -/
def activateFrom : List BufferName → State → State
  | [], s => s
  | n :: rest, s =>
    let s := { s with sequencer.armOrder := rest }
    if (s.sequencer.buffer n).tag = some s.clock.direction then
      setBuffer n { s.sequencer.buffer n with state := .active, index := 0 } s
    else activateFrom rest (rejectBuffer n s)

/-- The test of activation (R108). -/
def activate (s : State) : State :=
  if s.run.state.appliesEntries && !s.sequencer.anyBuffer .active then
    activateFrom s.sequencer.armOrder s
  else s

/-- The test of the STARVE condition (R118). -/
def testStarve (s : State) : State :=
  if s.run.state.moves && !s.sequencer.anyBuffer .active && !s.sequencer.anyBuffer .armed
      && !s.clock.starve then
    raise .starved { s with clock.starve := true }
  else s

/-- The head entry: the entry at the next-entry index of the ACTIVE buffer (R98). -/
def Sequencer.head (q : Sequencer) : Option (BufferName × BitVec 64) :=
  match q.activeName with
  | some n => ((q.buffer n).entries[(q.buffer n).index]?).map fun e => (n, e)
  | none => none

/-- Replay time has reached a timestamp in the direction of play (R111). -/
def Clock.reached (c : Clock) (t : Nat) : Bool :=
  match c.direction with
  | .forward => decide (t ≤ c.time)
  | .reverse => decide (c.time ≤ t)

/-- The conditions under which the Sequencer has a claim in place (R111). -/
def State.sequencerReady (s : State) : Bool :=
  s.run.state.appliesEntries && !s.clock.backlog && !s.sequencer.cueStop &&
  match s.sequencer.head with
  | some (_, e) => s.clock.reached (entryTime e)
  | none => false

/-! ### Entering the run states (R127, R128) -/

/-- The run enters RUNNING or STEPPING (R127). The claim of its step 4 is placed by `arbitrate`. -/
def enterMoving (target : RunState) (s : State) : State :=
  testStarve (activate { s with run.state := target, clock.pausedState := false })

/-- A waiting SEQUENCER claim is withdrawn, and its count returns to 0 (R72, R111). -/
def withdrawSequencer (s : State) : State :=
  { s with
    arbiter.sequencerClaim := false
    arbiter.sequencerWait := 0 }

/-- The run enters PAUSED: a waiting SEQUENCER claim is withdrawn, so that a claim placed later in the same step
waits anew (R128, R72); leaving ENDED clears the cue stop (R115). -/
def enterPaused (s : State) : State :=
  withdrawSequencer
    { s with
      run.state := .paused
      clock.pausedState := true
      clock.boundary := none
      sequencer.cueStop := false }

/-! ### The arbiter (R68 to R72) -/

/-- The claims as the claimants place and withdraw them (R46, R69, R111), each count 0 while its claim does
not wait (R71, R72). -/
def refreshClaims (s : State) : State :=
  let a := s.arbiter
  let res := s.resolver.current.isSome && decide (a.grant ≠ .resolver) &&
    decide (a.grant ≠ .compileRestore)
  let seq := s.sequencerReady && decide (a.grant ≠ .sequencer) && decide (a.grant ≠ .compileRestore)
  { s with
    arbiter.resolverClaim := res
    arbiter.sequencerClaim := seq
    arbiter.sequencerWait := if seq then a.sequencerWait else 0
    arbiter.linkWait := if a.linkClaim then a.linkWait else 0 }

/-- The RESOLVER claim is granted: each other claim that waits counts it (R71, R72). -/
def Arbiter.grantResolver (a : Arbiter) : Arbiter :=
  { a with
    grant := .resolver
    resolverClaim := false
    linkWait := if a.linkClaim then a.linkWait + 1 else 0
    sequencerWait := if a.sequencerClaim then a.sequencerWait + 1 else 0 }

/-- The SEQUENCER claim is granted: a LINK claim that waits counts it (R71, R72). -/
def Arbiter.grantSequencer (a : Arbiter) : Arbiter :=
  { a with
    grant := .sequencer
    sequencerClaim := false
    sequencerWait := 0
    linkWait := if a.linkClaim then a.linkWait + 1 else 0 }

/-- The LINK claim is granted. A streaming frame places its next claim with the grant (R67, R71). -/
def Arbiter.grantLink (streaming : Bool) (a : Arbiter) : Arbiter :=
  { a with grant := .link, linkClaim := streaming, linkWait := 0 }

/-- The arbiter's choice, when the current grant is none (R70). -/
def Arbiter.choose (streaming : Bool) (a : Arbiter) : Arbiter :=
  if a.linkWait = Config.linkTurn ∧ a.linkClaim = true then a.grantLink streaming
  else if a.sequencerWait = Config.sequencerTurn ∧ a.sequencerClaim = true then a.grantSequencer
  else if a.resolverClaim = true then a.grantResolver
  else if a.sequencerClaim = true then a.grantSequencer
  else if a.linkClaim = true then a.grantLink streaming
  else a

/-- The grant in progress ends. -/
def releaseGrant (s : State) : State := { s with arbiter.grant := .none }

end Sys2Proof.Machine
end

