-- ==== Sys2Proof/Machine/Islands.lean ====
section
/-! DEFINITION. The island table and the Island Resolver: member lists (R39), counts and states (R40,
R42), retirement (R41), the labelling of compile and restore (R12, R13, R59), the reports to the Panel
Port (R168), and the MERGE, SPLIT and SOURCE jobs (R48 to R57). -/

namespace Sys2Proof.Machine

/-! ### Member lists, counts and states -/

/-- A SOURCE node with online yes counts toward its island's online-source count (R1, R40). -/
def NodeRec.isOnline (r : NodeRec) : Bool := r.online == some true

/-- 1 for a node that counts, 0 otherwise. -/
def countOf (b : Bool) : Nat := if b then 1 else 0

/-- The state that an online-source count gives (R40). -/
def feedOf (sources : Nat) : Feed := if 0 < sources then .live else .dead

/-- Creates island `k` for its first node: exists yes, the generation as the record held it, no member
yet, and state-since `since` (R12, R55). -/
def Store.createIsland (k n since : Nat) (st : Store) : Store :=
  st.setIslandRec k
    { st.islandRec k with
      body := some { feed := .dead, memberCount := 0, sourceCount := 0, loadCount := 0, first := n,
                     last := n, since := since } }

/-- Appends node `n` at the tail of island `k`, with its counts; its island id becomes `k` (R39, R50). -/
def Store.appendMember (k n : Nat) (st : Store) : Store :=
  match st.node n, st.island k with
  | some r, some b =>
    let alone := b.memberCount == 0
    let st := if alone then st else st.modifyNode b.last fun q => { q with next := some n }
    let st := st.modifyNode n fun q =>
      { q with island := some k, prev := if alone then none else some b.last, next := none }
    st.modifyIsland k fun b =>
      { b with
        memberCount := b.memberCount + 1
        sourceCount := b.sourceCount + countOf r.isOnline
        loadCount := b.loadCount + countOf (decide (r.kind = .load))
        first := if alone then n else b.first
        last := n }
  | _, _ => st

/-- Unlinks node `n` from its place in the member list of its island, with its counts (R39, R55). -/
def Store.unlinkMember (n : Nat) (st : Store) : Store :=
  match st.node n with
  | some r =>
    match r.island with
    | some k =>
      let st := match r.prev with
        | some p => st.modifyNode p fun q => { q with next := r.next }
        | none => st
      let st := match r.next with
        | some x => st.modifyNode x fun q => { q with prev := r.prev }
        | none => st
      let st := st.modifyNode n fun q => { q with island := none, prev := none, next := none }
      st.modifyIsland k fun b =>
        { b with
          memberCount := b.memberCount - 1
          sourceCount := b.sourceCount - countOf r.isOnline
          loadCount := b.loadCount - countOf (decide (r.kind = .load))
          first := if r.prev.isNone then r.next.getD b.first else b.first
          last := if r.next.isNone then r.prev.getD b.last else b.last }
    | none => st
  | none => st

/-- The state of an island is recomputed; where it changes, state-since becomes the cause time (R40). -/
def Store.refreshFeed (k cause : Nat) (st : Store) : Store :=
  st.modifyIsland k fun b =>
    if b.feed = feedOf b.sourceCount then b
    else { b with feed := feedOf b.sourceCount, since := cause }

/-- An island retires: exists becomes no and the generation increases by one, 255 followed by 0 (R41). -/
def Store.retireIsland (k : Nat) (st : Store) : Store :=
  st.setIslandRec k { generation := (st.islandRec k).generation + 1, body := none }

/-- An island whose last member has left retires (R41). -/
def Store.retireIfEmpty (k : Nat) (st : Store) : Store :=
  match st.island k with
  | some b => if b.memberCount = 0 then st.retireIsland k else st
  | none => st

/-- Every existing island retires (R17, R59). -/
def Store.retireAll (st : Store) : Store :=
  (st.islands.filter fun p => p.2.body.isSome).foldl (fun st p => st.retireIsland p.1) st

/-- Node `n` moves from the island it belongs to into island `dst`, in one grant (R50, R55): the list links
and counts move with it, both states are recomputed, and an island left empty retires. Without the node's island
or `dst` nothing moves (log 19). -/
def Store.moveNode (n dst cause : Nat) (st : Store) : Store :=
  match (st.node n).bind (·.island), st.island dst with
  | some src, some _ =>
    (((((st.unlinkMember n).appendMember dst n).refreshFeed src cause).refreshFeed dst cause).retireIfEmpty src)
  | _, _ => st.retireIfEmpty dst

/-- The device counts that the island table gives (R13, R42). -/
def Store.tally (st : Store) : Counts :=
  st.islands.foldl
    (fun c p => match p.2.body with
      | some b =>
        match b.feed with
        | .live => { c with live := c.live + 1 }
        | .dead => { c with deadNodes := c.deadNodes + b.memberCount, deadLoads := c.deadLoads + b.loadCount }
      | none => c)
    .zero

/-- The lowest id of `fuel` ids from `id` on whose record has exists no. -/
def Store.freeFrom (st : Store) : Nat → Nat → Option Nat
  | 0, _ => none
  | fuel + 1, id => if (st.island id).isNone then some id else st.freeFrom fuel (id + 1)

/-- The lowest id of the free island pool (R41). -/
def Store.lowestFree (st : Store) : Option Nat := st.freeFrom Config.islandCapacity 0

/-- The state of the island of a node, when the node is defined and has an island. -/
def Store.feedOfNode (st : Store) (n : Nat) : Option Feed :=
  (st.node n).bind fun r => r.island.bind fun k => (st.island k).map (·.feed)

/-! ### Searches -/

/-- The end of a switch that is not the visited node (R12, R53). -/
def SwitchRec.farEnd (r : SwitchRec) (n : Nat) : Nat := if r.endA = n then r.endB else r.endA

/-- One visit of the labelling search: each effectively CLOSED switch's far node that has no island id joins
the island at the tail, and the search queue (R12 step 4). -/
def Store.labelVisit (k n : Nat) : List Nat → List Nat → Store → List Nat × Store
  | [], queue, st => (queue, st)
  | sw :: rest, queue, st =>
    match st.switch sw with
    | some r =>
      if r.effective = .closed then
        match st.node (r.farEnd n) with
        | some q =>
          if q.island.isNone then
            Store.labelVisit k n rest (queue ++ [r.farEnd n]) (st.appendMember k (r.farEnd n))
          else Store.labelVisit k n rest queue st
        | none => Store.labelVisit k n rest queue st
      else Store.labelVisit k n rest queue st
    | none => Store.labelVisit k n rest queue st

/-- The labelling search of one island; a search visits each node at most once, so the number of nodes is
fuel enough (R12 step 4). -/
def Store.labelSearch (k : Nat) : Nat → List Nat → Store → Store
  | 0, _, st => st
  | _ + 1, [], st => st
  | fuel + 1, n :: queue, st =>
    match st.node n with
    | some r =>
      let (queue, st) := Store.labelVisit k n r.incidence queue st
      Store.labelSearch k fuel queue st
    | none => Store.labelSearch k fuel queue st

/-- The lowest-numbered defined node that has no island id (R12 step 2). -/
def Store.firstUnlabelled (st : Store) : Option Nat :=
  (st.nodes.find? fun p => p.2.island.isNone).map (·.1)

/-- Labels islands from number `k` on, each from the lowest-numbered unlabelled node; state-since is `now`
and the state follows the online-source count (R12, R13). -/
def Store.labelFrom (now : Nat) : Nat → Nat → Store → Store
  | 0, _, st => st
  | fuel + 1, k, st =>
    match st.firstUnlabelled with
    | some n =>
      let st := (st.createIsland k n now).appendMember k n
      let st := Store.labelSearch k st.nodes.length [n] st
      Store.labelFrom now fuel (k + 1) (st.refreshFeed k now)
    | none => st

/-- The full island labelling, from island number 0 (R12, R59). -/
def Store.labelAll (now : Nat) (st : Store) : Store := st.labelFrom now st.nodes.length 0

/-! ### Reports to the Panel Port (R168) -/

/-- The followed state that a report gives a line whose node is `n` (R168). -/
def Store.followedOf (st : Store) (n : Nat) : Followed :=
  match st.feedOfNode n with
  | some .live => .live
  | some .dead => .dead
  | none => .none

/-- A report sets the followed state of all sixteen lines (R168). -/
def report (s : State) : State :=
  { s with
    panel.indicators :=
      mapVector (fun l => { l with followed := s.store.followedOf l.node }) s.panel.indicators }

/-- Every followed state becomes NONE (R168). -/
def followNone (s : State) : State :=
  { s with panel.indicators := mapVector (fun l => { l with followed := .none }) s.panel.indicators }

/-! ### The end of a job (R43, R48) -/

/-- A job ends: changed counts are handed, a job that moved a node or changed a state is reported, the job is
cleared, and the part becomes settled or the next job is taken (R48). -/
def endJob (j : JobInProgress) (s : State) : State :=
  let s := handCounts j.atTake s
  let s := if j.touched then report s else s
  let s := { s with resolver.current := none }
  if s.resolver.queue.isEmpty then raise .settled s else takeJob s

/-- The job goes on as `j`. -/
def continueJob (j : JobInProgress) (s : State) : State := { s with resolver.current := some j }

/-- The tables become `st` and the device counts are adjusted to them (R42). -/
def commitStore (st : Store) (s : State) : State :=
  { s with store := st, resolver.counts := st.tally }

/-! ### MERGE jobs -/

/-- The survivor and the absorbed island of two islands: the greater member count survives, the lower id
when the counts are equal (R49). -/
def chooseSurvivor (ka kb : Nat) (ia ib : Island) : Nat × Nat :=
  if ib.memberCount < ia.memberCount ∨ (ia.memberCount = ib.memberCount ∧ ka < kb) then (ka, kb)
  else (kb, ka)

/-- The islands of a switch's two ends, when the switch and both ends have one. -/
def Store.endIslands (st : Store) (r : SwitchRec) : Option (Nat × Nat) :=
  ((st.node r.endA).bind (·.island)).bind fun ka =>
    ((st.node r.endB).bind (·.island)).map fun kb => (ka, kb)

/-- The guard claim of a MERGE on `sw` (R49). -/
def mergeGuard (sw : Nat) (j : JobInProgress) (s : State) : State :=
  match s.store.switch sw with
  | some r =>
    if r.effective = .opened then endJob j s
    else
      match s.store.endIslands r with
      | some (ka, kb) =>
        if ka = kb then endJob j s
        else
          match s.store.island ka, s.store.island kb with
          | some ia, some ib =>
            let c := chooseSurvivor ka kb ia ib
            continueJob { j with stage := .relabel, survivor := some c.1, absorbed := some c.2 } s
          | _, _ => endJob j s
      | none => endJob j s
  | none => endJob j s

/-- A RELABEL claim of a MERGE: the first member of the absorbed island moves to the survivor; the job ends
with the claim that retires the absorbed island (R50, R51). -/
def mergeRelabel (cause : Nat) (j : JobInProgress) (s : State) : State :=
  match j.survivor, j.absorbed with
  | some k, some x =>
    match s.store.island x with
    | some b =>
      let s := commitStore (s.store.moveNode b.first k cause) s
      let j := { j with touched := true }
      if (s.store.island x).isNone then endJob j s else continueJob j s
    | none => endJob j s
  | _, _ => endJob j s

/-! ### SPLIT jobs -/

/-- The other side of a search. -/
def SideName.other : SideName → SideName
  | .a => .b
  | .b => .a

/-- The side of a name. -/
def JobInProgress.side (j : JobInProgress) : SideName → Side
  | .a => j.sideA
  | .b => j.sideB

/-- Writes the side of a name. -/
def JobInProgress.setSide (x : SideName) (d : Side) (j : JobInProgress) : JobInProgress :=
  match x with
  | .a => { j with sideA := d }
  | .b => { j with sideB := d }

/-- One visit of a search (R53 steps 2 to 6): the far nodes of the effectively CLOSED switches enter the
side's visited set and queue; nothing is returned when the sides have met. -/
def searchVisit (st : Store) (other : List Nat) (n : Nat) : List Nat → Side → Option Side
  | [], d => some d
  | sw :: rest, d =>
    match st.switch sw with
    | some r =>
      if r.effective = .closed then
        if r.farEnd n ∈ other then none
        else if r.farEnd n ∈ d.visited then searchVisit st other n rest d
        else
          searchVisit st other n rest
            { queue := d.queue ++ [r.farEnd n], visited := d.visited ++ [r.farEnd n] }
      else searchVisit st other n rest d
    | none => searchVisit st other n rest d

/-- The incidence list of a node; an undefined node has none. -/
def Store.incidenceOf (st : Store) (n : Nat) : List Nat :=
  match st.node n with
  | some r => r.incidence
  | none => []

/-- The start of a turn (R53, R54): a side whose queue is empty is exhausted, its visited set becomes the
relabel set, and the job passes to RELABEL. That turn takes no claim. -/
def startTurn (x : SideName) (j : JobInProgress) : JobInProgress :=
  if (j.side x).queue.isEmpty then
    { j with stage := .relabel, turn := x, exhausted := some x, toRelabel := (j.side x).visited }
  else { j with stage := .search, turn := x }

/-- The side whose turn it is visits the node at the head of its queue; sides that meet end the job with no
change, otherwise the other side's turn starts (R53). -/
def splitTurn (j : JobInProgress) (s : State) : State :=
  match (j.side j.turn).queue with
  | n :: queue =>
    match searchVisit s.store (j.side j.turn.other).visited n (s.store.incidenceOf n)
        { j.side j.turn with queue := queue } with
    | some d => continueJob (startTurn j.turn.other (j.setSide j.turn d)) s
    | none => endJob j s
  | [] => continueJob (startTurn j.turn j) s

/-- The guard claim of a SPLIT on `sw`, with side A's first turn (R52). -/
def splitGuard (sw : Nat) (j : JobInProgress) (s : State) : State :=
  match s.store.switch sw with
  | some r =>
    if r.effective = .closed then endJob j s
    else
      match s.store.endIslands r with
      | some (ka, kb) =>
        if ka = kb then
          splitTurn
            { j with
              stage := .search
              turn := .a
              sideA := { queue := [r.endA], visited := [r.endA] }
              sideB := { queue := [r.endB], visited := [r.endB] } } s
        else endJob j s
      | none => endJob j s
  | none => endJob j s

/-- A RELABEL claim of a SPLIT: the next node of the relabel set moves into the new island, which the first
claim creates on the lowest free id (R55). -/
def splitRelabel (cause : Nat) (j : JobInProgress) (s : State) : State :=
  match j.toRelabel with
  | n :: rest =>
    match j.newIsland with
    | some k =>
      let s := commitStore (s.store.moveNode n k cause) s
      let j := { j with toRelabel := rest, touched := true }
      if rest.isEmpty then endJob j s else continueJob j s
    | none =>
      match s.store.lowestFree with
      | some k =>
        let s := commitStore ((s.store.createIsland k n cause).moveNode n k cause) s
        let j := { j with toRelabel := rest, newIsland := some k, touched := true }
        if rest.isEmpty then endJob j s else continueJob j s
      | none => endJob j s
  | [] => endJob j s

/-! ### SOURCE jobs -/

/-- Sets online of node `n` of island `k` to `v`, moves the island's online-source count by one and
recomputes its state (R57). -/
def Store.setOnline (n k : Nat) (v : Bool) (cause : Nat) (st : Store) : Store :=
  let st := st.modifyNode n fun r => { r with online := some v }
  let st := st.modifyIsland k fun b =>
    { b with sourceCount := if v then b.sourceCount + 1 else b.sourceCount - 1 }
  st.refreshFeed k cause

/-- The claim of a SOURCE job (R57). -/
def sourceJob (n : Nat) (v : Bool) (cause : Nat) (j : JobInProgress) (s : State) : State :=
  match s.store.node n with
  | some r =>
    if r.kind ≠ .source ∨ r.online = some v then endJob j s
    else
      match r.island with
      | some k =>
        let before := (s.store.island k).map (·.feed)
        let s := commitStore (s.store.setOnline n k v cause) s
        endJob { j with touched := decide ((s.store.island k).map (·.feed) ≠ before) } s
      | none => endJob j s
  | none => endJob j s

end Sys2Proof.Machine
end

