-- ==== Sys2Proof/Machine/Model.lean ====
section
/-! DEFINITION. The network model: DEFINE NODE and DEFINE SWITCH (R4 to R7), BUILD END and the stages of
compile (R9 to R14), CLEAR MODEL (R17, R18), and the arbitration that ends each step (R70, R79). The
functions of a claim-taking command are what its grant does; its BUSY test (R74) is made before. -/

namespace Sys2Proof.Machine

/-! ### DEFINE NODE and DEFINE SWITCH -/

/-- A node record as DEFINE NODE writes it (R4, R5). -/
def definedNode (kind : NodeKind) (online : Option Bool) : NodeRec :=
  { kind := kind, initialOnline := online, online := online, island := none, prev := none, next := none,
    incidence := [] }

/-- The initial online field of a DEFINE NODE: for SOURCE the value of the byte, 0 or 1; for BUS and LOAD the
byte is read and not used. Nothing is returned where the command is out of range (R4). -/
def parseInitialOnline (kind : NodeKind) (online : Byte) : Option (Option Bool) :=
  match kind with
  | .source => (parseFlag online).map some
  | .bus => some none
  | .load => some none

/-- The grant of DEFINE NODE (R4, R5). -/
def grantDefineNode (node : U16) (kind online : Byte) (s : State) : State :=
  if s.run.state ≠ .build then answer .protect [] s
  else if Config.nodeCapacity ≤ node.toNat then answer .range [] s
  else
    match parseKind kind with
    | some k =>
      match parseInitialOnline k online with
      | some o =>
        answer .ok [] { s with store.nodes := Tab.put s.store.nodes node.toNat (definedNode k o) }
      | none => answer .range [] s
    | none => answer .range [] s

/-- The definite position as an archived position. -/
def Contact.asPosition : Contact → Position
  | .opened => .opened
  | .closed => .closed

/-- A switch record as DEFINE SWITCH writes it (R3, R6, R7). -/
def definedSwitch (endA endB : Nat) (initial : Contact) : SwitchRec :=
  { endA := endA, endB := endB, initial := initial, archived := initial.asPosition, held := initial,
    override := none, effective := initial, retired := false, discrepancy := false, changeCount := 0,
    lastChange := none }

/-- An end is at most 4095 and names a defined node (R6). -/
def Store.goodEnd (st : Store) (n : U16) : Bool :=
  decide (n.toNat < Config.nodeCapacity) && (st.node n.toNat).isSome

/-- The grant of DEFINE SWITCH (R6, R7). -/
def grantDefineSwitch (sw endA endB : U16) (position : Byte) (s : State) : State :=
  if s.run.state ≠ .build then answer .protect [] s
  else if Config.switchCapacity ≤ sw.toNat then answer .range [] s
  else if !s.store.goodEnd endA then answer .range [] s
  else if !s.store.goodEnd endB then answer .range [] s
  else if endA = endB then answer .range [] s
  else
    match parseContact position with
    | some p =>
      answer .ok []
        { s with
          store.switches := Tab.put s.store.switches sw.toNat (definedSwitch endA.toNat endB.toNat p) }
    | none => answer .range [] s

/-! ### BUILD END and compile -/

/-- The grant of BUILD END: the run enters COMPILING, the followed states become NONE (R168), and the grant
passes to the compile operation (R9, R73). -/
def grantBuildEnd (s : State) : State :=
  if s.run.state ≠ .build then answer .protect [] s
  else if s.store.nodes.isEmpty then answer .range [] s
  else
    answer .ok []
      (followNone
        { s with
          run.state := .compiling
          run.compileStage := some .incidence
          arbiter.grant := .compileRestore })

/-- The incidence list of a node: the defined switches that have it as an end, ascending (R2, R10). -/
def Store.incidentSwitches (st : Store) (n : Nat) : List Nat :=
  (st.switches.filter fun p => decide (p.2.endA = n) || decide (p.2.endB = n)).map (·.1)

/-- The first stage of compile builds the incidence lists (R10). -/
def compileIncidenceLists (s : State) : State :=
  { s with
    store.nodes :=
      Tab.mapRecords (fun n r => { r with incidence := s.store.incidentSwitches n }) s.store.nodes
    run.compileStage := some .starting }

/-- A switch at its starting values, not retired (R11). -/
def SwitchRec.started (r : SwitchRec) : SwitchRec := definedSwitch r.endA r.endB r.initial

/-- A node's online as a copy of its initial online; a node that is not a SOURCE has neither (R11). -/
def NodeRec.started (r : NodeRec) : NodeRec := { r with online := r.initialOnline }

/-- The second stage of compile sets the starting values (R11). -/
def compileStartingValues (s : State) : State :=
  { s with
    store.switches := Tab.mapRecords (fun _ r => r.started) s.store.switches
    store.nodes := Tab.mapRecords (fun _ r => r.started) s.store.nodes
    run.compileStage := some .labelling }

/-- The third stage of compile labels the islands and ends compile (R12 to R14). -/
def compileEnd (s : State) : State :=
  let before := s.resolver.counts
  let s := commitStore (s.store.labelAll s.clock.time) s
  let s := report (handCounts before s)
  let s := { s with run.state := .ready, run.compileStage := none }
  releaseGrant (raise .buildDone s)

/-! ### CLEAR MODEL -/

/-- The tables after CLEAR MODEL: every record undefined, every existing island retired (R17). -/
def Store.cleared (st : Store) : Store :=
  { nodes := [], switches := [], islands := st.retireAll.islands }

/-- The queue is emptied and the job in progress is abandoned; a part that was unsettled becomes settled and
SETTLED is raised (R18, R58). -/
def abandonJobs (s : State) : State :=
  let s' := { s with resolver.queue := [], resolver.current := none }
  if s.settled then s' else raise .settled s'

/-- The statistics that were not 0 and have become 0 are handed (R122). -/
def handStats (before : Stats) (s : State) : State :=
  handIf (decide (before.discrepancies ≠ s.sequencer.stats.discrepancies)) .discrepancies
    (handIf (decide (before.maxLag ≠ s.sequencer.stats.maxLag)) .maxLag s)

/-- CLEAR MODEL acts (R16 to R18, R79, R81, R123, R143, R152): the model is emptied, what is in flight is
abandoned, the run enters BUILD, the store is free, and the counts and statistics that change to 0 are
handed with T already 0 (R148). -/
def clearModel (s : State) : State :=
  let counts := s.resolver.counts
  let stats := s.sequencer.stats
  let s := abandonJobs s
  let s :=
    { s with
      store := s.store.cleared
      resolver.counts := .zero
      resolver.cursor.valid := false
      sequencer := .cleared
      run := { state := .build, compileStage := none, restoreStage := none }
      arbiter := .free }
  let s := followNone (rewindClock s)
  handStats stats (handCounts counts s)

/-- A CLEAR MODEL that has acted answers OK, when its frame still waits for it (R79). -/
def answerClear (s : State) : State :=
  if s.link.taken = some .clearModel then answer .ok [] s else s

/-! ### Arbitration at the end of a step, and of an edge within one -/

/-- The claimants place and withdraw their claims; when the current grant is none, a CLEAR MODEL that waited
acts (R79), and the arbiter chooses (R70). -/
def arbitrate (s : State) : State :=
  let s := refreshClaims s
  if s.arbiter.grant = .none then
    let s := if s.arbiter.clearPending then answerClear (clearModel s) else s
    { s with arbiter := s.arbiter.choose s.link.stream.isSome }
  else s

/-- The unit of work has ended: the current grant returns to none and the arbiter chooses again (R68). -/
def endUnit (s : State) : State := arbitrate (releaseGrant s)

end Sys2Proof.Machine
end

