-- ==== Sys2Proof/Machine/Switches.lean ====
section
/-! DEFINITION. Switch Logic: the derivation of held and effective positions (R21, R22), the job a change
appends (R23), SWITCH entries (R27 to R32), SET POLICY (R25, R26), OVERRIDE SWITCH (R33, R34) and RETIRE
SWITCH (R35). -/

namespace Sys2Proof.Machine

/-- The held position that an archived position gives, from the previous held position and the policy
(R21). -/
def deriveHeld (policy : Policy) (archived : Position) (previous : Contact) : Contact :=
  match archived with
  | .closed => .closed
  | .opened => .opened
  | .transit => previous
  | .invalid =>
    match policy with
    | .hold => previous
    | .asOpen => .opened
    | .asClosed => .closed

/-- The effective position (R22). -/
def deriveEffective (retired : Bool) (override : Option Contact) (held : Contact) : Contact :=
  if retired then .opened else override.getD held

/-- The record with its effective position derived again (R22). -/
def SwitchRec.rederive (r : SwitchRec) : SwitchRec :=
  { r with effective := deriveEffective r.retired r.override r.held }

/-- The job that a change to effective position `new` appends (R23). -/
def jobFor (sw : Nat) (new : Contact) (cause : Nat) : Job :=
  match new with
  | .opened => .split sw cause
  | .closed => .merge sw cause

/-- Writes a switch's new record; where the effective position changed, one job is appended (R23). -/
def commitSwitch (sw : Nat) (old new : SwitchRec) (cause : Nat) (s : State) : State :=
  let s := { s with store.switches := Tab.put s.store.switches sw new }
  if old.effective = new.effective then s else appendJob (jobFor sw new.effective cause) s

/-- The increase of a 16-bit count (00_scope.md): it stops at 65,535. -/
def saturate16 (n : Nat) : Nat := if n < Config.max16 then n + 1 else n

/-! ### SWITCH entries -/

/-- What applying an entry with expected prior `expected` and target `target` makes of a switch (R29, R30,
R31): a discrepancy marks the switch; a target that differs is taken, counted, timed and derived. -/
def SwitchRec.applyReport (policy : Policy) (expected target : Position) (time : Nat)
    (r : SwitchRec) : SwitchRec :=
  let r := { r with discrepancy := r.discrepancy || decide (r.archived ≠ expected) }
  if target = r.archived then r
  else
    { r with
      archived := target
      changeCount := saturate16 r.changeCount
      lastChange := some time
      held := deriveHeld policy target r.held }.rederive

/-! ### SET POLICY -/

/-- An INVALID switch under a new policy: its held and effective positions are derived (R26). -/
def SwitchRec.underPolicy (policy : Policy) (r : SwitchRec) : SwitchRec :=
  { r with held := deriveHeld policy .invalid r.held }.rederive

/-- A switch that the count of R25 counts: INVALID, not retired, not overridden, with a held position that the
new policy would change. -/
def SwitchRec.countsFor (policy : Policy) (r : SwitchRec) : Bool :=
  decide (r.archived = .invalid) && !r.retired && r.override.isNone &&
  decide (deriveHeld policy .invalid r.held ≠ r.held)

/-- The number of switches whose effective position the policy would change (R25). -/
def Store.policyCount (policy : Policy) (st : Store) : Nat :=
  (st.switches.filter fun p => p.2.countsFor policy).length

/-- The INVALID switches are derived in ascending id order, with their jobs; other switches are not touched
(R26). -/
def applyPolicy (policy : Policy) (s : State) : State :=
  (s.store.switches.filter fun p => decide (p.2.archived = .invalid)).foldl
    (fun s p => commitSwitch p.1 p.2 (p.2.underPolicy policy) s.clock.time s) { s with policy := policy }

/-- The grant of SET POLICY (R25, R26). -/
def grantSetPolicy (policy : Byte) (s : State) : State :=
  if s.run.state ≠ .ready ∧ s.run.state ≠ .paused then answer .protect [] s
  else
    match parsePolicy policy with
    | some p =>
      let count := s.store.policyCount p
      if Config.queueCapacity - s.resolver.queue.length < count then
        answer .full (reply16 count) s
      else answer .ok (reply16 count) (applyPolicy p s)
    | none => answer .range [] s

/-! ### OVERRIDE SWITCH and RETIRE SWITCH -/

/-- The run states of a compiled model, READY to ENDED (R33). -/
def RunState.hasModel : RunState → Bool
  | .ready => true
  | .running => true
  | .stepping => true
  | .paused => true
  | .ended => true
  | _ => false

/-- Carries out a change of one switch, or answers FULL where it would append a job that finds no room (R33
to R35). -/
def changeSwitch (sw : Nat) (old new : SwitchRec) (s : State) : State :=
  if old.effective ≠ new.effective ∧ s.hasRoom = false then answer .full [] s
  else answer .ok [] (commitSwitch sw old new s.clock.time s)

/-- The grant of OVERRIDE SWITCH (R33, R34). -/
def grantOverrideSwitch (sw : U16) (action : Byte) (s : State) : State :=
  if !s.run.state.hasModel then answer .protect [] s
  else if Config.switchCapacity ≤ sw.toNat then answer .range [] s
  else
    match s.store.switch sw.toNat with
    | some r =>
      match parseAction action with
      | some o => changeSwitch sw.toNat r { r with override := o }.rederive s
      | none => answer .range [] s
    | none => answer .range [] s

/-- The grant of RETIRE SWITCH (R35). -/
def grantRetireSwitch (sw : U16) (s : State) : State :=
  if !s.run.state.hasModel then answer .protect [] s
  else if Config.switchCapacity ≤ sw.toNat then answer .range [] s
  else
    match s.store.switch sw.toNat with
    | some r =>
      if r.retired then answer .ok [] s
      else changeSwitch sw.toNat r { r with retired := true }.rederive s
    | none => answer .range [] s

end Sys2Proof.Machine
end

