-- ==== Sys2Proof/Machine/Records.lean ====
section
/-! DEFINITION. The records of the tables as they are sent (R192), the commands that read them (LOOKUP
SWITCH R36, LOOKUP NODE R60, LOOKUP ISLAND R61, READ TABLE R66, R67) and the walk cursor (R62 to R65). -/

namespace Sys2Proof.Machine

/-- An absent one-byte code is sent as 0xFF (R192). -/
def absentCode : Byte := 0xFF

/-- An id that may be absent, 0xFFFF when it is (R192). -/
def replyId (n : Option Nat) : List Byte :=
  match n with
  | some k => reply16 k
  | none => [0xFF, 0xFF]

/-- The node record, 10 bytes (R192). -/
def nodeRecord (n : Nat) (s : State) : List Byte :=
  match s.store.node n with
  | some r =>
    let online : Byte := match r.online with
      | some v => flagByte v
      | none => absentCode
    match r.island.bind fun k => (s.store.island k).map fun b => (k, b) with
    | some (k, b) =>
      reply16 n ++ [1, r.kind.code, online] ++ reply16 k ++
        [(s.store.islandRec k).generation, b.feed.code, flagByte s.settled]
    | none =>
      reply16 n ++ [1, r.kind.code, online] ++ replyId none ++ [0, absentCode, flagByte s.settled]
  | none =>
    reply16 n ++ [0, absentCode, absentCode] ++ replyId none ++ [0, absentCode, flagByte s.settled]

/-- The switch record, 21 bytes (R192). -/
def switchRecord (n : Nat) (s : State) : List Byte :=
  match s.store.switch n with
  | some r =>
    let override : Byte := match r.override with
      | some p => p.code
      | none => absentCode
    reply16 n ++ [1] ++ reply16 r.endA ++ reply16 r.endB ++
      [r.initial.code, r.archived.code, r.held.code, override, r.effective.code, flagByte r.retired,
       flagByte r.discrepancy] ++ reply16 r.changeCount ++ replyTime r.lastChange
  | none =>
    reply16 n ++ [0] ++ replyId none ++ replyId none ++
      [absentCode, absentCode, absentCode, absentCode, absentCode, absentCode, absentCode] ++
      reply16 0 ++ replyTime none

/-- The island record, 20 bytes (R192). -/
def islandRecord (k : Nat) (s : State) : List Byte :=
  match s.store.island k with
  | some b =>
    reply16 k ++ [1, (s.store.islandRec k).generation, b.feed.code] ++ reply16 b.memberCount ++
      reply16 b.sourceCount ++ reply16 b.loadCount ++ reply16 b.first ++ reply16 b.last ++
      reply32 b.since ++ [flagByte s.settled]
  | none =>
    reply16 k ++ [0, (s.store.islandRec k).generation, absentCode] ++ reply16 0 ++ reply16 0 ++
      reply16 0 ++ replyId none ++ replyId none ++ reply32 0 ++ [flagByte s.settled]

/-! ### Lookups -/

/-- The grant of LOOKUP SWITCH (R36). -/
def grantLookupSwitch (sw : U16) (s : State) : State :=
  if Config.switchCapacity ≤ sw.toNat then answer .range [] s
  else answer .ok (switchRecord sw.toNat s) s

/-- The grant of LOOKUP NODE (R60). -/
def grantLookupNode (node : U16) (s : State) : State :=
  if Config.nodeCapacity ≤ node.toNat then answer .range [] s
  else answer .ok (nodeRecord node.toNat s) s

/-- The two bytes of a STALE answer: exists, then the current generation (R192). -/
def staleReply (k : Nat) (s : State) : List Byte :=
  [flagByte (s.store.island k).isSome, (s.store.islandRec k).generation]

/-- A handle is good: its island exists with its generation (R41). -/
def Store.goodHandle (st : Store) (k : Nat) (generation : Byte) : Bool :=
  (st.island k).isSome && decide ((st.islandRec k).generation = generation)

/-- The grant of LOOKUP ISLAND (R61). -/
def grantLookupIsland (island : U16) (generation : Byte) (s : State) : State :=
  if Config.islandCapacity ≤ island.toNat then answer .range [] s
  else if s.store.goodHandle island.toNat generation then
    answer .ok (islandRecord island.toNat s) s
  else answer .stale (staleReply island.toNat s) s

/-! ### The walk cursor -/

/-- The reply of a walk command that reaches a member: the node, then settled (R192). -/
def walkReply (n : Nat) (s : State) : List Byte := reply16 n ++ [flagByte s.settled]

/-- A stride is 1, 2, 4 or 8 (R62). -/
def goodStride (b : Byte) : Bool := b == 1 || b == 2 || b == 4 || b == 8

/-- The grant of WALK SET (R63). -/
def grantWalkSet (island : U16) (generation stride : Byte) (s : State) : State :=
  if Config.islandCapacity ≤ island.toNat then answer .range [] s
  else if !goodStride stride then answer .range [] s
  else if !s.store.goodHandle island.toNat generation then
    answer .stale (staleReply island.toNat s) { s with resolver.cursor.valid := false }
  else
    match s.store.island island.toNat with
    | some b =>
      answer .ok (walkReply b.first s)
        { s with
          resolver.cursor :=
            { island := island.toNat, generation := generation, current := some b.first,
              stride := stride.toNat, valid := true } }
    | none => answer .stale (staleReply island.toNat s) { s with resolver.cursor.valid := false }

/-- The member `steps` links on from node `n`, when that many members follow (R65). -/
def Store.forward (st : Store) : Nat → Nat → Option Nat
  | 0, n => some n
  | steps + 1, n => ((st.node n).bind (·.next)).bind fun x => st.forward steps x

/-- The member `steps` links back from node `n`, when that many members precede (R65). -/
def Store.backward (st : Store) : Nat → Nat → Option Nat
  | 0, n => some n
  | steps + 1, n => ((st.node n).bind (·.prev)).bind fun x => st.backward steps x

/-- The node a move reaches and its answer (R65). -/
def Store.walk (st : Store) (b : Island) (stride n : Nat) : WalkMoveName → Status × Nat
  | .first => (.ok, b.first)
  | .last => (.ok, b.last)
  | .next =>
    match st.forward stride n with
    | some x => (.ok, x)
    | none => (.finish, b.last)
  | .prev =>
    match st.backward stride n with
    | some x => (.ok, x)
    | none => (.finish, b.first)

/-- The cursor's island exists with its generation, and its current node is a member of it: the island and
the node (R64). -/
def State.cursorPlace (s : State) : Option (Island × Nat) :=
  let c := s.resolver.cursor
  if s.store.goodHandle c.island c.generation then
    c.current.bind fun n =>
      match (s.store.node n).bind (·.island) with
      | some k => if k = c.island then (s.store.island c.island).map fun b => (b, n) else none
      | none => none
  else none

/-- The grant of WALK MOVE (R64, R65). -/
def grantWalkMove (move : Byte) (s : State) : State :=
  match parseMove move with
  | some m =>
    if !s.resolver.cursor.valid then answer .stale [] s
    else
      match s.cursorPlace with
      | some (b, n) =>
        let r := s.store.walk b s.resolver.cursor.stride n m
        answer r.1 (walkReply r.2 s) { s with resolver.cursor.current := some r.2 }
      | none => answer .stale [] { s with resolver.cursor.valid := false }
  | none => answer .range [] s

/-! ### READ TABLE -/

/-- The record of a table at an index (R66). -/
def tableRecord (t : TableName) (i : Nat) (s : State) : List Byte :=
  match t with
  | .nodes => nodeRecord i s
  | .switches => switchRecord i s
  | .islands => islandRecord i s

/-- The index after `i`, the last followed by 0 (R66). -/
def nextIndex (t : TableName) (i : Nat) : Nat := if i + 1 < tableSize t then i + 1 else 0

/-- A streamed record is a reply of its own: it is sent next when the frame waits for it, and after the
replies before it otherwise (R67, R182, R189). -/
def pushRecord (data : List Byte) (s : State) : State :=
  let r := replyBytes s.link.frameCheck .ok data
  if s.link.frame = .waiting then { s with link.frame := .status, link.reply := r }
  else { s with link.ready := s.link.ready ++ [r] }

/-- The unit of work of a streamed record's grant: the record is read and the index moves on (R66, R67). -/
def readRecord (x : Stream) (s : State) : State :=
  pushRecord (tableRecord x.table x.index s) { s with link.stream := some { x with index := nextIndex x.table x.index } }

/-- The grant of READ TABLE: its tests, and then the first record, whose grant it is; the claim for the next record
is in place (R66, R67; log 8). -/
def grantReadTable (table : Byte) (first : U16) (s : State) : State :=
  match parseTable table with
  | some t =>
    if tableSize t ≤ first.toNat then answer .range [] s
    else
      readRecord { table := t, index := first.toNat } { s with link.taken := none, arbiter.linkClaim := true }
  | none => answer .range [] s

end Sys2Proof.Machine
end

