-- ==== Sys2Proof/Machine/ClockUnit.lean ====
section
/-! DEFINITION. The Replay Clock: READ CLOCK (R82), the pacing tick (R83 to R89), SET PACING (R90, R91), SET
END (R92), SET MARK (R93) and SET STEP SPAN (R94), with the release from ENDED (R136). -/

namespace Sys2Proof.Machine

/-- The grant of READ CLOCK (R82). -/
def grantReadClock (s : State) : State :=
  let c := s.clock
  answer .ok
    (reply32 c.time ++ [byteOf c.frac] ++ reply16 c.rate ++ [c.direction.code] ++ reply32 c.endTime ++
      replyTime c.mark ++ reply32 c.span ++ replyTime c.boundary ++
      [flagByte c.starve, flagByte c.backlog, flagByte c.holdLine, flagByte c.pausedState]) s

/-! ### The pacing tick -/

/-- No hold cause is set (R83). -/
def Clock.unheld (c : Clock) : Bool := !c.starve && !c.backlog && !c.holdLine && !c.pausedState

/-- A tick advances the clock (R83). -/
def State.tickAdvances (s : State) : Bool := s.run.state.moves && s.clock.unheld

/-- The advance of a tick: F + R divided by 256, rounded down (R84). -/
def Clock.advance (c : Clock) : Nat := (c.frac + c.rate) / 256

/-- The fraction a tick leaves (R84). -/
def Clock.newFrac (c : Clock) : Nat := (c.frac + c.rate) % 256

/-- The advance reaches the end limit going forward, or zero going backward (R85, R86). -/
def Clock.atLimit (c : Clock) : Bool :=
  match c.direction with
  | .forward => decide (c.endTime - c.time ≤ c.advance)
  | .reverse => decide (c.time ≤ c.advance)

/-- The time at which a run ends in the direction of play (R85, R86). -/
def Clock.limit (c : Clock) : Nat :=
  match c.direction with
  | .forward => c.endTime
  | .reverse => 0

/-- The candidate time of a tick that has not reached the limit (R84). -/
def Clock.candidate (c : Clock) : Nat :=
  match c.direction with
  | .forward => c.time + c.advance
  | .reverse => c.time - c.advance

/-- The step boundary is reached at time `t` (R87). -/
def Clock.boundaryReached (c : Clock) (t : Nat) : Option Nat :=
  match c.boundary with
  | some b =>
    match c.direction with
    | .forward => if b ≤ t then some b else none
    | .reverse => if t ≤ b then some b else none
  | none => none

/-- A tick from `old` to `new` crosses the mark (R88). -/
def Clock.crosses (c : Clock) (old new : Nat) : Bool :=
  match c.mark with
  | some m =>
    match c.direction with
    | .forward => decide (old < m) && decide (m ≤ new)
    | .reverse => decide (m < old) && decide (new ≤ m)
  | none => false

/-- A tick that has reached the end limit or zero ends the run (R85, R86, R129). -/
def endRun (s : State) : State :=
  raise .ended
    { s with
      clock.time := s.clock.limit
      clock.frac := 0
      clock.boundary := none
      run.state := .ended }

/-- A step boundary `b` is reached: STEP_DONE, and either a new span starts or the run pauses (R87, R95). -/
def reachBoundary (b : Nat) (s : State) : State :=
  let s := raise .stepDone { s with clock.time := b, clock.frac := 0 }
  if s.panel.stepCondition then { s with clock.boundary := some (s.clock.addSpan b) }
  else enterPaused s

/-- The end, boundary and T of an advancing tick (R84 to R87). -/
def advanceTime (s : State) : State :=
  if s.clock.atLimit then endRun s
  else
    let next := s.clock.candidate
    let moved := { s with clock.time := next, clock.frac := s.clock.newFrac }
    if s.run.state = .stepping then
      match s.clock.boundaryReached next with
      | some b => reachBoundary b s
      | none => moved
    else moved

/-- The mark test, from the T the tick began with to the T it ends with (R88). -/
def testMark (old : Nat) (s : State) : State :=
  if s.clock.crosses old s.clock.time then raise .mark s else s

/-- The pacing tick (R83 to R89). -/
def pacingTick (s : State) : State :=
  if s.tickAdvances then testMark s.clock.time (advanceTime s) else s

/-! ### The clock's commands -/

/-- A rate is stored with a clamp (R90). -/
def clampRate (rate : Nat) : Nat :=
  if rate = 0 then 1 else if Config.maxRate < rate then Config.maxRate else rate

/-- An ACTIVE buffer is tested against the clock's direction; a rejection withdraws the claim for its head entry
(R111) and tests activation and STARVE again (R109, R118). -/
def testActiveBuffer (s : State) : State :=
  match s.sequencer.activeName with
  | some n =>
    if (s.sequencer.buffer n).tag = some s.clock.direction then s
    else testStarve (activate (withdrawSequencer (rejectBuffer n s)))
  | none => s

/-- The run leaves ENDED for PAUSED when the clock can move in the direction in force (R136). -/
def leaveEnded (s : State) : State :=
  if s.run.state = .ended ∧ s.clock.canMove = true then enterPaused s else s

/-- A direction change: F becomes 0, the previous timestamp becomes absent (R121), the ACTIVE buffer is
tested, and a run in ENDED may be released (R91, R136). -/
def changeDirection (d : Direction) (s : State) : State :=
  leaveEnded (testActiveBuffer
    { s with clock.direction := d, clock.frac := 0, sequencer.stats.previous := none })

/-- The run states in which the direction may change (R90). -/
def RunState.mayTurn : RunState → Bool
  | .ready => true
  | .paused => true
  | .ended => true
  | _ => false

/-- The grant of SET PACING (R90, R91). -/
def grantSetPacing (rate : U16) (direction : Byte) (s : State) : State :=
  match parseDirection direction with
  | some d =>
    if d ≠ s.clock.direction ∧ s.run.state.mayTurn = false then answer .protect [] s
    else
      let stored := { s with clock.rate := clampRate rate.toNat }
      let turned := if d = s.clock.direction then stored else changeDirection d stored
      answer .ok (reply16 turned.clock.rate ++ [turned.clock.direction.code]) turned
  | none => answer .range [] s

/-- The grant of SET END (R92, R136). -/
def grantSetEnd (endTime : U32) (s : State) : State :=
  if s.run.state.mayTurn then
    let stored := leaveEndedForward { s with clock.endTime := max endTime.toNat s.clock.time }
    answer .ok (reply32 stored.clock.endTime) stored
  else answer .protect [] s
where
  /-- SET END lets the clock move only FORWARD (R92, R136). -/
  leaveEndedForward (s : State) : State :=
    if s.clock.direction = .forward then leaveEnded s else s

/-- The grant of SET MARK (R93). -/
def grantSetMark (presence : Byte) (mark : U32) (s : State) : State :=
  match parseFlag presence with
  | some true => answer .ok [] { s with clock.mark := some mark.toNat }
  | some false => answer .ok [] { s with clock.mark := none }
  | none => answer .range [] s

/-- The grant of SET STEP SPAN (R94). -/
def grantSetStepSpan (span : U32) (s : State) : State :=
  if span.toNat = 0 then answer .range [] s
  else answer .ok [] { s with clock.span := span.toNat }

end Sys2Proof.Machine
end

