-- ==== Sys2Proof/Machine/Batches.lean ====
section
/-! DEFINITION. The batch buffers and the Sequencer: LOAD BATCH and the gathering of entries (R100 to R104),
ARM, DISCARD and READ BATCH (R105 to R107), and the grant that serves one entry (R110 to R122). -/

namespace Sys2Proof.Machine

/-! ### Loading -/

/-- The status of a LOAD BATCH (R100). -/
def loadStatus (letter tag : Byte) (s : State) : Status :=
  match s.run.state with
  | .build => .protect
  | .compiling => .protect
  | .restoring => .protect
  | _ =>
    match parseBuffer letter, parseDirection tag with
    | some n, some d =>
      let b := s.sequencer.buffer n
      match b.state with
      | .empty => .ok
      | .loading => if b.tag = some d then .ok else .range
      | _ => .busy
    | _, _ => .range

/-- A LOAD BATCH frame is refused with `st`, sent in every later position (R104). -/
def refuseLoad (st : Status) (s : State) : State :=
  { s with
    link.frame := .status
    link.taken := none
    link.reply := [st.code]
    link.load := none
    link.refusal := some st }

/-- A LOAD BATCH frame is accepted for buffer `n` with tag `d` (R100). -/
def acceptLoad (n : BufferName) (d : Direction) (s : State) : State :=
  let b := s.sequencer.buffer n
  let s := setBuffer n
    { b with
      state := .loading
      tag := some d
      lastLoad := some { outcome := .ok, counted := 0, torn := false } } s
  { s with
    link.frame := .status
    link.taken := none
    link.reply := [Status.ok.code]
    link.load := some n
    link.gathered := []
    link.refusal := none }

/-- LOAD BATCH is decided (R100). -/
def directLoadBatch (letter tag : Byte) (s : State) : State :=
  match loadStatus letter tag s, parseBuffer letter, parseDirection tag with
  | .ok, some n, some d => acceptLoad n d s
  | st, _, _ => refuseLoad st s

/-- Sets the outcome of the last load of buffer `n` (R101, R102). -/
def setOutcome (n : BufferName) (o : LoadOutcome) (s : State) : State :=
  let b := s.sequencer.buffer n
  setBuffer n { b with lastLoad := b.lastLoad.map fun l => { l with outcome := o } } s

/-- An entry is counted: it is appended to buffer `n` (R101). -/
def countEntry (n : BufferName) (bytes : List Byte) (s : State) : State :=
  let b := s.sequencer.buffer n
  setBuffer n
    { b with
      entries := b.entries ++ [packEntry bytes]
      lastLoad := b.lastLoad.map fun l => { l with counted := l.counted + 1 } } s

/-- The outcome CHECK, unless the outcome is already FULL (R101). -/
def markCheck (n : BufferName) (s : State) : State :=
  match (s.sequencer.buffer n).lastLoad with
  | some l => if l.outcome = .full then s else setOutcome n .check s
  | none => s

/-- One byte of a LOAD BATCH frame in ENTRIES (R101, R102, R188). -/
def gatherByte (byte : Byte) (s : State) : State :=
  match s.link.load with
  | some n =>
    if Config.bufferCapacity ≤ (s.sequencer.buffer n).entries.length then setOutcome n .full s
    else if s.link.gathered.length < 7 then
      { s with link.gathered := s.link.gathered ++ [byte] }
    else if s.link.gathered.length = 7 then
      if s.link.frameCheck then { s with link.gathered := s.link.gathered ++ [byte] }
      else countEntry n (s.link.gathered ++ [byte]) { s with link.gathered := [] }
    else if xorBytes s.link.gathered = byte then
      countEntry n s.link.gathered { s with link.gathered := [] }
    else raise .linkCheck (markCheck n { s with link.gathered := [] })
  | none => s

/-- The end of an accepted LOAD BATCH frame: an entry only partly gathered is torn (R103). -/
def endLoad (s : State) : State :=
  match s.link.load with
  | some n =>
    if s.link.gathered.isEmpty then s
    else
      let b := s.sequencer.buffer n
      raise .entryTorn
        (setBuffer n { b with lastLoad := b.lastLoad.map fun l => { l with torn := true } } s)
  | none => s

/-! ### Arming, discarding and reading -/

/-- A buffer becomes ARMED: its letter joins the arm order, STARVE is cleared, activation is tested, and
after a rejection the STARVE condition again (R105, R108, R109, R118). -/
def armBuffer (n : BufferName) (s : State) : State :=
  let s := setBuffer n { s.sequencer.buffer n with state := .armed } s
  testStarve (activate
    { s with sequencer.armOrder := s.sequencer.armOrder ++ [n], clock.starve := false })

/-- The grant of ARM BATCH (R105). -/
def grantArmBatch (letter : Byte) (s : State) : State :=
  match parseBuffer letter with
  | some n =>
    let b := s.sequencer.buffer n
    if b.state = .loading ∧ 1 ≤ b.entries.length then answer .ok [] (armBuffer n s)
    else answer .range [] s
  | none => answer .range [] s

/-- The grant of DISCARD BATCH (R106). -/
def grantDiscardBatch (letter : Byte) (s : State) : State :=
  match parseBuffer letter with
  | some n =>
    match (s.sequencer.buffer n).state with
    | .empty => answer .ok [] s
    | .loading => answer .ok [] (discard n s)
    | .armed => answer .ok [] (discard n s)
    | .active => answer .busy [] s
    | .spent => answer .busy [] s
  | none => answer .range [] s
where
  /-- The buffer becomes EMPTY and its letter leaves the arm order. -/
  discard (n : BufferName) (s : State) : State :=
    setBuffer n .cleared
      { s with sequencer.armOrder := s.sequencer.armOrder.filter fun m => decide (m ≠ n) }

/-- The arm position of a letter: 0 when it is not in the arm order, 1 first, 2 second (R107). -/
def armPosition (order : List BufferName) (n : BufferName) : Nat :=
  if order[0]? = some n then 1 else if order[1]? = some n then 2 else 0

/-- The head entry of a buffer as READ BATCH shows it (R107). -/
def headBytes (b : Buffer) : List Byte :=
  match b.state, b.entries[b.index]? with
  | .active, some e => 1 :: (List.range 8).map (entryByte e)
  | _, _ => List.replicate 9 0

/-- The grant of READ BATCH (R107). -/
def grantReadBatch (letter : Byte) (s : State) : State :=
  match parseBuffer letter with
  | some n =>
    let b := s.sequencer.buffer n
    let tag : Byte := match b.tag with
      | some d => d.code
      | none => 0
    let last : List Byte := match b.lastLoad with
      | some l => [1, l.outcome.code] ++ reply16 l.counted ++ [flagByte l.torn]
      | none => [0, 0, 0, 0, 0]
    answer .ok
      ([b.state.code, tag] ++ reply16 b.entries.length ++ reply16 b.index ++
        [byteOf (armPosition s.sequencer.armOrder n)] ++ last ++ headBytes b) s
  | none => answer .range [] s

/-! ### Applying an entry (R112) -/

/-- What the fault and room tests make of an entry (R112 steps 1 to 4). -/
inductive EntryPlan where
  /-- An entry fault (R27, R114). -/
  | fault
  /-- A SWITCH entry: the switch, its record before and after, and whether it is a discrepancy. -/
  | switch (sw : Nat) (old new : SwitchRec) (discrepancy : Bool)
  /-- A SOURCE entry: the node and the new online value of its job (R114). -/
  | source (node : Nat) (online : Bool)
  | cue
  deriving DecidableEq, Repr

/-- The plan of a SWITCH entry (R27 to R31). -/
def planSwitch (s : State) (time sw : Nat) (fromPos toPos : Option Position) : EntryPlan :=
  match s.store.switch sw, fromPos, toPos with
  | some r, some f, some t =>
    if Config.switchCapacity ≤ sw then .fault
    else
      match s.clock.direction with
      | .forward => .switch sw r (r.applyReport s.policy f t time) (decide (r.archived ≠ f))
      | .reverse => .switch sw r (r.applyReport s.policy t f time) (decide (r.archived ≠ t))
  | _, _, _ => .fault

/-- The plan of a SOURCE entry (R114). -/
def planSource (s : State) (node : Nat) (onlineAfter : Option Bool) : EntryPlan :=
  match s.store.node node, onlineAfter with
  | some r, some v =>
    if Config.nodeCapacity ≤ node ∨ r.kind ≠ .source then .fault
    else
      match s.clock.direction with
      | .forward => .source node v
      | .reverse => .source node (!v)
  | _, _ => .fault

/-- The plan of an entry (R112 steps 1 and 2). -/
def planEntry (s : State) (e : BitVec 64) : EntryPlan :=
  match readEntry e with
  | .switch sw f t => planSwitch s (entryTime e) sw f t
  | .source node v => planSource s node v
  | .cue => .cue
  | .bad => .fault

/-- The entry would append a job, and so needs room (R28, R112 step 4). -/
def EntryPlan.needsRoom : EntryPlan → Bool
  | .switch _ old new _ => decide (old.effective ≠ new.effective)
  | .source _ _ => true
  | _ => false

/-- A CUE entry is applied: it pauses a moving run, and in ENDED it sets the cue stop (R115). -/
def applyCue (s : State) : State :=
  match s.run.state with
  | .running => raise .cue (enterPaused s)
  | .stepping => raise .cue (enterPaused s)
  | .ended => raise .cue { s with sequencer.cueStop := true }
  | _ => raise .cue s

/-- The effect of an entry that is applied (R113 to R115). -/
def applyPlan (time : Nat) (p : EntryPlan) (s : State) : State :=
  match p with
  | .fault => s
  | .switch sw old new disc =>
    let s := commitSwitch sw old new time s
    if disc then
      { s with
        sequencer.stats.discrepancies := saturate16 s.sequencer.stats.discrepancies }
    else s
  | .source node v => appendJob (.source node v time) s
  | .cue => applyCue s

/-- How far an entry is applied behind its time, in the direction of play (R120). -/
def Clock.lag (c : Clock) (t : Nat) : Nat :=
  match c.direction with
  | .forward => c.time - t
  | .reverse => t - c.time

/-- A timestamp is earlier than the previous one in the direction of play (R121). -/
def Stats.outOfOrderAt (q : Stats) (d : Direction) (t : Nat) : Bool :=
  match q.previous with
  | some p =>
    match d with
    | .forward => decide (t < p)
    | .reverse => decide (p < t)
  | none => false

/-- The run statistics after an applied entry (R120, R121). -/
def Stats.afterEntry (c : Clock) (t : Nat) (q : Stats) : Stats :=
  { q with
    applied := if q.applied < Config.max32 then q.applied + 1 else q.applied
    maxLag := max q.maxLag (min (c.lag t) Config.max16)
    outOfOrder := if q.outOfOrderAt c.direction t then saturate16 q.outOfOrder else q.outOfOrder
    previous := some t }

/-- The next-entry index of buffer `n` advances past the entry (R112). -/
def advanceIndex (n : BufferName) (s : State) : State :=
  let b := s.sequencer.buffer n
  setBuffer n { b with index := b.index + 1 } s

/-- A buffer whose last entry is taken becomes SPENT, and at the end of the grant EMPTY: BATCH_DONE, then
activation and STARVE (R110). -/
def endSpent (n : BufferName) (s : State) : State :=
  let b := s.sequencer.buffer n
  if b.entries.length ≤ b.index then
    let s := setBuffer n { b with state := .spent } s
    testStarve (activate (raise .batchDone (setBuffer n .cleared s)))
  else s

/-- The Sequencer's grant serves the head entry `e` of buffer `n` (R112, R117, R122). -/
def serveEntry (n : BufferName) (e : BitVec 64) (s : State) : State :=
  let p := planEntry s e
  if p = .fault then
    let s := raise .entryFault
      { s with sequencer.stats.faults := saturate16 s.sequencer.stats.faults }
    endSpent n (advanceIndex n s)
  else if p.needsRoom && !s.hasRoom then
    let raised := if s.clock.backlog then s else raise .backlog s
    { raised with clock.backlog := true }
  else
    let before := s.sequencer.stats
    let stats := before.afterEntry s.clock (entryTime e)
    let s := { s with sequencer.stats := stats }
    let s := applyPlan (entryTime e) p s
    let s := handStats before (advanceIndex n s)
    endSpent n s

end Sys2Proof.Machine
end

