-- ==== Sys2Proof/Machine/RunUnit.lean ====
section
/-! DEFINITION. Run control: START, PAUSE, RESUME and STEP (R125, R130 to R133), RESTORE and its three
stages (R137 to R140), and READ STATUS (R144). -/

namespace Sys2Proof.Machine

/-! ### The moves of the run, shared by commands and cue lines (R134) -/

/-- STEP in READY or PAUSED: the boundary is set one span from T and the run enters STEPPING (R133). -/
def beginStep (s : State) : State :=
  enterMoving .stepping { s with clock.boundary := some (s.clock.addSpan s.clock.time) }

/-- STEP in STEPPING: the present boundary moves one more span (R133). -/
def extendStep (s : State) : State :=
  { s with clock.boundary := s.clock.boundary.map s.clock.addSpan }

/-- RESUME: the step boundary becomes absent and the run enters RUNNING (R132). -/
def resumeRun (s : State) : State := enterMoving .running { s with clock.boundary := none }

/-- The grant of START (R125, R130). -/
def grantStart (s : State) : State :=
  match s.run.state with
  | .ready => answer .ok [] (enterMoving .running s)
  | _ => answer .protect [] s

/-- The grant of PAUSE (R125, R131). -/
def grantPause (s : State) : State :=
  match s.run.state with
  | .running => answer .ok [] (enterPaused s)
  | .stepping => answer .ok [] (enterPaused s)
  | .paused => answer .ok [] s
  | _ => answer .protect [] s

/-- The grant of RESUME (R125, R132). -/
def grantResume (s : State) : State :=
  match s.run.state with
  | .stepping => answer .ok [] (resumeRun s)
  | .paused => answer .ok [] (resumeRun s)
  | _ => answer .protect [] s

/-- The grant of STEP (R125, R133). -/
def grantStep (s : State) : State :=
  match s.run.state with
  | .ready => answer .ok [] (beginStep s)
  | .paused => answer .ok [] (beginStep s)
  | .stepping => answer .ok [] (extendStep s)
  | _ => answer .protect [] s

/-! ### RESTORE -/

/-- The run enters RESTORING and the grant passes to the restore operation. At this hand-over the resolver's job
is abandoned with the work queue and the batch buffers are emptied, so their claims are withdrawn; an unsettled
part becomes settled, with SETTLED raised (R44, R58, R73; log 23). PAUSED_STATE and the cue stop clear as the run
leaves its state, and the followed states become NONE (R96, R115, R137, R168; log 16). -/
def beginRestore (s : State) : State :=
  let s := followNone (abandonJobs s)
  { s with
    run := { state := .restoring, compileStage := none, restoreStage := some .first }
    clock.pausedState := false
    clock.boundary := none
    sequencer := { Sequencer.cleared with stats := s.sequencer.stats }
    arbiter :=
      { s.arbiter with
        grant := .compileRestore
        linkWait := 0
        sequencerWait := 0
        resolverClaim := false
        sequencerClaim := false } }

/-- The grant of RESTORE (R125, R137). -/
def grantRestore (s : State) : State :=
  if s.run.state.hasModel then answer .ok [] (beginRestore s) else answer .protect [] s

/-- A TRIPPED condition returns to ARMED (R138 step 4). -/
def Watch.rearmed (w : Watch) : Watch :=
  if w.state = .tripped then { w with state := .armed, tripTime := none } else w

/-- The first stage of restore (R138). The hand-over has left no job and no buffer to abandon (R73). -/
def restoreFirstStage (s : State) : State :=
  let stats := s.sequencer.stats
  let s := abandonJobs s
  let s := rewindClock { s with sequencer := .cleared }
  let s := { s with watch.conditions := mapVector Watch.rearmed s.watch.conditions }
  let s := handStats stats s
  { s with run.restoreStage := some .second }

/-- A node without island id and links (R59). -/
def NodeRec.unlinked (r : NodeRec) : NodeRec := { r with island := none, prev := none, next := none }

/-- A switch as restore sets it: its initial position, and OPEN in effect when it is retired (R139). -/
def SwitchRec.restored (r : SwitchRec) : SwitchRec := { r.started with retired := r.retired }.rederive

/-- The second stage of restore: every island retires, links are cleared, and then switches and sources take
their initial values (R59, R139). -/
def restoreSecondStage (s : State) : State :=
  let st := s.store.retireAll
  { s with
    store :=
      { st with
        nodes := Tab.mapRecords (fun _ r => r.unlinked.started) st.nodes
        switches := Tab.mapRecords (fun _ r => r.restored) st.switches }
    run.restoreStage := some .labelling }

/-- The third stage of restore labels the islands and ends restore (R140). -/
def restoreEnd (s : State) : State :=
  let before := s.resolver.counts
  let s := commitStore (s.store.labelAll s.clock.time) s
  let s := report (evaluateAll (handCounts before s))
  let s := { s with run.state := .ready, run.restoreStage := none }
  releaseGrant (raise .restoreDone s)

/-! ### READ STATUS -/

/-- The 25 bytes of the status reply (R144, R194). -/
def statusReply (s : State) : List Byte :=
  let c := s.clock
  let q := s.sequencer.stats
  [s.run.state.code, flagByte c.starve, flagByte c.backlog, flagByte c.holdLine, flagByte c.pausedState,
   flagByte s.settled, byteOf s.resolver.queue.length, s.sequencer.bufferA.state.code,
   s.sequencer.bufferB.state.code] ++ reply32 c.time ++ reply32 q.applied ++ reply16 q.maxLag ++
    reply16 q.outOfOrder ++ reply16 q.faults ++ reply16 q.discrepancies

/-- READ STATUS: its items are taken with its status byte (R144, R181). -/
def directReadStatus (s : State) : State := answerLate .status s

end Sys2Proof.Machine
end

