-- ==== Sys2Proof/Machine/WatchCommands.lean ====
section
/-! DEFINITION. The commands of the Watch Unit: SET, CLEAR and READ WATCH (R149 to R151), READ EVENTS (R154),
SET EVENT ENABLES (R156), SET INTERRUPT LINE (R157) and READ INTERRUPT (R159). -/

namespace Sys2Proof.Machine

/-- Condition `n` is written as `w`; when it is ARMED it is evaluated at once; the reply is its state (R149,
R150). -/
def rewriteWatch (n : Fin 4) (w : Watch) (s : State) : State :=
  let s := setCondition n w s
  let s := if w.state = .armed then evaluate n s else s
  answer .ok [(s.watch.conditions.get n).state.code] s

/-- The grant of SET WATCH (R149). -/
def grantSetWatch (number quantity relation : Byte) (threshold : U16) (state : Byte) (s : State) : State :=
  match parseCondition number, parseQuantity quantity, parseRelation relation, parseWatchState state with
  | some n, some q, some r, some w =>
    rewriteWatch n
      { quantity := q, relation := r, threshold := threshold.toNat, state := w, tripTime := none } s
  | _, _, _, _ => answer .range [] s

/-- The grant of CLEAR WATCH (R150). -/
def grantClearWatch (number : Byte) (s : State) : State :=
  match parseCondition number with
  | some n =>
    let w := s.watch.conditions.get n
    if w.state = .tripped then rewriteWatch n { w with state := .armed, tripTime := none } s
    else answer .ok [w.state.code] s
  | none => answer .range [] s

/-- The grant of READ WATCH (R151). -/
def grantReadWatch (number : Byte) (s : State) : State :=
  match parseCondition number with
  | some n =>
    let w := s.watch.conditions.get n
    answer .ok
      ([w.quantity.code, w.relation.code] ++ reply16 w.threshold ++ [w.state.code] ++
        replyTime w.tripTime ++ reply16 (s.quantity w.quantity)) s
  | none => answer .range [] s

/-- READ EVENTS: the capture is made as the status byte is sent (R154, R181). -/
def directReadEvents (s : State) : State := answerLate .events s

/-- The capture of a READ EVENTS: every flag is kept for the reply and cleared, in one act (R154). -/
def captureEvents (s : State) : State :=
  { s with watch.flags := 0, link.captured := some s.watch.flags }

/-- The event word of a READ EVENTS reply (R154). -/
def eventsReply (s : State) : List Byte := bytes24 (eventWord s.watch.flags)

/-- SET EVENT ENABLES: bits 19 to 23 are read and not used (R156, R194). -/
def directSetEventEnables (word : U24) (s : State) : State :=
  answer .ok [] { s with watch.enables := word.setWidth 19 }

/-- SET INTERRUPT LINE (R157). -/
def directSetInterruptLine (enabled level drive : Byte) (s : State) : State :=
  match parseFlag enabled, parseFlag level, parseFlag drive with
  | some e, some high, some push =>
    if high && !push then answer .range [] s
    else
      answer .ok []
        { s with watch.intEnabled := e, watch.intActiveHigh := high, watch.intPushPull := push }
  | _, _, _ => answer .range [] s

/-- The 7 bytes of a READ INTERRUPT reply (R159). -/
def interruptReply (s : State) : List Byte :=
  bytes24 (eventWord s.watch.enables) ++
    [flagByte s.watch.intEnabled, flagByte s.watch.intActiveHigh, flagByte s.watch.intPushPull,
     flagByte s.interruptRequest]

/-- READ INTERRUPT: its items are taken with its status byte (R159, R181). -/
def directReadInterrupt (s : State) : State := answerLate .interrupt s

end Sys2Proof.Machine
end

