-- ==== Sys2Proof/Machine/PanelCommands.lean ====
section
/-! DEFINITION. The Panel Port: the sample event and its edges (R162 to R164, R134), SET CUE LINE (R165),
CLEAR LINE FLAGS (R166), SET INDICATOR (R167), REFRESH INDICATORS (R169), the flash phase (R171), READ LINES
(R173), READ CUE LINE and READ INDICATOR (R174). -/

namespace Sys2Proof.Machine

/-- Writes cue line `n`. -/
def setCue (n : Fin 8) (c : CueLine) (s : State) : State :=
  { s with panel.cues := s.panel.cues.set n.val c n.isLt }

/-- Writes indicator line `n`. -/
def setIndicatorLine (n : Fin 16) (l : Indicator) (s : State) : State :=
  { s with panel.indicators := s.panel.indicators.set n.val l n.isLt }

/-! ### The sample event -/

/-- A line after a sample: a level that two consecutive samples agree on is taken (R162). -/
def CueLine.sampled (level : Bool) (c : CueLine) : CueLine :=
  { c with
    taken := if c.lastSample = some level then some level else c.taken
    lastSample := some level }

/-- The sample makes an asserting edge: the taken level moves, from a level, into the asserted level. The
first level taken after a reset is no edge (R162). -/
def CueLine.assertsAt (level : Bool) (c : CueLine) : Bool :=
  c.taken.isSome && !c.asserted && (c.sampled level).asserted

/-- The function of an asserting edge reaches the Run Controller, which takes or refuses it (R134). -/
def takeFunction (f : CueFunction) (s : State) : State :=
  match f, s.run.state with
  | .step, .ready => beginStep s
  | .step, .paused => beginStep s
  | .step, .stepping => extendStep s
  | .pauseToggle, .running => enterPaused s
  | .pauseToggle, .paused => resumeRun s
  | _, _ => s

/-- An asserting edge of line `n`, an event of its own (R162, R163): the Sequencer tests for its claim within it, and a
claim placed on a free store is granted before the next edge is taken (R70, R111, R127). -/
def assertingEdge (n : Fin 8) (s : State) : State :=
  let c := s.panel.cues.get n
  let s := setCue n { c with flag := true } s
  let s := if c.intEnable then raise .cueLine s else s
  arbitrate (takeFunction c.function s)

/-- Line `n` is sampled; the HOLD condition is formed anew (R162, R164; log 13). -/
def sampleLine (levels : Byte) (s : State) (n : Fin 8) : State :=
  let c := s.panel.cues.get n
  let level := levels.getLsbD n.val
  let s := refreshHold (setCue n (c.sampled level) s)
  if c.assertsAt level then assertingEdge n s else s

/-- The eight cue lines. -/
def allCues : List (Fin 8) := [0, 1, 2, 3, 4, 5, 6, 7]

/-- The order in which the lines are taken: those of `order` first, each once (R163; log 7). -/
def cueOrder (order : List (Fin 8)) : List (Fin 8) :=
  let first := order.foldl (fun acc n => if n ∈ acc then acc else acc ++ [n]) []
  first ++ allCues.filter fun n => decide (n ∉ first)

/-- The sample event (R162). -/
def sampleEvent (levels : Byte) (order : List (Fin 8)) (s : State) : State :=
  (cueOrder order).foldl (sampleLine levels) s

/-! ### The line commands -/

/-- SET CUE LINE: the three settings are written in one act and the HOLD condition is formed anew (R165). -/
def directSetCueLine (line function edge enable : Byte) (s : State) : State :=
  match parseCue line, parseFunction function, parseEdge edge, parseFlag enable with
  | some n, some f, some e, some i =>
    answer .ok []
      (refreshHold
        (setCue n { s.panel.cues.get n with function := f, edge := e, intEnable := i } s))
  | _, _, _, _ => answer .range [] s

/-- The cue lines with the flags that the mask names cleared (R166). -/
def clearedCues (mask : Byte) (v : Vector CueLine 8) : Vector CueLine 8 :=
  allCues.foldl
    (fun v n =>
      if mask.getLsbD n.val then v.set n.val { v.get n with flag := false } n.isLt else v) v

/-- CLEAR LINE FLAGS (R166). -/
def directClearLineFlags (mask : Byte) (s : State) : State :=
  answer .ok [] { s with panel.cues := clearedCues mask s.panel.cues }

/-- READ CUE LINE (R174). -/
def directReadCueLine (line : Byte) (s : State) : State :=
  match parseCue line with
  | some n =>
    let c := s.panel.cues.get n
    let level : Byte := match c.taken with
      | some v => flagByte v
      | none => 2
    answer .ok
      [c.function.code, c.edge.code, flagByte c.intEnable, level, flagByte c.asserted, flagByte c.flag] s
  | none => answer .range [] s

/-- The run states in which the followed states stay NONE (R168). -/
def RunState.followsNone : RunState → Bool
  | .build => true
  | .compiling => true
  | .restoring => true
  | _ => false

/-- The followed state after SET INDICATOR (R167). -/
def refollow (st : RunState) (old : Indicator) (node : Nat) : Followed :=
  if old.node = node then old.followed
  else if st.followsNone then .none
  else .unknown

/-- SET INDICATOR (R167). -/
def directSetIndicator (line mode : Byte) (node : U16) (fixed level highZ : Byte) (s : State) : State :=
  if Config.nodeCapacity ≤ node.toNat then answer .range [] s
  else
    match parseIndicator line, parseMode mode, parseFlag fixed, parseFlag level, parseFlag highZ with
    | some n, some m, some f, some a, some z =>
      answer .ok []
        (setIndicatorLine n
          { mode := m, node := node.toNat, fixedActive := f, activeHigh := a, highZ := z,
            followed := refollow s.run.state (s.panel.indicators.get n) node.toNat } s)
    | _, _, _, _, _ => answer .range [] s

/-- The output of an indicator line as READ INDICATOR shows it: 0 LOW, 1 HIGH, 2 high impedance (R174). -/
def PinLevel.code : PinLevel → Byte
  | .low => 0
  | .high => 1
  | .highZ => 2

/-- READ INDICATOR (R174). -/
def directReadIndicator (line : Byte) (s : State) : State :=
  match parseIndicator line with
  | some n =>
    let l := s.panel.indicators.get n
    answer .ok
      ([l.mode.code] ++ reply16 l.node ++
        [flagByte l.fixedActive, flagByte l.activeHigh, flagByte l.highZ, l.followed.code,
         (l.output s.panel.flashActive).code]) s
  | none => answer .range [] s

/-- The grant of REFRESH INDICATORS: in BUILD every followed state stays NONE (R169). -/
def grantRefreshIndicators (s : State) : State :=
  if s.run.state.followsNone then answer .ok [] s else answer .ok [] (report s)

/-- A list of bits as a number, the first bit the least significant. -/
def bitsToNat (bits : List Bool) : Nat := bits.foldr (fun b acc => countBit b + 2 * acc) 0
where
  /-- 1 for a bit that is set. -/
  countBit (b : Bool) : Nat := if b then 1 else 0

/-- The 8 bytes of a READ LINES reply (R173, R194). -/
def linesReply (s : State) : List Byte :=
  let cues := s.panel.cues.toList
  let outs := s.panel.indicators.toList.map fun l => l.output s.panel.flashActive
  [byteOf (bitsToNat (cues.map fun c => c.taken == some true)), byteOf (bitsToNat (cues.map (·.flag)))] ++
    reply16 (bitsToNat (outs.map fun o => decide (o ≠ .highZ))) ++
    reply16 (bitsToNat (outs.map fun o => decide (o = .high))) ++
    [flagByte s.settleActive, flagByte s.panel.flashActive]

/-- READ LINES: its items are taken with its status byte (R173, R181). -/
def directReadLines (s : State) : State := answerLate .lines s

/-- The flash phase turns (R171). -/
def flashPhaseTurn (s : State) : State := { s with panel.flashActive := !s.panel.flashActive }

/-- SET CHECK MODE: the flag takes the new value when the status byte has been sent (R185; log 11). -/
def directSetCheckMode (value : Byte) (s : State) : State :=
  match parseFlag value with
  | some v => answer .ok [] { s with link.checkNext := some v }
  | none => answer .range [] s

end Sys2Proof.Machine
end

