-- ==== Sys2Proof/Machine/Link.lean ====
section
/-! DEFINITION. The Link Port (R175 to R190): the decision of a command (R74, R177), its claim and its grant
(R75, R76, R79), the bytes of a frame in both directions (R176, R179 to R189), and the start and the end of a
frame (R177, R183). A whole command is taken in one act by `hostCommand`, byte by byte by `hostBytes`. -/

namespace Sys2Proof.Machine

/-! ### What a command does -/

/-- How a command reaches its answer (R78, R79). -/
inductive Access where
  /-- Answered at once, without a claim (R78). -/
  | direct
  /-- Carried out within a LINK grant (R69, R76). -/
  | claim
  /-- CLEAR MODEL (R79). -/
  | clear
  deriving DecidableEq, Repr

/-- The commands of R78 take no claim, CLEAR MODEL acts as R79 gives, every other command takes a claim. -/
def accessOf : Command → Access
  | .clearModel => .clear
  | .readStatus => .direct
  | .readEvents => .direct
  | .setEventEnables _ => .direct
  | .setInterruptLine _ _ _ => .direct
  | .readInterrupt => .direct
  | .setCueLine _ _ _ _ => .direct
  | .clearLineFlags _ => .direct
  | .readCueLine _ => .direct
  | .setIndicator _ _ _ _ _ _ => .direct
  | .readIndicator _ => .direct
  | .readLines => .direct
  | .setCheckMode _ => .direct
  | .loadBatch _ _ => .direct
  | .defineNode _ _ _ => .claim
  | .defineSwitch _ _ _ _ => .claim
  | .buildEnd => .claim
  | .setPolicy _ => .claim
  | .overrideSwitch _ _ => .claim
  | .retireSwitch _ => .claim
  | .lookupSwitch _ => .claim
  | .lookupNode _ => .claim
  | .lookupIsland _ _ => .claim
  | .walkSet _ _ _ => .claim
  | .walkMove _ => .claim
  | .readTable _ _ => .claim
  | .readClock => .claim
  | .setPacing _ _ => .claim
  | .setEnd _ => .claim
  | .setMark _ _ => .claim
  | .setStepSpan _ => .claim
  | .armBatch _ => .claim
  | .discardBatch _ => .claim
  | .readBatch _ => .claim
  | .start => .claim
  | .pause => .claim
  | .resume => .claim
  | .step => .claim
  | .restore => .claim
  | .setWatch _ _ _ _ _ => .claim
  | .clearWatch _ => .claim
  | .readWatch _ => .claim
  | .refreshIndicators => .claim

/-- CLEAR MODEL is decided: an operation that holds the store is abandoned at once, a grant in progress ends
first (R79). `arbitrate` lets it act when the current grant is none. -/
def takeClear (s : State) : State :=
  arbitrate
    { s with
      arbiter.clearPending := true
      arbiter.grant := if s.arbiter.grant = .compileRestore then .none else s.arbiter.grant }

/-- What a command does when its turn has come: within its grant for a claim-taking command, at its decision
for the others. -/
def carryOut : Command → State → State
  | .defineNode node kind online => grantDefineNode node kind online
  | .defineSwitch sw endA endB position => grantDefineSwitch sw endA endB position
  | .buildEnd => grantBuildEnd
  | .clearModel => takeClear
  | .setPolicy policy => grantSetPolicy policy
  | .overrideSwitch sw action => grantOverrideSwitch sw action
  | .retireSwitch sw => grantRetireSwitch sw
  | .lookupSwitch sw => grantLookupSwitch sw
  | .lookupNode node => grantLookupNode node
  | .lookupIsland island generation => grantLookupIsland island generation
  | .walkSet island generation stride => grantWalkSet island generation stride
  | .walkMove move => grantWalkMove move
  | .readTable table first => grantReadTable table first
  | .readClock => grantReadClock
  | .setPacing rate direction => grantSetPacing rate direction
  | .setEnd endTime => grantSetEnd endTime
  | .setMark presence mark => grantSetMark presence mark
  | .setStepSpan span => grantSetStepSpan span
  | .loadBatch letter tag => directLoadBatch letter tag
  | .armBatch letter => grantArmBatch letter
  | .discardBatch letter => grantDiscardBatch letter
  | .readBatch letter => grantReadBatch letter
  | .start => grantStart
  | .pause => grantPause
  | .resume => grantResume
  | .step => grantStep
  | .restore => grantRestore
  | .readStatus => directReadStatus
  | .setWatch number quantity relation threshold state =>
      grantSetWatch number quantity relation threshold state
  | .clearWatch number => grantClearWatch number
  | .readWatch number => grantReadWatch number
  | .readEvents => directReadEvents
  | .setEventEnables word => directSetEventEnables word
  | .setInterruptLine enabled level drive => directSetInterruptLine enabled level drive
  | .readInterrupt => directReadInterrupt
  | .setCueLine line function edge enable => directSetCueLine line function edge enable
  | .clearLineFlags mask => directClearLineFlags mask
  | .readCueLine line => directReadCueLine line
  | .setIndicator line mode node fixed level highZ => directSetIndicator line mode node fixed level highZ
  | .readIndicator line => directReadIndicator line
  | .refreshIndicators => grantRefreshIndicators
  | .readLines => directReadLines
  | .setCheckMode value => directSetCheckMode value

/-! ### Claims and grants of the link -/

/-- A command that has been carried out ends its LINK grant, unless the grant has passed to compile or
restore (R73). -/
def endLinkGrant (s : State) : State := if s.arbiter.grant = .link then releaseGrant s else s

/-- The LINK grant in progress carries out the command it was given for, and ends (R76; log 2). -/
def finishLinkGrant (s : State) : State :=
  if s.arbiter.grant = .link then
    match s.link.taken with
    | some c => arbitrate (endLinkGrant (carryOut c s))
    | none => s
  else s

/-- The grant of a streamed record, where it is in progress: the record is read and the grant ends, the claim for the
next record being in place (R66, R67). -/
def streamWork (s : State) : Option State :=
  match s.arbiter.grant, s.link.taken, s.link.stream with
  | .link, none, some x => some (endUnit (readRecord x s))
  | _, _, _ => none

/-- A frame that waits for a record whose grant is in progress finds the record read before the next byte position
(R75, R182; log 9). -/
def readAwaited (s : State) : State :=
  if s.link.frame = .waiting then (streamWork s).getD s else s

/-- What a LINK grant in progress is to do before a byte position: the command it was given for, or the record for which
the frame waits (R75; log 2). -/
def finishLink (s : State) : State := readAwaited (finishLinkGrant s)

/-- The claim of the command in `taken` is placed. When the store is free it is granted at once and the
command's work ends before the next byte position (R75). -/
def placeClaim (s : State) : State :=
  finishLinkGrant (arbitrate { s with arbiter.linkClaim := true })

/-- With LMODE1 low a byte position begins on the last edge of the position before it (R175, R176): a frame that is in
WAITING then has its next position begun, with a wait byte (log 29). -/
def beginWait (s : State) : State :=
  if s.link.frame = .waiting ∧ s.link.lmode1 = false then { s with link.waitBegun := true } else s

/-- The decision of a command (R177). A claim-taking command that meets compile or restore is answered BUSY,
and its claim is not placed (R74). -/
def decideCommand (c : Command) (s : State) : State :=
  let s := { s with link.frame := .waiting, link.taken := some c }
  match accessOf c with
  | .direct => carryOut c s
  | .clear => beginWait (carryOut c s)
  | .claim => if s.arbiter.grant = .compileRestore then answer .busy [] s else beginWait (placeClaim s)

/-- A check byte that does not match: LINK_CHECK is raised and the command is answered CHECK; a LOAD BATCH
frame is refused with it (R186, R188). -/
def refuseCheck (c : Command) (s : State) : State :=
  let s := raise .linkCheck s
  match c with
  | .loadBatch _ _ => refuseLoad .check s
  | _ => answer .check [] s

/-- The command check byte has arrived (R186). -/
def testCheck (c : Command) (byte : Byte) (s : State) : State :=
  if byte = s.link.xor then decideCommand c s else refuseCheck c s

/-- The last argument byte has arrived: the frame waits for the check byte in check mode, and otherwise the
decision is made (R177). -/
def endArguments (c : Command) (s : State) : State :=
  if s.link.frameCheck then { s with link.frame := .check } else decideCommand c s

/-! ### The part's bytes -/

/-- A reply has been sent: the next streamed record follows when it is ready, the frame waits for it when it
is not, and otherwise the frame is in TRAILING (R182, R189). A READ EVENTS has then delivered its capture
(R155). -/
def endReply (s : State) : State :=
  match s.link.ready with
  | r :: rest => { s with link.frame := .status, link.reply := r, link.ready := rest }
  | [] =>
    if s.link.stream.isSome then { s with link.frame := .waiting, link.reply := [] }
    else { s with link.frame := .trailing, link.reply := [], link.captured := none }

/-- The items of a reading command, as the state stands (R144, R154, R159, R173). -/
def LateRead.items : LateRead → State → List Byte
  | .status => statusReply
  | .events => eventsReply
  | .interrupt => interruptReply
  | .lines => linesReply

/-- What a reading command does beside reading: READ EVENTS makes its capture (R154). -/
def LateRead.effect : LateRead → State → State
  | .status => id
  | .events => captureEvents
  | .interrupt => id
  | .lines => id

/-- The status byte of a reading command is sent: its items are taken, and the reply with its check byte is made of
them (R181, R187; log 12). -/
def takeItems (s : State) : State :=
  match s.link.late with
  | some r =>
    { r.effect s with
      link.reply := replyBytes s.link.frameCheck .ok (r.items s)
      link.late := none }
  | none => s

/-- The status position has ended (R177): the items of a reading command have been taken (R181), and a SET CHECK
MODE now has its effect (R185). -/
def sendStatus (s : State) : State :=
  let s := takeItems s
  let s :=
    { s with
      link.waitBegun := false
      link.reply := s.link.reply.tail
      link.checkMode := s.link.checkNext.getD s.link.checkMode
      link.checkNext := none }
  if s.link.load.isSome then { s with link.frame := .entries }
  else if s.link.refusal.isSome then { s with link.frame := .refusedLoad }
  else if s.link.reply.isEmpty then endReply s
  else { s with link.frame := .reply }

/-- A position has ended with the frame in STATUS: a position that began in WAITING carried a wait byte, and the status
is left to the position that begins now (R176); any other was the status position (R177). -/
def endStatus (s : State) : State :=
  if s.link.waitBegun then { s with link.waitBegun := false } else sendStatus s

/-- One position of a reply has ended (R177). -/
def sendReply (s : State) : State :=
  let s := { s with link.reply := s.link.reply.tail }
  if s.link.reply.isEmpty then endReply s else s

/-- The byte the part sends in the position that has begun or begins next; nothing when SDO is high impedance (R104,
R175, R176). -/
def State.sdoByte (s : State) : Option Byte :=
  match s.link.frame with
  | .idle => none
  | .command => some 0
  | .arguments => some 0
  | .check => some 0
  | .waiting => some 0
  | .status => some (if s.link.waitBegun then 0 else s.link.reply.head?.getD 0)
  | .reply => some (s.link.reply.head?.getD 0)
  | .entries =>
    some (match s.link.load.bind fun n => (s.sequencer.buffer n).lastLoad with
      | some l => l.outcome.code
      | none => 0)
  | .refusedLoad =>
    some (match s.link.refusal with
      | some st => st.code
      | none => 0)
  | .trailing => some 0

/-! ### The host's bytes -/

/-- The command byte of a frame has arrived, and with it the check-mode flag that governs the frame (R184).
-/
def latchCode (code : Byte) (s : State) : State :=
  { s with
    link.code := some code
    link.args := []
    link.xor := 0
    link.waitBegun := false
    link.frameCheck := s.link.checkMode }

/-- An argument byte is gathered (R177, R186). -/
def latchArgument (byte : Byte) (s : State) : State :=
  { s with link.args := s.link.args ++ [byte], link.xor := s.link.xor ^^^ byte }

/-- The command that the gathered bytes spell. -/
def Link.command (l : Link) : Option Command := l.code.bind fun code => decodeCommand code l.args

/-- A command byte arrives: an unknown one is answered at once, with no arguments and no check byte (R179).
-/
def commandByte (code : Byte) (s : State) : State :=
  let s := latchCode code s
  match argCount code with
  | none => answer .unknown [] s
  | some _ =>
    match decodeCommand code [] with
    | some c => endArguments c s
    | none => { s with link.frame := .arguments }

/-- An argument byte arrives; with the last one the gathered bytes spell a command (R178). -/
def argumentByte (byte : Byte) (s : State) : State :=
  let s := latchArgument byte s
  match s.link.command with
  | some c => endArguments c s
  | none => s

/-- A command check byte arrives (R186). -/
def checkByte (byte : Byte) (s : State) : State :=
  match s.link.command with
  | some c => testCheck c byte s
  | none => s

/-- One whole byte position: the host's byte arrives and the part's byte has been sent (R176, R177). A streamed record
whose grant is in progress is read before the position after the one that ends the record before it (R75, R182).
A position that begins in WAITING at the end of this one is begun here (R176).
Clock edges while no frame runs are not taken (R175). -/
def hostByte (s : State) (byte : Byte) : State :=
  match s.link.frame with
  | .idle => s
  | .command => commandByte byte s
  | .arguments => argumentByte byte s
  | .check => checkByte byte s
  | .waiting => beginWait s
  | .status => beginWait (readAwaited (endStatus s))
  | .reply => beginWait (readAwaited (sendReply s))
  | .entries => gatherByte byte s
  | .refusedLoad => s
  | .trailing => s

/-- Byte positions, one after the other. -/
def hostBytes (bytes : List Byte) (s : State) : State := bytes.foldl hostByte s

/-- The bytes a host sends for a command. -/
def sentBytes (c : Command) (check : Option Byte) : List Byte := c.frameBytes ++ check.toList

/-- The host sends a command, with a check byte or without. A new frame takes it whole: the command byte and
the arguments are latched, and the check byte is tested in check mode and otherwise falls in a filler position
(R184). In a frame that is past its command byte the bytes are taken as its positions take them. -/
def hostCommand (c : Command) (check : Option Byte) (s : State) : State :=
  match s.link.frame with
  | .command =>
    let s :=
      { s with
        link.code := some c.code
        link.args := c.argBytes
        link.xor := xorBytes c.argBytes
        link.waitBegun := false
        link.frameCheck := s.link.checkMode }
    match s.link.frameCheck, check with
    | true, some byte => testCheck c byte s
    | true, none => { s with link.frame := .check }
    | false, some byte => hostByte (decideCommand c s) byte
    | false, none => decideCommand c s
  | _ => hostBytes (sentBytes c check) (finishLink s)

/-! ### The start and the end of a frame -/

/-- SEL is asserted: a frame begins, unless the Link Port waits for SEL to go high after a reset (R177). -/
def selAssert (s : State) : State :=
  if s.link.frame = .idle ∧ s.link.awaitSelHigh = false then { s with link.frame := .command } else s

/-- The Link Port with no frame; the check-mode flag and the straps stay (R177, R184). That the command byte is
absent and nothing gathered stands between frames is the model's choice (log 27). -/
def Link.ended (l : Link) : Link :=
  { Link.initial l.lmode0 l.lmode1 l.lchk false with checkMode := l.checkMode }

/-- A capture that has not been delivered is set again (R155). -/
def putBackCapture (s : State) : State :=
  match s.link.captured with
  | some flags => { s with watch.flags := s.watch.flags ||| flags }
  | none => s

/-- SEL rises: the frame ends in whatever state it has reached. An entry partly gathered is torn (R103), an
undelivered capture is set again (R155), a waiting claim is withdrawn and a table stream ends (R67, R77, R183).
A CLEAR MODEL that has not acted is not carried out (log 10). -/
def endFrame (s : State) : State :=
  if s.link.frame = .idle then { s with link.awaitSelHigh := false }
  else
    let s := putBackCapture (endLoad s)
    arbitrate
      { s with
        link := s.link.ended
        arbiter.linkClaim := false
        arbiter.clearPending := false
        arbiter.grant := if s.arbiter.grant = .link then .none else s.arbiter.grant }

/-- The host clocks `clocked` and releases SEL. A LINK grant in progress is carried out before (R77, R183;
log 2). -/
def selRelease (clocked : List Byte) (s : State) : State :=
  endFrame (hostBytes clocked (finishLink s))

end Sys2Proof.Machine
end

