-- ==== Sys2Proof/Machine/Commands.lean ====
section
/-! DEFINITION. The meanings of the rows that cross the link: the reset and the frame, and the forty-three
link commands. Each is one definition over the operations of Link.lean; what the command does in its grant, or at
its decision, is in the file of its block. -/

namespace Sys2Proof.Machine

/-- The outcome of a step of this machine. -/
abbrev Result := Host.Outcome State Fault Refusal

/-! ### Reset and frames -/

/-- HARDWARE_RESET (R19, R190): every field takes its reset value, with the straps as sampled. -/
def execHardwareReset (lmode0 lmode1 lchk selLow : Bool) (s : State) : Result :=
  .next (State.afterReset lmode0 lmode1 lchk selLow s.pending)

/-- SEL_ASSERT (R177). -/
def execSelAssert (s : State) : Result := .next (selAssert s)

/-- SEL_RELEASE (R183). -/
def execSelRelease (clocked : List Byte) (s : State) : Result := .next (selRelease clocked s)

/-- UNKNOWN_COMMAND (R179): the byte arrives as the frame takes it. -/
def execUnknownCommand (code : Byte) (s : State) : Result := .next (hostByte (finishLink s) code)

/-- The host has read the status: a status position that has not been clocked is clocked first (R101). -/
def readStatusFirst (s : State) : State := if s.link.frame = .status then sendStatus s else s

/-- BATCH_ENTRY (R101, R102, R188): the bytes of one entry, in the positions after the status. -/
def execBatchEntry (bytes : List Byte) (s : State) : Result :=
  .next (hostBytes bytes (readStatusFirst (finishLink s)))

/-! ### Link commands -/

/-- DEFINE NODE (R4). -/
def execDefineNode (node : U16) (kind : Byte) (online : Byte) (check : Option Byte) (s : State) : Result :=
  .next (hostCommand (.defineNode node kind online) check s)

/-- DEFINE SWITCH (R6). -/
def execDefineSwitch (sw : U16) (endA : U16) (endB : U16) (position : Byte) (check : Option Byte)
    (s : State) : Result :=
  .next (hostCommand (.defineSwitch sw endA endB position) check s)

/-- BUILD END (R9). -/
def execBuildEnd (check : Option Byte) (s : State) : Result :=
  .next (hostCommand .buildEnd check s)

/-- CLEAR MODEL (R17, R18). -/
def execClearModel (check : Option Byte) (s : State) : Result :=
  .next (hostCommand .clearModel check s)

/-- SET POLICY (R25). -/
def execSetPolicy (policy : Byte) (check : Option Byte) (s : State) : Result :=
  .next (hostCommand (.setPolicy policy) check s)

/-- OVERRIDE SWITCH (R33). -/
def execOverrideSwitch (sw : U16) (action : Byte) (check : Option Byte) (s : State) : Result :=
  .next (hostCommand (.overrideSwitch sw action) check s)

/-- RETIRE SWITCH (R35). -/
def execRetireSwitch (sw : U16) (check : Option Byte) (s : State) : Result :=
  .next (hostCommand (.retireSwitch sw) check s)

/-- LOOKUP SWITCH (R36). -/
def execLookupSwitch (sw : U16) (check : Option Byte) (s : State) : Result :=
  .next (hostCommand (.lookupSwitch sw) check s)

/-- LOOKUP NODE (R60). -/
def execLookupNode (node : U16) (check : Option Byte) (s : State) : Result :=
  .next (hostCommand (.lookupNode node) check s)

/-- LOOKUP ISLAND (R61). -/
def execLookupIsland (island : U16) (generation : Byte) (check : Option Byte) (s : State) : Result :=
  .next (hostCommand (.lookupIsland island generation) check s)

/-- WALK SET (R63). -/
def execWalkSet (island : U16) (generation : Byte) (stride : Byte) (check : Option Byte)
    (s : State) : Result :=
  .next (hostCommand (.walkSet island generation stride) check s)

/-- WALK MOVE (R64). -/
def execWalkMove (move : Byte) (check : Option Byte) (s : State) : Result :=
  .next (hostCommand (.walkMove move) check s)

/-- READ TABLE, `first` its start index (R66). -/
def execReadTable (table : Byte) (first : U16) (check : Option Byte) (s : State) : Result :=
  .next (hostCommand (.readTable table first) check s)

/-- READ CLOCK (R82). -/
def execReadClock (check : Option Byte) (s : State) : Result :=
  .next (hostCommand .readClock check s)

/-- SET PACING (R90). -/
def execSetPacing (rate : U16) (direction : Byte) (check : Option Byte) (s : State) : Result :=
  .next (hostCommand (.setPacing rate direction) check s)

/-- SET END (R92). -/
def execSetEnd (endTime : U32) (check : Option Byte) (s : State) : Result :=
  .next (hostCommand (.setEnd endTime) check s)

/-- SET MARK (R93). -/
def execSetMark (presence : Byte) (mark : U32) (check : Option Byte) (s : State) : Result :=
  .next (hostCommand (.setMark presence mark) check s)

/-- SET STEP SPAN (R94). -/
def execSetStepSpan (span : U32) (check : Option Byte) (s : State) : Result :=
  .next (hostCommand (.setStepSpan span) check s)

/-- LOAD BATCH (R100). -/
def execLoadBatch (letter : Byte) (tag : Byte) (check : Option Byte) (s : State) : Result :=
  .next (hostCommand (.loadBatch letter tag) check s)

/-- ARM BATCH (R105). -/
def execArmBatch (letter : Byte) (check : Option Byte) (s : State) : Result :=
  .next (hostCommand (.armBatch letter) check s)

/-- DISCARD BATCH (R106). -/
def execDiscardBatch (letter : Byte) (check : Option Byte) (s : State) : Result :=
  .next (hostCommand (.discardBatch letter) check s)

/-- READ BATCH (R107). -/
def execReadBatch (letter : Byte) (check : Option Byte) (s : State) : Result :=
  .next (hostCommand (.readBatch letter) check s)

/-- START (R130). -/
def execStart (check : Option Byte) (s : State) : Result :=
  .next (hostCommand .start check s)

/-- PAUSE (R131). -/
def execPause (check : Option Byte) (s : State) : Result :=
  .next (hostCommand .pause check s)

/-- RESUME (R132). -/
def execResume (check : Option Byte) (s : State) : Result :=
  .next (hostCommand .resume check s)

/-- STEP (R133). -/
def execStep (check : Option Byte) (s : State) : Result :=
  .next (hostCommand .step check s)

/-- RESTORE (R137). -/
def execRestore (check : Option Byte) (s : State) : Result :=
  .next (hostCommand .restore check s)

/-- READ STATUS (R144). -/
def execReadStatus (check : Option Byte) (s : State) : Result :=
  .next (hostCommand .readStatus check s)

/-- SET WATCH (R149). -/
def execSetWatch (number : Byte) (quantity : Byte) (relation : Byte) (threshold : U16) (state : Byte) (check : Option Byte)
    (s : State) : Result :=
  .next (hostCommand (.setWatch number quantity relation threshold state) check s)

/-- CLEAR WATCH (R150). -/
def execClearWatch (number : Byte) (check : Option Byte) (s : State) : Result :=
  .next (hostCommand (.clearWatch number) check s)

/-- READ WATCH (R151). -/
def execReadWatch (number : Byte) (check : Option Byte) (s : State) : Result :=
  .next (hostCommand (.readWatch number) check s)

/-- READ EVENTS (R154). -/
def execReadEvents (check : Option Byte) (s : State) : Result :=
  .next (hostCommand .readEvents check s)

/-- SET EVENT ENABLES (R156). -/
def execSetEventEnables (word : U24) (check : Option Byte) (s : State) : Result :=
  .next (hostCommand (.setEventEnables word) check s)

/-- SET INTERRUPT LINE (R157). -/
def execSetInterruptLine (enabled : Byte) (level : Byte) (drive : Byte) (check : Option Byte)
    (s : State) : Result :=
  .next (hostCommand (.setInterruptLine enabled level drive) check s)

/-- READ INTERRUPT (R159). -/
def execReadInterrupt (check : Option Byte) (s : State) : Result :=
  .next (hostCommand .readInterrupt check s)

/-- SET CUE LINE (R165). -/
def execSetCueLine (line : Byte) (function : Byte) (edge : Byte) (enable : Byte) (check : Option Byte)
    (s : State) : Result :=
  .next (hostCommand (.setCueLine line function edge enable) check s)

/-- CLEAR LINE FLAGS (R166). -/
def execClearLineFlags (mask : Byte) (check : Option Byte) (s : State) : Result :=
  .next (hostCommand (.clearLineFlags mask) check s)

/-- READ CUE LINE (R174). -/
def execReadCueLine (line : Byte) (check : Option Byte) (s : State) : Result :=
  .next (hostCommand (.readCueLine line) check s)

/-- SET INDICATOR (R167). -/
def execSetIndicator (line : Byte) (mode : Byte) (node : U16) (fixed : Byte) (level : Byte) (highZ : Byte) (check : Option Byte)
    (s : State) : Result :=
  .next (hostCommand (.setIndicator line mode node fixed level highZ) check s)

/-- READ INDICATOR (R174). -/
def execReadIndicator (line : Byte) (check : Option Byte) (s : State) : Result :=
  .next (hostCommand (.readIndicator line) check s)

/-- REFRESH INDICATORS (R169). -/
def execRefreshIndicators (check : Option Byte) (s : State) : Result :=
  .next (hostCommand .refreshIndicators check s)

/-- READ LINES (R173). -/
def execReadLines (check : Option Byte) (s : State) : Result :=
  .next (hostCommand .readLines check s)

/-- SET CHECK MODE (R185). -/
def execSetCheckMode (value : Byte) (check : Option Byte) (s : State) : Result :=
  .next (hostCommand (.setCheckMode value) check s)

end Sys2Proof.Machine
end

