-- ==== Sys2Proof/Machine/Engines.lean ====
section
/-! DEFINITION. The meanings of the part's own units of work and of its clock events: the stages of compile (R10
to R14) and of restore (R138 to R140), a streamed record (R67), the pacing tick (R83), a Sequencer grant (R112),
the claims of the jobs (R48 to R57), the sample event (R162) and the flash phase (R171). A unit of work that the
grant in force does not serve is not due, and its step does nothing (log 5). -/

namespace Sys2Proof.Machine

/-! ### Shared forms -/

/-- The step of an engine, after a LINK grant in progress has ended: `work` gives its effect where it is due, and
otherwise nothing happens (log 5). -/
def engineStep (work : State → Option State) (s : State) : Result :=
  .next ((work (finishLinkGrant s)).getD (finishLinkGrant s))

/-- A stage of compile, where compile holds the store and takes that stage next (R10 to R14). -/
def compileWork (stage : CompileStage) (effect : State → State) (s : State) : Option State :=
  if s.arbiter.grant = .compileRestore ∧ s.run.state = .compiling ∧ s.run.compileStage = some stage then
    some (arbitrate (effect s))
  else none

/-- A stage of restore, where restore holds the store and takes that stage next (R138 to R140). -/
def restoreWork (stage : RestoreStage) (effect : State → State) (s : State) : Option State :=
  if s.arbiter.grant = .compileRestore ∧ s.run.state = .restoring ∧ s.run.restoreStage = some stage then
    some (arbitrate (effect s))
  else none

/-- A claim of the job in progress, where the resolver has the grant and `unit` serves the job (R46). -/
def resolverWork (unit : JobInProgress → Option (State → State)) (s : State) : Option State :=
  if s.arbiter.grant = .resolver then
    (s.resolver.current.bind unit).map fun effect => endUnit (effect s)
  else none

/-! ### Compile and restore -/

/-- COMPILE_INCIDENCE_LISTS (R10). -/
def execCompileIncidenceLists (s : State) : Result :=
  engineStep (compileWork .incidence compileIncidenceLists) s

/-- COMPILE_STARTING_VALUES (R11). -/
def execCompileStartingValues (s : State) : Result :=
  engineStep (compileWork .starting compileStartingValues) s

/-- COMPILE_END (R12 to R14). -/
def execCompileEnd (s : State) : Result := engineStep (compileWork .labelling compileEnd) s

/-- RESTORE_FIRST_STAGE (R138). -/
def execRestoreFirstStage (s : State) : Result :=
  engineStep (restoreWork .first restoreFirstStage) s

/-- RESTORE_SECOND_STAGE (R139). -/
def execRestoreSecondStage (s : State) : Result :=
  engineStep (restoreWork .second restoreSecondStage) s

/-- RESTORE_END (R140). -/
def execRestoreEnd (s : State) : Result := engineStep (restoreWork .labelling restoreEnd) s

/-! ### The table stream -/

/-- READ_TABLE_RECORD (R67). -/
def execReadTableRecord (s : State) : Result := engineStep streamWork s

/-! ### The Sequencer -/

/-- A Sequencer grant serves the head entry (R112). -/
def sequencerWork (s : State) : Option State :=
  if s.arbiter.grant = .sequencer then
    s.sequencer.head.map fun p => endUnit (serveEntry p.1 p.2 s)
  else none

/-- APPLY_ENTRY (R112). -/
def execApplyEntry (s : State) : Result := engineStep sequencerWork s

/-! ### The Island Resolver -/

/-- MERGE_GUARD (R49). -/
def execMergeGuard (s : State) : Result :=
  engineStep
    (resolverWork fun j => match j.job, j.stage with
      | .merge sw _, .guard => some (mergeGuard sw j)
      | _, _ => none) s

/-- MERGE_RELABEL (R50, R51). -/
def execMergeRelabel (s : State) : Result :=
  engineStep
    (resolverWork fun j => match j.job, j.stage with
      | .merge _ cause, .relabel => some (mergeRelabel cause j)
      | _, _ => none) s

/-- SPLIT_GUARD (R52). -/
def execSplitGuard (s : State) : Result :=
  engineStep
    (resolverWork fun j => match j.job, j.stage with
      | .split sw _, .guard => some (splitGuard sw j)
      | _, _ => none) s

/-- SPLIT_VISIT (R53, R54). -/
def execSplitVisit (s : State) : Result :=
  engineStep
    (resolverWork fun j => match j.job, j.stage with
      | .split _ _, .search => some (splitTurn j)
      | _, _ => none) s

/-- SPLIT_RELABEL (R55). -/
def execSplitRelabel (s : State) : Result :=
  engineStep
    (resolverWork fun j => match j.job, j.stage with
      | .split _ cause, .relabel => some (splitRelabel cause j)
      | _, _ => none) s

/-- SOURCE_JOB (R57). -/
def execSourceJob (s : State) : Result :=
  engineStep
    (resolverWork fun j => match j.job, j.stage with
      | .source n v cause, .guard => some (sourceJob n v cause j)
      | _, _ => none) s

/-! ### The reference clock -/

/-- PACING_TICK (R83): a moved T may let the Sequencer place its claim (R89). -/
def execPacingTick (s : State) : Result := .next (arbitrate (pacingTick s))

/-- SAMPLE_EVENT (R162): the run may have moved. -/
def execSampleEvent (levels : Byte) (order : List (Fin 8)) (s : State) : Result :=
  .next (arbitrate (sampleEvent levels order s))

/-- FLASH_PHASE_TURN (R171). -/
def execFlashPhaseTurn (s : State) : Result := .next (flashPhaseTurn s)

end Sys2Proof.Machine
end

