-- ==== Sys2Proof/Machine/Dispatch.lean ====
section
/-! DEFINITION. One arm per row of spec/opcode_table.json. -/

namespace Sys2Proof.Machine

def exec (i : Instr) (s : State) : Host.Outcome State Fault Refusal :=
  match i with
  | .hardwareReset lmode0 lmode1 lchk selLow => Sys2Proof.Machine.execHardwareReset lmode0 lmode1 lchk selLow s
  | .selAssert => Sys2Proof.Machine.execSelAssert s
  | .selRelease clocked => Sys2Proof.Machine.execSelRelease clocked s
  | .unknownCommand code => Sys2Proof.Machine.execUnknownCommand code s
  | .defineNode node kind online check => Sys2Proof.Machine.execDefineNode node kind online check s
  | .defineSwitch sw endA endB position check => Sys2Proof.Machine.execDefineSwitch sw endA endB position check s
  | .buildEnd check => Sys2Proof.Machine.execBuildEnd check s
  | .compileIncidenceLists => Sys2Proof.Machine.execCompileIncidenceLists s
  | .compileStartingValues => Sys2Proof.Machine.execCompileStartingValues s
  | .compileEnd => Sys2Proof.Machine.execCompileEnd s
  | .clearModel check => Sys2Proof.Machine.execClearModel check s
  | .setPolicy policy check => Sys2Proof.Machine.execSetPolicy policy check s
  | .overrideSwitch sw action check => Sys2Proof.Machine.execOverrideSwitch sw action check s
  | .retireSwitch sw check => Sys2Proof.Machine.execRetireSwitch sw check s
  | .lookupSwitch sw check => Sys2Proof.Machine.execLookupSwitch sw check s
  | .lookupNode node check => Sys2Proof.Machine.execLookupNode node check s
  | .lookupIsland island generation check => Sys2Proof.Machine.execLookupIsland island generation check s
  | .walkSet island generation stride check => Sys2Proof.Machine.execWalkSet island generation stride check s
  | .walkMove move check => Sys2Proof.Machine.execWalkMove move check s
  | .readTable table first check => Sys2Proof.Machine.execReadTable table first check s
  | .readTableRecord => Sys2Proof.Machine.execReadTableRecord s
  | .readClock check => Sys2Proof.Machine.execReadClock check s
  | .setPacing rate direction check => Sys2Proof.Machine.execSetPacing rate direction check s
  | .setEnd endTime check => Sys2Proof.Machine.execSetEnd endTime check s
  | .setMark presence mark check => Sys2Proof.Machine.execSetMark presence mark check s
  | .setStepSpan span check => Sys2Proof.Machine.execSetStepSpan span check s
  | .loadBatch letter tag check => Sys2Proof.Machine.execLoadBatch letter tag check s
  | .batchEntry bytes => Sys2Proof.Machine.execBatchEntry bytes s
  | .armBatch letter check => Sys2Proof.Machine.execArmBatch letter check s
  | .discardBatch letter check => Sys2Proof.Machine.execDiscardBatch letter check s
  | .readBatch letter check => Sys2Proof.Machine.execReadBatch letter check s
  | .start check => Sys2Proof.Machine.execStart check s
  | .pause check => Sys2Proof.Machine.execPause check s
  | .resume check => Sys2Proof.Machine.execResume check s
  | .step check => Sys2Proof.Machine.execStep check s
  | .restore check => Sys2Proof.Machine.execRestore check s
  | .restoreFirstStage => Sys2Proof.Machine.execRestoreFirstStage s
  | .restoreSecondStage => Sys2Proof.Machine.execRestoreSecondStage s
  | .restoreEnd => Sys2Proof.Machine.execRestoreEnd s
  | .readStatus check => Sys2Proof.Machine.execReadStatus check s
  | .setWatch number quantity relation threshold state check => Sys2Proof.Machine.execSetWatch number quantity relation threshold state check s
  | .clearWatch number check => Sys2Proof.Machine.execClearWatch number check s
  | .readWatch number check => Sys2Proof.Machine.execReadWatch number check s
  | .readEvents check => Sys2Proof.Machine.execReadEvents check s
  | .setEventEnables word check => Sys2Proof.Machine.execSetEventEnables word check s
  | .setInterruptLine enabled level drive check => Sys2Proof.Machine.execSetInterruptLine enabled level drive check s
  | .readInterrupt check => Sys2Proof.Machine.execReadInterrupt check s
  | .setCueLine line function edge enable check => Sys2Proof.Machine.execSetCueLine line function edge enable check s
  | .clearLineFlags mask check => Sys2Proof.Machine.execClearLineFlags mask check s
  | .readCueLine line check => Sys2Proof.Machine.execReadCueLine line check s
  | .setIndicator line mode node fixed level highZ check => Sys2Proof.Machine.execSetIndicator line mode node fixed level highZ check s
  | .readIndicator line check => Sys2Proof.Machine.execReadIndicator line check s
  | .refreshIndicators check => Sys2Proof.Machine.execRefreshIndicators check s
  | .readLines check => Sys2Proof.Machine.execReadLines check s
  | .setCheckMode value check => Sys2Proof.Machine.execSetCheckMode value check s
  | .pacingTick => Sys2Proof.Machine.execPacingTick s
  | .applyEntry => Sys2Proof.Machine.execApplyEntry s
  | .mergeGuard => Sys2Proof.Machine.execMergeGuard s
  | .mergeRelabel => Sys2Proof.Machine.execMergeRelabel s
  | .splitGuard => Sys2Proof.Machine.execSplitGuard s
  | .splitVisit => Sys2Proof.Machine.execSplitVisit s
  | .splitRelabel => Sys2Proof.Machine.execSplitRelabel s
  | .sourceJob => Sys2Proof.Machine.execSourceJob s
  | .sampleEvent levels order => Sys2Proof.Machine.execSampleEvent levels order s
  | .flashPhaseTurn => Sys2Proof.Machine.execFlashPhaseTurn s

end Sys2Proof.Machine
end

