-- ==== Sys2Proof/Safety.lean ====
section
/-! DEFINITION. The terms in which statements speak: the states in which a command is taken, carried out at once,
or left waiting, the link after an answer, and the invariants that every step keeps. -/

namespace Sys2Proof.Machine

/-! ### How a command meets the part -/

/-- The host sends the check byte that the check-mode flag asks for: the XOR of the arguments in check mode, none
otherwise (R184, R186). -/
def GoodCheck (c : Command) (check : Option Byte) (s : State) : Prop :=
  check = if s.link.checkMode then some (xorBytes c.argBytes) else none

/-- A frame is open for a command, and the command is sent as its mode asks. -/
def Taken (c : Command) (check : Option Byte) (s : State) : Prop :=
  s.link.frame = .command ∧ GoodCheck c check s

/-- The store is free, no claim waits and no work that would place one stands due: the part is settled, no
BACKLOG hold stands and the Sequencer has no entry to apply. -/
def Quiet (s : State) : Prop :=
  s.arbiter = .free ∧ s.resolver.queue = [] ∧ s.resolver.current = none ∧ s.clock.backlog = false ∧
    s.sequencerReady = false ∧ s.link.stream = none

/-- The link when command `c` has been latched and answered `st` with `data` (R177, R187). -/
def Link.replied (c : Command) (st : Status) (data : List Byte) (l : Link) : Link :=
  { l with
    frame := .status
    code := some c.code
    args := c.argBytes
    xor := xorBytes c.argBytes
    frameCheck := l.checkMode
    taken := none
    waitBegun := false
    reply := replyBytes l.checkMode st data }

/-- The link when command `c` has been latched and comes to its decision (R177). -/
def Link.waits (c : Command) (l : Link) : Link :=
  { l with
    frame := .waiting
    code := some c.code
    args := c.argBytes
    xor := xorBytes c.argBytes
    frameCheck := l.checkMode
    taken := some c
    waitBegun := false }

/-- The link when command `c` has been latched and its claim waits: with LMODE1 low the next position has begun, and
carries a wait byte (R176, R177). -/
def Link.waiting (c : Command) (l : Link) : Link := { l.waits c with waitBegun := !l.lmode1 }

/-- The link when a reading command `c` has been latched and answered OK, with its items still to be taken (R181). -/
def Link.repliedLate (c : Command) (r : LateRead) (l : Link) : Link :=
  { l.replied c .ok [] with reply := [0x01], late := some r }

/-- `s` with command `c` answered `st` and `data`, and nothing else changed. -/
def State.replied (c : Command) (st : Status) (data : List Byte) (s : State) : State :=
  { s with link := s.link.replied c st data }

/-- `s` when the status position of a reading command has ended with the items `data` taken: they are the reply, in
check mode with the XOR of status and items (R181, R187). -/
def State.withItems (data : List Byte) (s : State) : State :=
  { s with
    link :=
      { s.link with
        frame := .reply
        reply := if s.link.frameCheck then data ++ [xorBytes (0x01 :: data)] else data
        late := none } }

/-- The arbiter after a grant that left the store free, as the claims of `s` then stand (R70). -/
def Arbiter.next (s : State) : Arbiter :=
  { Arbiter.free with
    grant :=
      if s.resolver.current.isSome then .resolver
      else if s.sequencerReady then .sequencer
      else .none
    sequencerWait := if s.resolver.current.isSome && s.sequencerReady then 1 else 0
    sequencerClaim := s.resolver.current.isSome && s.sequencerReady }

/-! ### Hand-overs to the watch conditions -/

/-- A condition after one evaluation against `value` at time `time`: an ARMED one whose test is true is TRIPPED (R147,
R148). -/
def Watch.handed (value time : Nat) (w : Watch) : Watch :=
  if w.state = .armed ∧ (w.relation = .atLeast ∧ w.threshold ≤ value ∨ w.relation = .atMost ∧ value ≤ w.threshold) then
    { w with state := .tripped, tripTime := some time }
  else w

/-- From `s` to `t` every condition whose quantity differs from its value in `before` has been evaluated once, at the
time of `t`, the others stand, and the WATCH flags of those that tripped are raised (R43, R122, R147, R148). -/
def HandsChanges (before : Quantity → Nat) (s t : State) : Prop :=
  ∀ n : Fin 4,
    t.watch.conditions.get n =
      (if before (s.watch.conditions.get n).quantity = t.quantity (s.watch.conditions.get n).quantity then
        s.watch.conditions.get n
      else
        (s.watch.conditions.get n).handed (t.quantity (s.watch.conditions.get n).quantity) t.clock.time) ∧
    t.flag (watchEvent n) =
      (s.flag (watchEvent n) || decide (t.watch.conditions.get n ≠ s.watch.conditions.get n))

/-! ### The network -/

/-- An effectively CLOSED switch joins the two nodes (R12, R47). -/
def Store.Joined (st : Store) (m n : Nat) : Prop :=
  ∃ k x, st.switch k = some x ∧ x.effective = .closed ∧ (x.endA = m ∧ x.endB = n ∨ x.endA = n ∧ x.endB = m)

/-- The far ends from `n` of the effectively CLOSED switches of `sws`, in the order of `sws` (R12, R53). -/
def Store.closedEnds (st : Store) (n : Nat) (sws : List Nat) : List Nat :=
  sws.filterMap fun k => (st.switch k).bind fun x => if x.effective = .closed then some (x.farEnd n) else none

/-- What a visit of `n` adds to the nodes `seen`: each far end that is not among them, once, in the order of the first
switch of `sws` that reaches it (R12, R53). -/
def Store.newEnds (st : Store) (n : Nat) (sws seen : List Nat) : List Nat :=
  ((st.closedEnds n sws).filter fun m => decide (m ∉ seen)).eraseDups

/-- What a node's definition and online value are, apart from its place in an island (R1). -/
def NodeRec.definition (r : NodeRec) : NodeKind × Option Bool × Option Bool × List Nat :=
  (r.kind, r.initialOnline, r.online, r.incidence)

/-! ### Invariants -/

/-- The clock's fields stand in the ranges of R80; the boundary is present exactly in STEPPING (R87, R127 to
R129); PAUSED_STATE is set exactly in PAUSED (R96); HOLD_LINE is the HOLD condition (R97); the cue stop stands in
ENDED only (R115). -/
def ClockInv (s : State) : Prop :=
  s.clock.frac < 256 ∧ 1 ≤ s.clock.rate ∧ s.clock.rate ≤ Config.maxRate ∧ 1 ≤ s.clock.span ∧
  s.clock.span ≤ Config.maxTime ∧ s.clock.time ≤ s.clock.endTime ∧ s.clock.endTime ≤ Config.maxTime ∧
  (∀ m, s.clock.mark = some m → m ≤ Config.maxTime) ∧
  (∀ b, s.clock.boundary = some b → b ≤ s.clock.endTime) ∧
  (s.clock.boundary.isSome = true ↔ s.run.state = .stepping) ∧
  (s.clock.pausedState = true ↔ s.run.state = .paused) ∧
  s.clock.holdLine = s.panel.holdCondition ∧
  (s.sequencer.cueStop = true → s.run.state = .ended)

/-- The counts of the arbiter stand in the ranges of R68, and each is 0 while its claim does not wait (R71, R72).
-/
def ArbiterInv (s : State) : Prop :=
  s.arbiter.linkWait ≤ Config.linkTurn ∧ s.arbiter.sequencerWait ≤ Config.sequencerTurn ∧
  (s.arbiter.linkClaim = false → s.arbiter.linkWait = 0) ∧
  (s.arbiter.sequencerClaim = false → s.arbiter.sequencerWait = 0)

/-- A condition holds a trip time exactly when it is TRIPPED (R145). -/
def WatchInv (s : State) : Prop :=
  ∀ n : Fin 4, ((s.watch.conditions.get n).tripTime.isSome = true ↔
    (s.watch.conditions.get n).state = .tripped)

/-- Every switch's effective position is the one R22 derives, the work queue holds at most 64 jobs, and it holds
none while no job is in progress (R44, R45). -/
def QueueInv (s : State) : Prop :=
  (∀ p ∈ s.store.switches, p.2.effective = deriveEffective p.2.retired p.2.override p.2.held) ∧
  s.resolver.queue.length ≤ Config.queueCapacity ∧
  (s.resolver.current = none → s.resolver.queue = [])

/-- The tables have their canonical form, with every id in range. -/
def StoreInv (s : State) : Prop := s.store.canonical = true

/-- The tables have their canonical form, and every existing island is LIVE exactly when its online-source count is
at least 1 (R40). -/
def FeedInv (s : State) : Prop :=
  StoreInv s ∧ ∀ p ∈ s.store.islands, ∀ b, p.2.body = some b → (b.feed = .live ↔ 1 ≤ b.sourceCount)

/-- The tables have their canonical form, and outside RESTORING the device counts are what the island table gives
(R13, R42; restore sets them in its third stage, R140). -/
def CountsInv (s : State) : Prop :=
  StoreInv s ∧ (s.run.state ≠ .restoring → s.resolver.counts = s.store.tally)

/-- The frame discipline: a command is in hand only while the frame waits for it, a CLEAR MODEL that has not acted
is that command (R177, R79), a load runs only in the positions from its status on (R100, R177), items wait to be
taken only for the status position (R181), and a position begun in WAITING stands only with LMODE1 low, in WAITING or
in the STATUS that follows it (R176). -/
def FrameInv (s : State) : Prop :=
  (s.link.taken.isSome = true → s.link.frame = .waiting) ∧
  (s.arbiter.clearPending = true → s.link.taken = some .clearModel) ∧
  (s.link.load.isSome = true → s.link.frame = .status ∨ s.link.frame = .entries) ∧
  (s.link.late.isSome = true → s.link.frame = .status) ∧
  (s.link.waitBegun = true → s.link.lmode1 = false ∧ (s.link.frame = .waiting ∨ s.link.frame = .status))

/-- In BUILD, COMPILING and RESTORING nothing of the replay is in flight: the queue is empty, no job is in progress,
both buffers are EMPTY, and no load is in hand (R44, R73, R100, R143). -/
def RestInv (s : State) : Prop :=
  s.run.state = .build ∨ s.run.state = .compiling ∨ s.run.state = .restoring →
    s.resolver.queue = [] ∧ s.resolver.current = none ∧ s.sequencer.bufferA = .cleared ∧
    s.sequencer.bufferB = .cleared ∧ s.sequencer.armOrder = [] ∧ s.link.load = none

/-- `l` is the member list of island `k` with the fields `b`: its nodes in order, each once and no others, from the
first to the last member, each linked to its neighbours, as many as the member count says, with the online-source and
load counts of the members (R38, R39, R40). -/
def Store.IsMemberList (st : Store) (k : Nat) (b : Island) (l : List Nat) : Prop :=
  l.Nodup ∧ l.length = b.memberCount ∧ l.head? = some b.first ∧ l.getLast? = some b.last ∧
  (∀ n, n ∈ l ↔ ∃ r, st.node n = some r ∧ r.island = some k) ∧
  (∀ (i n : Nat) (r : NodeRec), l[i]? = some n → st.node n = some r →
    r.prev = (if i = 0 then none else l[i - 1]?) ∧ r.next = l[i + 1]?) ∧
  b.sourceCount = (l.filter fun n => decide ((st.node n).bind (·.online) = some true)).length ∧
  b.loadCount = (l.filter fun n => decide ((st.node n).map (·.kind) = some .load)).length

/-- Every existing island has its member list, and every node's island id names an existing island; a node of no
island has no links (R39). Only a SOURCE has online values (R1). In BUILD and COMPILING, and in RESTORING once its
second stage has been taken, no island exists and no node has one (R5, R19, R59); with a compiled model every node has
one (R12). -/
def ListInv (s : State) : Prop :=
  (∀ k b, s.store.island k = some b → ∃ l, s.store.IsMemberList k b l) ∧
  (∀ n r, s.store.node n = some r →
    (∀ k, r.island = some k → (s.store.island k).isSome = true) ∧
    (r.island = none → r.prev = none ∧ r.next = none) ∧
    (r.initialOnline.isSome = true ↔ r.kind = .source) ∧ (r.online.isSome = true ↔ r.kind = .source) ∧
    (s.run.state.hasModel = true → r.island.isSome = true)) ∧
  (s.run.state = .build ∨ s.run.state = .compiling ∨
      s.run.state = .restoring ∧ s.run.restoreStage = some .labelling →
    (∀ k, s.store.island k = none) ∧ ∀ n r, s.store.node n = some r → r.island = none)

/-- What R98, R99 and R103 say of one buffer: at most 256 entries with the next-entry index among them, nothing in
an EMPTY buffer, not SPENT between steps (log 1), its letter in the arm order exactly while it is ARMED, and LOADING
while a LOAD BATCH frame loads it. -/
def BufferGood (s : State) (n : BufferName) : Prop :=
  (s.sequencer.buffer n).entries.length ≤ Config.bufferCapacity ∧
  (s.sequencer.buffer n).index ≤ (s.sequencer.buffer n).entries.length ∧
  (s.sequencer.buffer n).state ≠ .spent ∧
  ((s.sequencer.buffer n).state = .empty → s.sequencer.buffer n = .cleared) ∧
  (n ∈ s.sequencer.armOrder ↔ (s.sequencer.buffer n).state = .armed) ∧
  (s.link.load = some n → (s.sequencer.buffer n).state = .loading)

/-- The frame discipline holds, nothing is in flight in BUILD, COMPILING and RESTORING, both buffers are good, the arm
order holds no letter twice, and at most one buffer is ACTIVE (R73, R98, R99, R108). -/
def BufferInv (s : State) : Prop :=
  FrameInv s ∧ RestInv s ∧ BufferGood s .a ∧ BufferGood s .b ∧ s.sequencer.armOrder.Nodup ∧
  ¬(s.sequencer.bufferA.state = .active ∧ s.sequencer.bufferB.state = .active)

end Sys2Proof.Machine
end

