-- ==== Sys2Proof/Certificates/Slice0/Obligations.lean ====
section
/-! DEFINITION. The statements for the provers. `Taken`, `Quiet`, `State.replied` and the invariants are defined in
Safety.lean. -/

open Sys2Proof Sys2Proof.Machine

/-! ### The queue -/

/-- A step takes the command at the front of the queue and runs it with the queue's rest. -/
def Obligations.StepRunsTheFrontCommand : Prop :=
  ∀ (i : Instr) (rest : List Instr) (s : State),
    step { s with pending := i :: rest } = exec i { s with pending := rest }

/-- On an empty queue the block idles, unless a LINK grant is in progress (the model's choice, log 3). On an empty
queue a LINK grant in progress carries out its command, ends unless it has passed to compile or restore, and the
arbiter chooses (R70, R76; that this happens on an empty queue is the model's choice, log 2 and 3). The step of an
engine while no grant is in progress does nothing (the model's choice, log 5). -/
def Obligations.EmptyQueueIdlesOrEndsTheGrant : Prop :=
  (∀ s : State, s.pending = [] → s.arbiter.grant ≠ .link → step s = .next s) ∧
  (∀ (c : Command) (s : State), s.pending = [] → s.arbiter.grant = .link → s.link.taken = some c →
     step s = .next (arbitrate
       (if (carryOut c s).arbiter.grant = .link then
         { carryOut c s with arbiter.grant := .none } else carryOut c s))) ∧
  (∀ (i : Instr) (s : State), s.arbiter.grant = .none →
     i ∈ [Instr.compileIncidenceLists, .compileStartingValues, .compileEnd, .restoreFirstStage,
       .restoreSecondStage, .restoreEnd, .mergeGuard, .mergeRelabel, .splitGuard, .splitVisit, .splitRelabel,
       .sourceJob, .applyEntry, .readTableRecord] →
     exec i s = .next s)

/-- No command or event changes the queue of those that wait behind it (the model's queue, log 31). -/
def Obligations.ExecKeepsTheQueue : Prop :=
  ∀ (i : Instr) (s t : State), exec i s = .next t → t.pending = s.pending

/-! ### Reset and frames -/

/-- Hardware reset sets the model tables: no node and no switch defined, no incidence list, every island record
exists no with generation 0, every id free, counts 0, no job, BUILD; what was in flight is abandoned and no event
flag is raised (R19). -/
def Obligations.HardwareResetEmptiesTheModel : Prop :=
  ∀ (lmode0 lmode1 lchk selLow : Bool) (s : State),
    ∃ t, exec (.hardwareReset lmode0 lmode1 lchk selLow) s = .next t ∧
      (∀ n, t.store.node n = none) ∧ (∀ n, t.store.incidenceOf n = []) ∧ (∀ n, t.store.switch n = none) ∧
      (∀ k, (t.store.island k = none ∧ (t.store.islandRec k).generation = 0)) ∧
      t.resolver.counts = { live := 0, deadNodes := 0, deadLoads := 0 } ∧
      t.resolver.queue = [] ∧ t.resolver.current = none ∧ t.run.state = .build ∧
      t.run.compileStage = none ∧ t.run.restoreStage = none ∧ t.link.frame = .idle ∧
      t.link.taken = none ∧ t.arbiter.grant = .none ∧ t.watch.flags = 0

/-- Hardware reset sets every other block: the policy HOLD, the cursor, arbiter, clock, buffers and statistics,
watch conditions, event flags and enables, interrupt line, panel lines, frame and straps at the values their rules
give. -/
def Obligations.HardwareResetSetsEveryBlock : Prop :=
  ∀ (lmode0 lmode1 lchk selLow : Bool) (s : State),
    ∃ t, exec (.hardwareReset lmode0 lmode1 lchk selLow) s = .next t ∧
      t.policy = .hold ∧ t.resolver.cursor.valid = false ∧ t.resolver.cursor.stride = 1 ∧
      t.resolver.cursor.island = 0 ∧ t.resolver.cursor.generation = 0 ∧ t.resolver.cursor.current = none ∧
      t.arbiter.linkWait = 0 ∧ t.arbiter.sequencerWait = 0 ∧ t.arbiter.linkClaim = false ∧
      t.arbiter.resolverClaim = false ∧ t.arbiter.sequencerClaim = false ∧
      t.clock.time = 0 ∧ t.clock.frac = 0 ∧ t.clock.rate = 256 ∧ t.clock.direction = .forward ∧
      t.clock.endTime = 4294967295 ∧ t.clock.mark = none ∧ t.clock.span = 10000 ∧ t.clock.boundary = none ∧
      t.clock.starve = false ∧ t.clock.backlog = false ∧ t.clock.holdLine = false ∧ t.clock.pausedState = false ∧
      (∀ n, (t.sequencer.buffer n).state = .empty ∧ (t.sequencer.buffer n).tag = none ∧
        (t.sequencer.buffer n).entries = [] ∧ (t.sequencer.buffer n).index = 0 ∧
        (t.sequencer.buffer n).lastLoad = none) ∧
      t.sequencer.armOrder = [] ∧ t.sequencer.cueStop = false ∧ t.sequencer.stats.applied = 0 ∧
      t.sequencer.stats.maxLag = 0 ∧ t.sequencer.stats.outOfOrder = 0 ∧ t.sequencer.stats.faults = 0 ∧
      t.sequencer.stats.discrepancies = 0 ∧ t.sequencer.stats.previous = none ∧
      (∀ n, (t.watch.conditions.get n).quantity = .liveIslands ∧
        (t.watch.conditions.get n).relation = .atLeast ∧ (t.watch.conditions.get n).threshold = 0 ∧
        (t.watch.conditions.get n).state = .disabled ∧ (t.watch.conditions.get n).tripTime = none) ∧
      t.watch.flags = 0 ∧ t.watch.enables = 0 ∧ t.watch.intEnabled = false ∧ t.watch.intActiveHigh = false ∧
      t.watch.intPushPull = false ∧ t.intPin = .highZ ∧
      (∀ n, (t.panel.cues.get n).function = .none ∧ (t.panel.cues.get n).edge = .rising ∧
        (t.panel.cues.get n).intEnable = false ∧ (t.panel.cues.get n).flag = false ∧
        (t.panel.cues.get n).taken = none ∧ (t.panel.cues.get n).lastSample = none) ∧
      (∀ n, (t.panel.indicators.get n).output t.panel.flashActive = .highZ ∧
        (t.panel.indicators.get n).mode = .fixed ∧ (t.panel.indicators.get n).node = 0 ∧
        (t.panel.indicators.get n).fixedActive = false ∧ (t.panel.indicators.get n).activeHigh = true ∧
        (t.panel.indicators.get n).followed = .none) ∧
      t.panel.flashActive = true ∧ t.settleActive = false ∧ t.sdoByte = none ∧ t.link.args = [] ∧ t.link.waitBegun = false ∧
      t.link.checkMode = lchk ∧ t.link.lmode0 = lmode0 ∧ t.link.lmode1 = lmode1 ∧
      t.link.awaitSelHigh = selLow

/-- SEL asserted opens a frame in COMMAND and changes nothing else; while the Link Port waits for SEL to go high
after a reset (R177), and while a frame runs (the model's reading, log 33), it changes nothing. SEL released in IDLE,
after a reset found it low, lets the next assertion open a frame (R177). SEL released ends the frame in whatever
state it has reached: the Link Port is IDLE with no stream or load, the check-mode flag as the bytes before left it,
and no LINK claim or grant (R183, R177). A release in WAITING with the LINK grant in progress finds the command
carried out in full: it acts as on the state in which the command has been carried out and its grant has ended, and
its changes stand (R77); that the release carries out a grant given at the end of an earlier step is the model's
choice (log 2). That a new check mode whose status has not been sent is dropped is the model's reading (log 11), and
that no command byte and nothing gathered stands between frames its choice (log 27). The bytes clocked since the last
command are the operand of the release (the model's choice, log 6). -/
def Obligations.SelectOpensAndEndsFrames : Prop :=
  (∀ s : State,
     exec .selAssert s = .next
       (if s.link.frame = .idle ∧ s.link.awaitSelHigh = false then { s with link.frame := .command } else s)) ∧
  (∀ (clocked : List Byte) (s : State), s.link.frame = .idle → s.arbiter.grant ≠ .link →
     exec (.selRelease clocked) s = .next { s with link.awaitSelHigh := false }) ∧
  (∀ (c : Command) (clocked : List Byte) (s u : State), accessOf c = .claim → s.link.frame = .waiting →
     s.arbiter.grant = .link → s.link.taken = some c → s.link.load = none →
     s.link.captured = none →
     u = arbitrate
       (if (carryOut c s).arbiter.grant = .link then
         { carryOut c s with arbiter.grant := .none } else carryOut c s) →
     u.link.taken = none ∧ u.link.frame = .status ∧
     exec (.selRelease clocked) s = exec (.selRelease clocked) u ∧
     ∃ t, exec (.selRelease []) s = .next t ∧ t = { u with link := t.link, arbiter := t.arbiter }) ∧
  (∀ (clocked : List Byte) (s : State), s.link.frame ≠ .idle →
     ∃ t, exec (.selRelease clocked) s = .next t ∧ t.link.frame = .idle ∧ t.link.code = none ∧
       t.link.args = [] ∧ t.link.taken = none ∧ t.link.stream = none ∧ t.link.load = none ∧
       t.link.captured = none ∧ t.link.reply = [] ∧ t.link.ready = [] ∧ t.link.checkNext = none ∧
       t.link.checkMode = (hostBytes clocked (finishLink s)).link.checkMode ∧
       t.arbiter.linkClaim = false ∧ t.arbiter.linkWait = 0 ∧ t.arbiter.grant ≠ .link ∧ t.sdoByte = none)

/-- A frame that ends before its command has come to its grant changes nothing but the link and the arbiter: a
release in COMMAND, ARGUMENTS or CHECK with no further byte, whoever but the link has the store, and a release in
WAITING while the claim waits for the grant of another, whatever bytes come first; the claim is withdrawn and a
grant in progress goes on (R77, R183). That a CLEAR MODEL still waiting at the release is not carried out either is
the model's reading (log 10). -/
def Obligations.UndecidedCommandIsNotCarriedOut : Prop :=
  ∀ (clocked : List Byte) (s : State),
    (s.link.frame = .waiting ∧ (s.arbiter.grant = .resolver ∨ s.arbiter.grant = .sequencer) ∨
      clocked = [] ∧ (s.link.frame = .command ∨ s.link.frame = .arguments ∨ s.link.frame = .check) ∧
        s.arbiter.grant ≠ .link) →
    s.link.load = none → s.link.captured = none →
    ∃ t, exec (.selRelease clocked) s = .next t ∧ t = { s with link := t.link, arbiter := t.arbiter } ∧
      t.arbiter.linkClaim = false ∧ t.arbiter.linkWait = 0 ∧ t.arbiter.clearPending = false ∧
      (s.arbiter.grant ≠ .none → t.arbiter.grant = s.arbiter.grant)

/-- SEL released in a READ EVENTS frame that has not delivered its capture sets every captured flag again, and flags
raised since stay (R155). SEL released in an accepted LOAD BATCH frame ends the load: an entry partly gathered is
torn, marks the last load and raises ENTRY_TORN; at an entry boundary nothing is torn. Counted entries stay and the
buffer stays as it is (R103). -/
def Obligations.SelReleaseSettlesCapturesAndLoads : Prop :=
  (∀ (flags : BitVec 19) (s : State), s.link.frame = .status ∨ s.link.frame = .reply →
     s.link.captured = some flags → s.link.load = none → s.arbiter.grant ≠ .link → s.arbiter.clearPending = false →
     ∃ t, exec (.selRelease []) s = .next t ∧ t.watch = { s.watch with flags := s.watch.flags ||| flags } ∧
       t = { s with link := t.link, arbiter := t.arbiter, watch := t.watch }) ∧
  (∀ (n : BufferName) (s : State), s.link.frame = .entries → s.link.load = some n → s.link.captured = none →
     s.arbiter.grant ≠ .link → s.arbiter.clearPending = false →
     ∃ t, exec (.selRelease []) s = .next t ∧
       t.sequencer.buffer n =
         (if s.link.gathered = [] then s.sequencer.buffer n
           else { s.sequencer.buffer n with
                  lastLoad := (s.sequencer.buffer n).lastLoad.map fun l => { l with torn := true } }) ∧
       t.watch = (if s.link.gathered = [] then s.watch
         else { s.watch with flags := s.watch.flags ||| (1#19 <<< Event.entryTorn.bit) }) ∧
       (∀ m, m ≠ n → t.sequencer.buffer m = s.sequencer.buffer m) ∧
       t = { s with link := t.link, arbiter := t.arbiter, watch := t.watch, sequencer := t.sequencer } ∧
       t.sequencer.armOrder = s.sequencer.armOrder ∧ t.sequencer.stats = s.sequencer.stats ∧
       t.sequencer.cueStop = s.sequencer.cueStop)

/-! ### Decoding and deciding commands -/

/-- Every command's code and argument bytes decode to that command, with every operand at every value (R178). A code
and argument bytes that decode are the bytes of the command they spell: no bit is dropped and no two byte strings
spell one command (R178). -/
def Obligations.CommandCodingIsExact : Prop :=
  (∀ c : Command, decodeCommand c.code c.argBytes = some c ∧ argCount c.code = some c.argBytes.length) ∧
  (∀ (code : Byte) (args : List Byte) (c : Command), decodeCommand code args = some c →
     c.code = code ∧ c.argBytes = args)

/-- A command taken whole is what its bytes do one position after the other: the frame of R176 to R178, R184 and
R186 and the row of the command agree, in check mode and out of it, with a check byte and without. That a row
carries its arguments and an optional check byte is the model's choice (log 6). -/
def Obligations.CommandRowsAreTheirBytes : Prop :=
  ∀ (c : Command) (check : Option Byte) (s : State), s.link.frame = .command →
    exec (c.toInstr check) s = .next (hostBytes (c.frameBytes ++ check.toList) s)

/-- A command byte that names no command is answered UNKNOWN at once, in check mode with its reply check byte; no
claim is placed and no event is raised (R179). In check mode a check byte that differs from the XOR of the arguments
raises LINK_CHECK and answers CHECK, in every run state and before the BUSY test; nothing is carried out and no
claim is placed. A LOAD BATCH is refused with CHECK (R186, R188). In check mode a command sent without its check
byte waits for it in CHECK, and nothing else changes (R177). A command row sent without its check byte is a case of
the model's operands (log 6). -/
def Obligations.UnknownAndBadlySentCommands : Prop :=
  (∀ (code : Byte) (s : State), s.link.frame = .command → argCount code = none → s.arbiter.grant ≠ .link →
     exec (.unknownCommand code) s = .next
       { s with
         link :=
           { s.link with
             frame := .status, code := some code, args := [], xor := 0, frameCheck := s.link.checkMode,
             taken := none, waitBegun := false, reply := if s.link.checkMode then [0x07, 0x07] else [0x07] } }) ∧
  (∀ (c : Command) (byte : Byte) (s : State), s.link.frame = .command → s.link.checkMode = true →
     byte ≠ xorBytes c.argBytes →
     ∃ t, exec (c.toInstr (some byte)) s = .next t ∧
       t = { s with link := t.link, watch.flags := s.watch.flags ||| (1#19 <<< Event.linkCheck.bit) } ∧
       t.link.frame = .status ∧ t.link.reply.head? = some 0x06 ∧ t.link.taken = none ∧
       (∀ letter tag, c = .loadBatch letter tag → t.link.refusal = some .check) ∧
       ((∀ letter tag, c ≠ .loadBatch letter tag) → t.link = s.link.replied c .check [])) ∧
  (∀ (c : Command) (s : State), s.link.frame = .command → s.link.checkMode = true →
     exec (c.toInstr none) s = .next
       { s with
         link :=
           { s.link with
             frame := .check, code := some c.code, args := c.argBytes, xor := xorBytes c.argBytes,
             waitBegun := false, frameCheck := true } })

/-- While compile or restore holds the store, a claim-taking command is answered BUSY, and nothing else changes; the
counts of the arbiter stand (R74). While a RESOLVER or SEQUENCER grant is in progress, a claim-taking command places
its claim and waits: the part sends wait bytes, with LMODE1 low from the position that begins with the end of the row
(that a row ends with the last edge of its last byte is the model's reading, log 29), the grant goes on, and nothing
but the link and the claims changes (R69, R75). -/
def Obligations.ClaimsMeetTheGrant : Prop :=
  (∀ (c : Command) (check : Option Byte) (s : State), Taken c check s → accessOf c = .claim →
     s.arbiter.grant = .compileRestore → exec (c.toInstr check) s = .next (s.replied c .busy [])) ∧
  (∀ (c : Command) (check : Option Byte) (s : State), Taken c check s → accessOf c = .claim →
     s.arbiter.grant = .resolver ∨ s.arbiter.grant = .sequencer →
     ∃ t, exec (c.toInstr check) s = .next t ∧
       t = { s with link := s.link.waiting c, arbiter := t.arbiter } ∧ t.sdoByte = some 0 ∧
       t.arbiter.grant = s.arbiter.grant ∧ t.arbiter.linkClaim = true)

/-- The Sequencer has a claim in place exactly while the run is RUNNING, STEPPING or ENDED, the ACTIVE buffer holds a
head entry, the entry at its next-entry index, whose timestamp is at most T going FORWARD or at least T going
REVERSE, and neither the BACKLOG hold nor the cue stop is set (R111; at most one buffer is ACTIVE, R108). The
arbiter's choice on a free store: a LINK claim whose count stands at 16, a SEQUENCER claim whose count stands at 4,
the resolver's claim, the Sequencer's claim, the LINK claim, in this order (R70); each grant to the resolver raises
the counts of the LINK and SEQUENCER claims that wait, each to the Sequencer that of a LINK claim, a grant sets its
own claimant's count to 0, and a count stands at 0 while its claim does not wait (R71, R72). While a grant is in
progress nothing is chosen and the counts stand. The claim of a job and a Sequencer grant end with this choice on a
free store. CLEAR MODEL behind a RESOLVER, SEQUENCER or LINK grant waits: the part sends wait bytes and nothing but
the link and the arbiter changes. With the end of that grant, and before any other grant, it acts: BUILD, empty
tables, queue and buffers, the arbiter free, and OK in its frame (R79; on tables in their canonical form). That
claims placed in one step meet one choice is the model's reading (log 18), and an engine that is not due does nothing
by its choice (log 5). -/
def Obligations.ArbiterChoosesTheNextGrant : Prop :=
  (∀ s : State, ¬(s.sequencer.bufferA.state = .active ∧ s.sequencer.bufferB.state = .active) →
     (s.sequencerReady = true ↔
       (s.run.state = .running ∨ s.run.state = .stepping ∨ s.run.state = .ended) ∧
       (∃ n e, (s.sequencer.buffer n).state = .active ∧
         (s.sequencer.buffer n).entries[(s.sequencer.buffer n).index]? = some e ∧
         (s.clock.direction = .forward ∧ entryTime e ≤ s.clock.time ∨
           s.clock.direction = .reverse ∧ s.clock.time ≤ entryTime e)) ∧
       s.clock.backlog = false ∧ s.sequencer.cueStop = false) ∧
     ∀ n e, s.sequencer.head = some (n, e) ↔
       (s.sequencer.buffer n).state = .active ∧
         (s.sequencer.buffer n).entries[(s.sequencer.buffer n).index]? = some e) ∧
  (∀ (s : State) (res seq : Bool) (lw sw : Nat), s.arbiter.grant = .none → s.arbiter.clearPending = false →
     res = s.resolver.current.isSome → seq = s.sequencerReady →
     lw = (if s.arbiter.linkClaim then s.arbiter.linkWait else 0) →
     sw = (if s.arbiter.grant = .none ∧ seq = true then s.arbiter.sequencerWait else 0) →
     arbitrate s =
       { s with
         arbiter :=
           if lw = 16 ∧ s.arbiter.linkClaim = true then
             { s.arbiter with
               grant := .link, linkWait := 0, sequencerWait := sw, resolverClaim := res, sequencerClaim := seq,
               linkClaim := s.link.stream.isSome }
           else if sw = 4 ∧ seq = true then
             { s.arbiter with
               grant := .sequencer, linkWait := if s.arbiter.linkClaim then lw + 1 else 0, sequencerWait := 0,
               resolverClaim := res, sequencerClaim := false }
           else if res = true then
             { s.arbiter with
               grant := .resolver, linkWait := if s.arbiter.linkClaim then lw + 1 else 0,
               sequencerWait := if seq then sw + 1 else 0, resolverClaim := false, sequencerClaim := seq }
           else if seq = true then
             { s.arbiter with
               grant := .sequencer, linkWait := if s.arbiter.linkClaim then lw + 1 else 0, sequencerWait := 0,
               resolverClaim := false, sequencerClaim := false }
           else if s.arbiter.linkClaim = true then
             { s.arbiter with
               grant := .link, linkWait := 0, sequencerWait := 0, resolverClaim := false, sequencerClaim := false,
               linkClaim := s.link.stream.isSome }
           else
             { s.arbiter with
               linkWait := 0, sequencerWait := 0, resolverClaim := false, sequencerClaim := false } }) ∧
  (∀ (s : State), s.arbiter.grant ≠ .none →
     ∃ t, arbitrate s = t ∧ t = { s with arbiter := t.arbiter } ∧ t.arbiter.grant = s.arbiter.grant ∧
       t.arbiter.linkClaim = s.arbiter.linkClaim ∧ t.arbiter.clearPending = s.arbiter.clearPending ∧
       t.arbiter.linkWait = (if s.arbiter.linkClaim then s.arbiter.linkWait else 0) ∧
       t.arbiter.sequencerWait = (if t.arbiter.sequencerClaim then s.arbiter.sequencerWait else 0) ∧
       (t.arbiter.resolverClaim = true ↔ s.resolver.current ≠ none ∧ s.arbiter.grant ≠ .resolver ∧
         s.arbiter.grant ≠ .compileRestore) ∧
       (t.arbiter.sequencerClaim = true ↔ s.sequencerReady = true ∧ s.arbiter.grant ≠ .sequencer ∧
         s.arbiter.grant ≠ .compileRestore)) ∧
  (∀ (i : Instr) (s : State),
     s.arbiter.grant = .resolver ∧
       i ∈ [Instr.mergeGuard, .mergeRelabel, .splitGuard, .splitVisit, .splitRelabel, .sourceJob] →
     exec i s = .next s ∨
       ∃ u, u.arbiter = { s.arbiter with grant := .none } ∧ exec i s = .next (arbitrate u)) ∧
  (∀ (n : BufferName) (e : BitVec 64) (s : State), s.arbiter.grant = .sequencer →
     s.sequencer.head = some (n, e) →
     ∃ u, u.arbiter.grant = .none ∧ u.arbiter.linkClaim = s.arbiter.linkClaim ∧
       u.arbiter.linkWait = s.arbiter.linkWait ∧ u.arbiter.clearPending = s.arbiter.clearPending ∧
       exec .applyEntry s = .next (arbitrate u)) ∧
  (∀ (check : Option Byte) (s : State), Taken .clearModel check s →
     s.arbiter.grant = .resolver ∨ s.arbiter.grant = .sequencer ∨ s.arbiter.grant = .link →
     ∃ t, exec (.clearModel check) s = .next t ∧
       t = { s with link := s.link.waiting .clearModel, arbiter := t.arbiter } ∧ t.sdoByte = some 0 ∧
       t.arbiter.grant = s.arbiter.grant ∧ t.arbiter.clearPending = true) ∧
  (∀ (i : Instr) (s : State), StoreInv s → s.arbiter.clearPending = true → s.link.taken = some .clearModel →
     (s.arbiter.grant = .resolver ∧
         i ∈ [Instr.mergeGuard, .mergeRelabel, .splitGuard, .splitVisit, .splitRelabel, .sourceJob] ∨
       s.arbiter.grant = .sequencer ∧ i = .applyEntry) →
     ∃ t, exec i s = .next t ∧
       (t = s ∧ i ≠ .applyEntry ∨ t = s ∧ s.sequencer.head = none ∨
        t.run.state = .build ∧ t.store.nodes = [] ∧ t.store.switches = [] ∧ (∀ k, t.store.island k = none) ∧
        t.resolver.queue = [] ∧ t.resolver.current = none ∧ t.sequencer = .cleared ∧ t.arbiter = .free ∧
        t.link.frame = .status ∧ t.link.taken = none ∧
        t.link.reply = replyBytes s.link.frameCheck .ok []))

/-- A command answered BUSY, PROTECTED, RANGE or FULL is not carried out: nothing but the link and the arbiter
changes (R180). -/
def Obligations.RefusedCommandsChangeNothing : Prop :=
  ∀ (c : Command) (check : Option Byte) (s t : State), Taken c check s → s.arbiter.clearPending = false →
    exec (c.toInstr check) s = .next t → t.link.frame = .status →
    (t.link.reply.head? = some 0x02 ∨ t.link.reply.head? = some 0x03 ∨ t.link.reply.head? = some 0x04 ∨
      t.link.reply.head? = some 0x08) →
    t = { s with link := t.link, arbiter := t.arbiter }

/-- A reply is sent byte by byte, its status first, whatever the host clocks, and the frame is then in TRAILING,
where it sends 0x00 (R176, R177, R182). A position that begins in WAITING carries a wait byte: with LMODE1 low it
begins on the last edge of the byte before, so that a grant that ends between two rows shows in the position after
it; with LMODE1 high a position begins when it is clocked, and the status comes first (R175, R176; that a row ends
with the last edge of its last byte is the model's reading, log 29). The replies whose items are taken with their
status byte: see DirectReadsReply. -/
def Obligations.RepliesAreClockedOut : Prop :=
  (∀ (reply filler : List Byte) (s : State), s.link.frame = .status → s.link.reply = reply → reply ≠ [] →
    s.link.waitBegun = false → s.link.load = none → s.link.refusal = none → s.link.late = none → s.link.ready = [] → s.link.stream = none →
    (∀ h : filler.length < reply.length, (hostBytes filler s).sdoByte = some (reply[filler.length])) ∧
    (filler.length = reply.length →
      (hostBytes filler s).link.frame = .trailing ∧ (hostBytes filler s).sdoByte = some 0)) ∧
  (∀ (byte : Byte) (s : State), s.link.frame = .waiting →
    s.sdoByte = some 0 ∧
    (s.link.lmode1 = false → hostByte s byte = { s with link.waitBegun := true }) ∧
    (s.link.lmode1 = true → hostByte s byte = s)) ∧
  (∀ (byte : Byte) (s : State), s.link.frame = .status → s.link.waitBegun = true →
    s.sdoByte = some 0 ∧ hostByte s byte = { s with link.waitBegun := false }) ∧
  (∀ (c : Command) (byte : Byte) (s : State), s.pending = [] → s.link.frame = .waiting → accessOf c = .claim →
    s.link.taken = some c → s.arbiter.grant = .link → s.arbiter.clearPending = false →
    ∃ u, step s = .next u ∧ u.link.frame = .status ∧ u.link.reply ≠ [] ∧
      (s.link.waitBegun = true →
        u.sdoByte = some 0 ∧ (hostByte u byte).link.frame = .status ∧
        (hostByte u byte).sdoByte = u.link.reply.head?) ∧
      (s.link.waitBegun = false → u.sdoByte = u.link.reply.head?))

/-! ### Commands that take no claim -/

/-- READ STATUS, READ EVENTS, READ INTERRUPT and READ LINES are answered OK at once in every run state, and the row
changes nothing but the link: their items are still to be taken (R181). The position that sends the status byte
takes them from the state as it then stands: the 25 bytes of the status (R144); the event word, with the capture,
which clears every flag in the same act (R154); the enables, the interrupt settings and the request (R159); the
taken levels, the line flags, which indicator outputs are driven and which are HIGH, one bit for each line, then
SETTLE and the flash phase (R173, R194). In check mode the reply ends with the XOR of status and items (R187). Out
of check mode a READ EVENTS row with one more byte clocks its status position itself. A SEL release before the
status byte has been sent captures nothing (R154, R155). That the items are taken when the status position ends is
the model's reading (log 12), and that a row carries the bytes clocked the model's choice (log 6). READ CUE LINE and
READ INDICATOR are answered with the bytes their rule lists, a line number out of range with RANGE, and reading
changes nothing (R174). -/
def Obligations.DirectReadsReply : Prop :=
  ((∀ (check : Option Byte) (s : State), Taken .readStatus check s →
     exec (.readStatus check) s = .next { s with link := s.link.repliedLate .readStatus .status }) ∧
   (∀ (check : Option Byte) (s : State), Taken .readEvents check s →
     exec (.readEvents check) s = .next { s with link := s.link.repliedLate .readEvents .events }) ∧
   (∀ (check : Option Byte) (s : State), Taken .readInterrupt check s →
     exec (.readInterrupt check) s = .next { s with link := s.link.repliedLate .readInterrupt .interrupt }) ∧
   (∀ (check : Option Byte) (s : State), Taken .readLines check s →
     exec (.readLines check) s = .next { s with link := s.link.repliedLate .readLines .lines })) ∧
  ((∀ (line : Byte) (check : Option Byte) (s : State), Taken (.readCueLine line) check s →
     exec (.readCueLine line check) s = .next
       (if h : line.toNat < 8 then
         s.replied (.readCueLine line) .ok
           [(s.panel.cues[line.toNat]).function.code, (s.panel.cues[line.toNat]).edge.code,
            flagByte (s.panel.cues[line.toNat]).intEnable,
            (match (s.panel.cues[line.toNat]).taken with
             | some true => 1
             | some false => 0
             | none => 2),
            flagByte (s.panel.cues[line.toNat]).asserted, flagByte (s.panel.cues[line.toNat]).flag]
       else s.replied (.readCueLine line) .range [])) ∧
   (∀ (line : Byte) (check : Option Byte) (s : State), Taken (.readIndicator line) check s →
     exec (.readIndicator line check) s = .next
       (if h : line.toNat < 16 then
         s.replied (.readIndicator line) .ok
           ([(s.panel.indicators[line.toNat]).mode.code] ++ reply16 (s.panel.indicators[line.toNat]).node ++
            [flagByte (s.panel.indicators[line.toNat]).fixedActive,
             flagByte (s.panel.indicators[line.toNat]).activeHigh,
             flagByte (s.panel.indicators[line.toNat]).highZ, (s.panel.indicators[line.toNat]).followed.code,
             ((s.panel.indicators[line.toNat]).output s.panel.flashActive).code])
       else s.replied (.readIndicator line) .range []))) ∧
  (∀ (byte : Byte) (s : State), s.link.frame = .status → s.link.load = none → s.link.refusal = none →
    s.link.checkNext = none → s.link.waitBegun = false →
    (s.link.late = some .status → hostByte s byte = s.withItems
      ([s.run.state.code, flagByte s.clock.starve, flagByte s.clock.backlog, flagByte s.clock.holdLine,
        flagByte s.clock.pausedState, flagByte (s.resolver.queue.isEmpty && s.resolver.current.isNone),
        byteOf s.resolver.queue.length, s.sequencer.bufferA.state.code, s.sequencer.bufferB.state.code] ++
        reply32 s.clock.time ++ reply32 s.sequencer.stats.applied ++ reply16 s.sequencer.stats.maxLag ++
        reply16 s.sequencer.stats.outOfOrder ++ reply16 s.sequencer.stats.faults ++
        reply16 s.sequencer.stats.discrepancies)) ∧
    (s.link.late = some .interrupt → hostByte s byte = s.withItems
      (bytes24 (eventWord s.watch.enables) ++
        [flagByte s.watch.intEnabled, flagByte s.watch.intActiveHigh, flagByte s.watch.intPushPull,
         flagByte s.interruptRequest])) ∧
    (s.link.late = some .events → ∃ word : U24,
      hostByte s byte =
        { s.withItems (bytes24 word) with
          watch.flags := 0, link := { (s.withItems (bytes24 word)).link with captured := some s.watch.flags } } ∧
      (∀ e : Event, word.getLsbD e.bit = s.flag e) ∧ (∀ n, 19 ≤ n → word.getLsbD n = false)) ∧
    (s.link.late = some .lines → ∃ (levels flags : Byte) (driven high : U16),
      hostByte s byte = s.withItems
        ([levels, flags] ++ bytes16 driven ++ bytes16 high ++
          [flagByte s.settleActive, flagByte s.panel.flashActive]) ∧
      (∀ n : Fin 8, levels.getLsbD n.val = ((s.panel.cues.get n).taken == some true) ∧
        flags.getLsbD n.val = (s.panel.cues.get n).flag) ∧
      (∀ n : Fin 16,
        driven.getLsbD n.val = !((s.panel.indicators.get n).output s.panel.flashActive == .highZ) ∧
        high.getLsbD n.val = ((s.panel.indicators.get n).output s.panel.flashActive == .high)))) ∧
  (∀ (byte : Byte) (s : State), Taken .readEvents none s → s.link.checkMode = false → s.link.load = none →
    s.link.refusal = none → s.link.checkNext = none →
    ∃ word : U24,
      exec (.readEvents (some byte)) s = .next
        { s with
          watch.flags := 0
          link :=
            { s.link.replied .readEvents .ok [] with
              frame := .reply, reply := bytes24 word, late := none, captured := some s.watch.flags } } ∧
      (∀ e : Event, word.getLsbD e.bit = s.flag e) ∧ (∀ n, 19 ≤ n → word.getLsbD n = false)) ∧
  (∀ s : State, s.link.frame = .status → s.link.late = some .events → s.link.captured = none → s.link.load = none →
    s.arbiter.grant ≠ .link → s.arbiter.clearPending = false →
    ∃ t, exec (.selRelease []) s = .next t ∧ t = { s with link := t.link, arbiter := t.arbiter })

/-- SET EVENT ENABLES writes the nineteen enables from bits 0 to 18 of its word. SET INTERRUPT LINE writes the three
settings; a value other than 0 and 1, and HIGH with OPEN_DRAIN, is refused with RANGE. Neither changes anything else
(R156, R157). -/
def Obligations.InterruptSettingsAreWritten : Prop :=
  (∀ (word : U24) (check : Option Byte) (s : State), Taken (.setEventEnables word) check s →
    ∃ t, exec (.setEventEnables word check) s = .next t ∧
      t = { s with link := s.link.replied (.setEventEnables word) .ok [], watch.enables := t.watch.enables } ∧
      ∀ e : Event, t.watch.enables.getLsbD e.bit = word.getLsbD e.bit) ∧
  (∀ (enabled level drive : Byte) (check : Option Byte) (s : State),
    Taken (.setInterruptLine enabled level drive) check s →
    exec (.setInterruptLine enabled level drive check) s = .next
      (if enabled.toNat ≤ 1 ∧ level.toNat ≤ 1 ∧ drive.toNat ≤ 1 ∧ ¬(level = 1 ∧ drive = 0) then
        { s with
          link := s.link.replied (.setInterruptLine enabled level drive) .ok []
          watch.intEnabled := enabled == 1
          watch.intActiveHigh := level == 1
          watch.intPushPull := drive == 1 }
      else s.replied (.setInterruptLine enabled level drive) .range []))

/-- The interrupt request is true exactly when some flag is yes with its enable on; INT is high impedance while not
enabled or while an OPEN_DRAIN line is inactive, LOW while an OPEN_DRAIN line is active, and otherwise at its active
level exactly while the request is true (R158). -/
def Obligations.InterruptLineFollowsTheRequest : Prop :=
  ∀ s : State,
    (s.interruptRequest = true ↔ ∃ e : Event, s.flag e = true ∧ s.watch.enables.getLsbD e.bit = true) ∧
    (s.watch.intEnabled = false → s.intPin = .highZ) ∧
    (s.watch.intEnabled = true → s.watch.intPushPull = false →
      s.intPin = if s.interruptRequest then .low else .highZ) ∧
    (s.watch.intEnabled = true → s.watch.intPushPull = true →
      s.intPin = if s.interruptRequest then (if s.watch.intActiveHigh then .high else .low)
        else (if s.watch.intActiveHigh then .low else .high))

/-- SET CUE LINE writes the three settings of the line together and keeps its flag, taken level and last sample,
every other line and every indicator; HOLD_LINE becomes the HOLD condition of the lines as they then stand. Values
out of range are refused with RANGE (R165, R164, R97). SET INDICATOR writes the line's settings; the followed state
stays while the node stays, and otherwise becomes NONE in BUILD, COMPILING and RESTORING and UNKNOWN in the other
run states. Values out of range are refused with RANGE. Every other line stays (R167, R168). -/
def Obligations.PanelLinesAreConfigured : Prop :=
  (∀ (line function edge enable : Byte) (check : Option Byte) (s : State),
     Taken (.setCueLine line function edge enable) check s →
     ((line.toNat < 8 ∧ function.toNat < 4 ∧ edge.toNat < 2 ∧ enable.toNat < 2) →
       ∃ t, exec (.setCueLine line function edge enable check) s = .next t ∧
         t = { s with
               link := s.link.replied (.setCueLine line function edge enable) .ok []
               panel.cues := t.panel.cues
               clock.holdLine := t.panel.holdCondition } ∧
         (∀ n : Fin 8, n.val = line.toNat →
           (t.panel.cues.get n).function.code = function ∧ (t.panel.cues.get n).edge.code = edge ∧
           flagByte (t.panel.cues.get n).intEnable = enable ∧
           (t.panel.cues.get n).flag = (s.panel.cues.get n).flag ∧
           (t.panel.cues.get n).taken = (s.panel.cues.get n).taken ∧
           (t.panel.cues.get n).lastSample = (s.panel.cues.get n).lastSample) ∧
         (∀ n : Fin 8, n.val ≠ line.toNat → t.panel.cues.get n = s.panel.cues.get n)) ∧
     (¬(line.toNat < 8 ∧ function.toNat < 4 ∧ edge.toNat < 2 ∧ enable.toNat < 2) →
       exec (.setCueLine line function edge enable check) s =
         .next (s.replied (.setCueLine line function edge enable) .range []))) ∧
  (∀ (line mode : Byte) (node : U16) (fixed level highZ : Byte) (check : Option Byte) (s : State),
     Taken (.setIndicator line mode node fixed level highZ) check s →
     ((line.toNat < 16 ∧ mode.toNat < 3 ∧ node.toNat < 4096 ∧ fixed.toNat < 2 ∧ level.toNat < 2 ∧
         highZ.toNat < 2) →
       ∃ t, exec (.setIndicator line mode node fixed level highZ check) s = .next t ∧
         t = { s with
               link := s.link.replied (.setIndicator line mode node fixed level highZ) .ok []
               panel.indicators := t.panel.indicators } ∧
         (∀ n : Fin 16, n.val = line.toNat →
           (t.panel.indicators.get n).mode.code = mode ∧ (t.panel.indicators.get n).node = node.toNat ∧
           flagByte (t.panel.indicators.get n).fixedActive = fixed ∧
           flagByte (t.panel.indicators.get n).activeHigh = level ∧
           flagByte (t.panel.indicators.get n).highZ = highZ ∧
           (t.panel.indicators.get n).followed =
             (if (s.panel.indicators.get n).node = node.toNat then (s.panel.indicators.get n).followed
              else if s.run.state = .build ∨ s.run.state = .compiling ∨ s.run.state = .restoring then .none
              else .unknown)) ∧
         (∀ n : Fin 16, n.val ≠ line.toNat → t.panel.indicators.get n = s.panel.indicators.get n)) ∧
     (¬(line.toNat < 16 ∧ mode.toNat < 3 ∧ node.toNat < 4096 ∧ fixed.toNat < 2 ∧ level.toNat < 2 ∧
         highZ.toNat < 2) →
       exec (.setIndicator line mode node fixed level highZ check) s =
         .next (s.replied (.setIndicator line mode node fixed level highZ) .range [])))

/-- CLEAR LINE FLAGS clears the flag of each line whose mask bit is 1 and keeps the others; nothing else changes,
the event flag CUE_LINE included (R166). -/
def Obligations.ClearLineFlagsClearsTheMask : Prop :=
  ∀ (mask : Byte) (check : Option Byte) (s : State), Taken (.clearLineFlags mask) check s →
    ∃ t, exec (.clearLineFlags mask check) s = .next t ∧
      t = { s with link := s.link.replied (.clearLineFlags mask) .ok [], panel.cues := t.panel.cues } ∧
      ∀ n : Fin 8, t.panel.cues.get n =
        { s.panel.cues.get n with flag := (s.panel.cues.get n).flag && !mask.getLsbD n.val }

/-- SET CHECK MODE answers OK, and the flag takes the new value when the status byte has been sent; a value other
than 0 and 1 is refused with RANGE and leaves the flag (R185). -/
def Obligations.SetCheckModeActsWithItsStatus : Prop :=
  (∀ (value : Byte) (check : Option Byte) (s : State), Taken (.setCheckMode value) check s →
    exec (.setCheckMode value check) s = .next
      (if value.toNat ≤ 1 then
        { s with
          link := { s.link.replied (.setCheckMode value) .ok [] with checkNext := some (value == 1) } }
      else s.replied (.setCheckMode value) .range [])) ∧
  (∀ (byte : Byte) (s : State), s.link.frame = .status → s.link.waitBegun = false →
    (hostByte s byte).link.checkMode = (s.link.checkNext.getD s.link.checkMode) ∧
    (hostByte s byte).link.checkNext = none)

/-- LOAD BATCH for an EMPTY buffer, or for a LOADING one with the same tag, is accepted in every run state but BUILD,
COMPILING and RESTORING: the buffer is LOADING with the tag and a fresh last load, and keeps its entries. Nothing
else changes (R100). LOAD BATCH is refused with PROTECTED in BUILD, COMPILING and RESTORING, with RANGE for a letter
or tag that names none and for a LOADING buffer with another tag, and with BUSY for a buffer that is armed or played;
every later position of the frame, however many bytes the host clocks, carries the status, and nothing but the link
changes (R100, R104). -/
def Obligations.LoadBatchIsDecided : Prop :=
  (∀ (n : BufferName) (d : Direction) (letter tag : Byte) (check : Option Byte) (s : State),
     Taken (.loadBatch letter tag) check s → parseBuffer letter = some n → parseDirection tag = some d →
     s.run.state ≠ .build → s.run.state ≠ .compiling → s.run.state ≠ .restoring →
     ((s.sequencer.buffer n).state = .empty ∨
       (s.sequencer.buffer n).state = .loading ∧ (s.sequencer.buffer n).tag = some d) →
     ∃ t, exec (.loadBatch letter tag check) s = .next t ∧
       t = { s with link := t.link, sequencer := t.sequencer } ∧
       t.link.frame = .status ∧ t.link.reply = [0x01] ∧ t.link.load = some n ∧ t.link.gathered = [] ∧
       t.sequencer.buffer n =
         { s.sequencer.buffer n with
           state := .loading, tag := some d, lastLoad := some { outcome := .ok, counted := 0, torn := false } } ∧
       (∀ m, m ≠ n → t.sequencer.buffer m = s.sequencer.buffer m) ∧
       t.sequencer.armOrder = s.sequencer.armOrder ∧ t.sequencer.stats = s.sequencer.stats ∧
       t.sequencer.cueStop = s.sequencer.cueStop) ∧
  (∀ (letter tag : Byte) (check : Option Byte) (s : State) (st : Status), Taken (.loadBatch letter tag) check s →
     ((s.run.state = .build ∨ s.run.state = .compiling ∨ s.run.state = .restoring) ∧ st = .protect ∨
      s.run.state ≠ .build ∧ s.run.state ≠ .compiling ∧ s.run.state ≠ .restoring ∧
       ((parseBuffer letter = none ∨ parseDirection tag = none) ∧ st = .range ∨
        ∃ n d, parseBuffer letter = some n ∧ parseDirection tag = some d ∧
         ((s.sequencer.buffer n).state = .loading ∧ (s.sequencer.buffer n).tag ≠ some d ∧ st = .range ∨
          ((s.sequencer.buffer n).state = .armed ∨ (s.sequencer.buffer n).state = .active ∨
           (s.sequencer.buffer n).state = .spent) ∧ st = .busy))) →
     ∃ t, exec (.loadBatch letter tag check) s = .next t ∧ t = { s with link := t.link } ∧
       t.sdoByte = some st.code ∧
       (∀ bytes : List Byte, bytes ≠ [] → (hostBytes bytes t).link.frame = .refusedLoad ∧
         (hostBytes bytes t).sdoByte = some st.code ∧
         (s.link.late = none → hostBytes bytes t = { s with link := (hostBytes bytes t).link })))

/-- The bytes of an entry in an accepted LOAD BATCH frame at an entry boundary; the first entry of a load, sent while
the status OK is still to be clocked, is taken in the positions after that status, as an entry at the boundary that
follows it (R101). Eight bytes, in check mode with their XOR after them, are counted: the entry is appended as it was
sent. In check mode a check byte that differs drops the entry, raises LINK_CHECK and makes the outcome CHECK unless
it is FULL. Into a buffer that holds 256 entries every byte is ignored and the outcome is FULL. Nothing else changes
(R101, R102). That a row carries the bytes of the entry is the model's choice (log 6). -/
def Obligations.EntriesAreCounted : Prop :=
  (∀ (n : BufferName) (bytes : List Byte) (s : State), s.link.frame = .status → s.link.load = some n →
    s.link.late = none → s.link.checkNext = none → s.arbiter.grant ≠ .link →
    exec (.batchEntry bytes) s =
      exec (.batchEntry bytes)
        { s with link.frame := .entries, link.reply := s.link.reply.tail, link.waitBegun := false }) ∧
  (∀ (n : BufferName) (bytes : List Byte) (l : LastLoad) (s : State), s.link.frame = .entries →
    s.link.load = some n → s.link.gathered = [] → s.arbiter.grant ≠ .link →
    (s.sequencer.buffer n).lastLoad = some l → bytes.length = 8 →
    ((s.sequencer.buffer n).entries.length < 256 →
      (∃ t e, exec (.batchEntry (if s.link.frameCheck then bytes ++ [xorBytes bytes] else bytes)) s = .next t ∧
        t = { s with sequencer := t.sequencer } ∧
        t.sequencer.buffer n =
          { s.sequencer.buffer n with
            entries := (s.sequencer.buffer n).entries ++ [e]
            lastLoad := some { l with counted := l.counted + 1 } } ∧
        (∀ m, m ≠ n → t.sequencer.buffer m = s.sequencer.buffer m) ∧
        t.sequencer.armOrder = s.sequencer.armOrder ∧ t.sequencer.stats = s.sequencer.stats ∧
        t.sequencer.cueStop = s.sequencer.cueStop ∧
        (∀ i, ∀ h : i < bytes.length, entryByte e i = bytes[i])) ∧
      (∀ byte, s.link.frameCheck = true → byte ≠ xorBytes bytes →
        ∃ t, exec (.batchEntry (bytes ++ [byte])) s = .next t ∧
          t = { s with
                sequencer := t.sequencer
                watch.flags := s.watch.flags ||| (1#19 <<< Event.linkCheck.bit) } ∧
          t.sequencer.buffer n =
            { s.sequencer.buffer n with
              lastLoad := some { l with outcome := if l.outcome = .full then .full else .check } } ∧
          (∀ m, m ≠ n → t.sequencer.buffer m = s.sequencer.buffer m) ∧
          t.sequencer.armOrder = s.sequencer.armOrder ∧ t.sequencer.stats = s.sequencer.stats ∧
          t.sequencer.cueStop = s.sequencer.cueStop)) ∧
    (256 ≤ (s.sequencer.buffer n).entries.length →
      ∃ t, exec (.batchEntry bytes) s = .next t ∧ t = { s with sequencer := t.sequencer } ∧
        t.sequencer.buffer n = { s.sequencer.buffer n with lastLoad := some { l with outcome := .full } } ∧
        (∀ m, m ≠ n → t.sequencer.buffer m = s.sequencer.buffer m) ∧
        t.sequencer.armOrder = s.sequencer.armOrder ∧ t.sequencer.stats = s.sequencer.stats ∧
        t.sequencer.cueStop = s.sequencer.cueStop))

/-! ### The network model -/

/-- DEFINE NODE in BUILD writes the node's record: its kind, and for a SOURCE its initial online and online; the
record has no island, links or incidence list. Every other record stays. Outside BUILD it is refused with PROTECTED,
and with RANGE for an id above 4095, a code that names no kind, or a SOURCE byte other than 0 and 1 (R4, R5). DEFINE
SWITCH in BUILD writes the switch's record with its ends, its initial position and the running fields that follow
it. Every other record stays. Outside BUILD it is refused with PROTECTED, and with RANGE for an id above 8191, an
end that names no defined node, equal ends, or a position code that names neither OPEN nor CLOSED (R6, R7, R3). -/
def Obligations.DefinesWriteTheRecords : Prop :=
  (∀ (node : U16) (kind online : Byte) (check : Option Byte) (s : State),
     Taken (.defineNode node kind online) check s → Quiet s →
     (s.run.state = .build → node.toNat < 4096 → kind.toNat < 3 → (kind.toNat = 1 → online.toNat < 2) →
       ∃ t r, exec (.defineNode node kind online check) s = .next t ∧
         t = { s with
               link := s.link.replied (.defineNode node kind online) .ok []
               store.nodes := t.store.nodes } ∧
         t.store.node node.toNat = some r ∧ r.kind.code = kind ∧
         r.initialOnline = (if kind.toNat = 1 then some (online == 1) else none) ∧
         r.online = r.initialOnline ∧ r.island = none ∧ r.prev = none ∧ r.next = none ∧ r.incidence = [] ∧
         (∀ m, m ≠ node.toNat → t.store.node m = s.store.node m)) ∧
     (s.run.state ≠ .build →
       exec (.defineNode node kind online check) s =
         .next (s.replied (.defineNode node kind online) .protect [])) ∧
     (s.run.state = .build →
       (4096 ≤ node.toNat ∨ 3 ≤ kind.toNat ∨ kind.toNat = 1 ∧ 2 ≤ online.toNat) →
       exec (.defineNode node kind online check) s =
         .next (s.replied (.defineNode node kind online) .range []))) ∧
  (∀ (sw endA endB : U16) (position : Byte) (check : Option Byte) (s : State),
     Taken (.defineSwitch sw endA endB position) check s → Quiet s →
     (s.run.state = .build → sw.toNat < 8192 → endA.toNat < 4096 → (s.store.node endA.toNat).isSome = true →
       endB.toNat < 4096 → (s.store.node endB.toNat).isSome = true → endA ≠ endB → position.toNat < 2 →
       ∃ t r, exec (.defineSwitch sw endA endB position check) s = .next t ∧
         t = { s with
               link := s.link.replied (.defineSwitch sw endA endB position) .ok []
               store.switches := t.store.switches } ∧
         t.store.switch sw.toNat = some r ∧ r.endA = endA.toNat ∧ r.endB = endB.toNat ∧
         r.initial.code = position ∧ r.archived.code = position ∧ r.held = r.initial ∧ r.override = none ∧
         r.effective = r.initial ∧ r.retired = false ∧ r.discrepancy = false ∧ r.changeCount = 0 ∧
         r.lastChange = none ∧
         (∀ m, m ≠ sw.toNat → t.store.switch m = s.store.switch m)) ∧
     (s.run.state ≠ .build →
       exec (.defineSwitch sw endA endB position check) s =
         .next (s.replied (.defineSwitch sw endA endB position) .protect [])) ∧
     (s.run.state = .build →
       (8192 ≤ sw.toNat ∨ 4096 ≤ endA.toNat ∨ s.store.node endA.toNat = none ∨ 4096 ≤ endB.toNat ∨
         s.store.node endB.toNat = none ∨ endA = endB ∨ 2 ≤ position.toNat) →
       exec (.defineSwitch sw endA endB position check) s =
         .next (s.replied (.defineSwitch sw endA endB position) .range [])))

/-- BUILD END in BUILD with some node defined answers OK, enters COMPILING at its first stage, passes the grant to
the compile operation, makes every followed state NONE and SETTLE active; with no node it is refused with RANGE,
outside BUILD with PROTECTED (R9, R73, R168, R172). The stages of compile. The first gives every node the ascending
list of the switches that touch it; the second sets every switch to its starting values and every node's online to
its initial online; the third labels the islands from the replay time, sets the device counts to what the table
gives, enters READY, raises BUILD_DONE and no other event but WATCH, and releases the store (R10, R11, R13, R14). The
stage that compile takes next is held as a field (the model's choice, log 22). -/
def Obligations.CompileBuildsTheModel : Prop :=
  (∀ (check : Option Byte) (s : State), Taken .buildEnd check s → Quiet s →
     (s.run.state = .build → s.store.nodes ≠ [] →
       ∃ t, exec (.buildEnd check) s = .next t ∧
         t = { s with
               link := s.link.replied .buildEnd .ok []
               run := { s.run with state := .compiling, compileStage := some .incidence }
               arbiter.grant := .compileRestore
               panel.indicators := t.panel.indicators } ∧
         (∀ n, t.panel.indicators.get n = { s.panel.indicators.get n with followed := .none }) ∧
         t.settleActive = true) ∧
     (s.run.state = .build → s.store.nodes = [] →
       exec (.buildEnd check) s = .next (s.replied .buildEnd .range [])) ∧
     (s.run.state ≠ .build → exec (.buildEnd check) s = .next (s.replied .buildEnd .protect []))) ∧
  ((∀ s : State, s.arbiter.grant = .compileRestore → s.run.state = .compiling →
     s.run.compileStage = some .incidence → StoreInv s →
     ∃ t, exec .compileIncidenceLists s = .next t ∧
       t = { s with
             store.nodes := t.store.nodes
             run.compileStage := some .starting
             arbiter := t.arbiter } ∧
       t.arbiter.grant = .compileRestore ∧
       ∀ n r, s.store.node n = some r →
         ∃ l, t.store.node n = some { r with incidence := l } ∧ l.Pairwise (· < ·) ∧
           ∀ k, k ∈ l ↔ ∃ x, s.store.switch k = some x ∧ (x.endA = n ∨ x.endB = n)) ∧
   (∀ s : State, s.arbiter.grant = .compileRestore → s.run.state = .compiling →
     s.run.compileStage = some .starting →
     ∃ t, exec .compileStartingValues s = .next t ∧
       t = { s with
             store.nodes := t.store.nodes
             store.switches := t.store.switches
             run.compileStage := some .labelling
             arbiter := t.arbiter } ∧
       t.arbiter.grant = .compileRestore ∧
       (∀ n, t.store.node n = (s.store.node n).map fun r => { r with online := r.initialOnline }) ∧
       (∀ k, t.store.switch k = (s.store.switch k).map fun r =>
         { endA := r.endA, endB := r.endB, initial := r.initial, archived := r.initial.asPosition,
           held := r.initial, override := none, effective := r.initial, retired := false, discrepancy := false,
           changeCount := 0, lastChange := none })) ∧
   (∀ s : State, s.arbiter.grant = .compileRestore → s.run.state = .compiling →
     s.run.compileStage = some .labelling → s.arbiter.clearPending = false →
     ∃ t, exec .compileEnd s = .next t ∧
       t = { s with
             store := s.store.labelAll s.clock.time
             resolver.counts := t.store.tally
             run := { s.run with state := .ready, compileStage := none }
             watch := t.watch
             panel.indicators := t.panel.indicators
             arbiter := t.arbiter } ∧
       t.flag .buildDone = true ∧ t.arbiter.grant ≠ .compileRestore ∧ t.watch = { s.watch with conditions := t.watch.conditions, flags := t.watch.flags } ∧
       (∀ e, e ≠ .buildDone → (∀ n : Fin 4, e ≠ watchEvent n) → t.flag e = s.flag e) ∧
       (∀ n, t.panel.indicators.get n =
         { s.panel.indicators.get n with followed := t.store.followedOf (s.panel.indicators.get n).node })))

/-- After the labelling every defined node belongs to an existing island, two nodes joined by an effectively CLOSED
switch belong to the same one, and nodes of one island are joined by a path of such switches (R12); the islands take
the ids from 0 without a gap, each started from a node lower than every node of the islands after it, and its first
member is its lowest node; its members stand in the order in which the search of R12 reaches them: from the first,
each member in its turn adds the nodes not yet reached at the far ends of its effectively CLOSED switches, in the
order of its incidence list, which is ascending (R2, R12); each island's member, online-source and load counts are
those of its nodes, its state follows the online-source count, its state-since is the time of the labelling and its
generation stays (R13); node and switch definitions stay. All for the tables as the first two stages of compile leave
them: no island exists, no node has an island id, and the incidence lists hold the switches that touch a node. -/
def Obligations.LabellingJoinsClosedSwitches : Prop :=
  ∀ (st : Store) (now : Nat), st.canonical = true → (∀ k, st.island k = none) →
    (∀ n r, st.node n = some r → r.island = none) →
    (∀ n r k x, st.node n = some r → st.switch k = some x → x.endA = n ∨ x.endB = n → k ∈ r.incidence) →
    (∀ k x, st.switch k = some x → (st.node x.endA).isSome = true ∧ (st.node x.endB).isSome = true) →
    (∀ n r, (st.labelAll now).node n = some r →
      ∃ k b, r.island = some k ∧ (st.labelAll now).island k = some b) ∧
    (∀ k x ra rb, st.switch k = some x → x.effective = .closed → (st.labelAll now).node x.endA = some ra →
      (st.labelAll now).node x.endB = some rb → ra.island = rb.island) ∧
    ((∀ n r k, st.node n = some r → k ∈ r.incidence → ∃ x, st.switch k = some x ∧ (x.endA = n ∨ x.endB = n)) →
      ∀ m n k q r, (st.labelAll now).node m = some q → (st.labelAll now).node n = some r → q.island = some k →
        r.island = some k → Relation.ReflTransGen st.Joined m n) ∧
    (∃ count, ∀ k, ((st.labelAll now).island k).isSome = true ↔ k < count) ∧
    (∀ n r j k, (st.labelAll now).node n = some r → r.island = some k → j < k →
      ∃ m q, m < n ∧ (st.labelAll now).node m = some q ∧ q.island = some j) ∧
    (∀ k b, (st.labelAll now).island k = some b →
      b.memberCount = ((st.labelAll now).nodes.filter fun p => decide (p.2.island = some k)).length ∧
      b.sourceCount =
        ((st.labelAll now).nodes.filter fun p => decide (p.2.island = some k ∧ p.2.online = some true)).length ∧
      b.loadCount =
        ((st.labelAll now).nodes.filter fun p => decide (p.2.island = some k ∧ p.2.kind = .load)).length ∧
      b.feed = (if 1 ≤ b.sourceCount then .live else .dead) ∧ b.since = now ∧
      ((st.labelAll now).islandRec k).generation = (st.islandRec k).generation) ∧
    ((∀ n r k, st.node n = some r → k ∈ r.incidence → ∃ x, st.switch k = some x ∧ (x.endA = n ∨ x.endB = n)) →
      ∀ k b, (st.labelAll now).island k = some b →
        ∃ l, (st.labelAll now).IsMemberList k b l ∧ (∀ n ∈ l, b.first ≤ n) ∧
          l = l.foldl (fun reached n => reached ++ st.newEnds n (st.incidenceOf n) reached) [b.first]) ∧
    (st.labelAll now).switches = st.switches ∧
    (∀ n, ((st.labelAll now).node n).map (·.definition) = (st.node n).map (·.definition))

/-- CLEAR MODEL with no grant of another claimant in progress acts at once in every run state, COMPILING and
RESTORING included: no node and no switch is defined, every existing island retires with its generation increased by
one, the counts, queue and job are gone, the Sequencer and the clock's time are set back, the run is in BUILD, the
store is free, every followed state is NONE, and a part that was unsettled raises SETTLED. No other flag but those of
the watch conditions changes, so an abandoned compile or restore raises no BUILD_DONE and no RESTORE_DONE (R16,
R143). Policy, rate, direction, end time, mark, span, event enables, interrupt line configuration, cue lines and
flash phase stay (R17, R18, R79, R81, R123). -/
def Obligations.ClearModelEmptiesTheModel : Prop :=
  ∀ (check : Option Byte) (s : State), Taken .clearModel check s → StoreInv s →
    s.arbiter.grant = .none ∨ s.arbiter.grant = .compileRestore →
    ∃ t, exec (.clearModel check) s = .next t ∧
      t = { s with
            link := s.link.replied .clearModel .ok []
            store := t.store
            resolver :=
              { counts := { live := 0, deadNodes := 0, deadLoads := 0 }, queue := [], current := none,
                cursor := { s.resolver.cursor with valid := false } }
            arbiter := .free
            clock :=
              { s.clock with
                time := 0, frac := 0, boundary := none, starve := false, backlog := false,
                holdLine := s.panel.holdCondition, pausedState := false }
            sequencer := .cleared
            run := { state := .build, compileStage := none, restoreStage := none }
            watch := t.watch
            panel.indicators := t.panel.indicators } ∧
      t.store.nodes = [] ∧ t.store.switches = [] ∧
      (∀ k, t.store.island k = none ∧ (t.store.islandRec k).generation =
        (if (s.store.island k).isSome then (s.store.islandRec k).generation + 1
         else (s.store.islandRec k).generation)) ∧
      (∀ n, t.panel.indicators.get n = { s.panel.indicators.get n with followed := .none }) ∧
      t.flag .settled = (s.flag .settled || !s.settled) ∧
      t.watch = { s.watch with conditions := t.watch.conditions, flags := t.watch.flags } ∧
      (∀ e, e ≠ .settled → (∀ n : Fin 4, e ≠ watchEvent n) → t.flag e = s.flag e) ∧
      (∀ e, s.flag e = true → t.flag e = true)

/-! ### Switches -/

/-- The effective position of a switch after OVERRIDE SWITCH or RETIRE SWITCH, and the job it starts: on a settled
part the job is taken at once and the resolver is granted the store, and a command that changes no effective position
appends none. On a part with a job in progress and fewer than 64 queued the job is appended behind them, in the LINK
grant in progress; that a step on an empty queue carries out the command of that grant is the model's choice (log 2
and 3). Only that switch's record changes (R22, R23, R33 to R35, R45). That the job is taken within the grant is the
model's reading of R45 (log 17). -/
def Obligations.OverrideAndRetireChangeTheSwitch : Prop :=
  (∀ (c : Command) (i : Instr) (sw : U16) (check : Option Byte) (r r' : SwitchRec) (s : State),
    ((∃ action o, c = .overrideSwitch sw action ∧ i = .overrideSwitch sw action check ∧
        (action = 0 ∧ o = some .opened ∨ action = 1 ∧ o = some .closed ∨ action = 2 ∧ o = none) ∧
        r' = { r with
               override := o
               effective := if r.retired then .opened else o.getD r.held }) ∨
      c = .retireSwitch sw ∧ i = .retireSwitch sw check ∧ r.retired = false ∧
        r' = { r with retired := true, effective := .opened }) →
    Taken c check s → Quiet s → s.run.state.hasModel = true → sw.toNat < 8192 →
    s.store.switch sw.toNat = some r →
    ∃ t, exec i s = .next t ∧ t.store.switch sw.toNat = some r' ∧
      (∀ m, m ≠ sw.toNat → t.store.switch m = s.store.switch m) ∧
      t = { s with
            link := s.link.replied c .ok []
            store.switches := t.store.switches
            arbiter.grant := if r.effective = r'.effective then .none else .resolver
            resolver.current :=
              if r.effective = r'.effective then none
              else some (JobInProgress.begin
                (match r'.effective with
                  | .opened => .split sw.toNat s.clock.time
                  | .closed => .merge sw.toNat s.clock.time) s.resolver.counts) }) ∧
  (∀ (c : Command) (sw : U16) (r r' : SwitchRec) (s : State),
    ((∃ action o, c = .overrideSwitch sw action ∧
        (action = 0 ∧ o = some .opened ∨ action = 1 ∧ o = some .closed ∨ action = 2 ∧ o = none) ∧
        r' = { r with
               override := o
               effective := if r.retired then .opened else o.getD r.held }) ∨
      c = .retireSwitch sw ∧ r.retired = false ∧ r' = { r with retired := true, effective := .opened }) →
    s.pending = [] → s.arbiter.grant = .link → s.link.taken = some c → s.link.stream = none →
    s.arbiter.clearPending = false → s.run.state.hasModel = true → sw.toNat < 8192 →
    s.store.switch sw.toNat = some r → s.resolver.current ≠ none → s.resolver.queue.length < 64 →
    ∃ t, step s = .next t ∧ t.store.switch sw.toNat = some r' ∧
      (∀ m, m ≠ sw.toNat → t.store.switch m = s.store.switch m) ∧
      t = { s with
            link := t.link
            store.switches := t.store.switches
            arbiter := t.arbiter
            resolver.queue :=
              s.resolver.queue ++
                (if r.effective = r'.effective then []
                 else [match r'.effective with
                  | .opened => .split sw.toNat s.clock.time
                  | .closed => .merge sw.toNat s.clock.time]) } ∧
      t.link.frame = .status ∧ t.link.reply = replyBytes s.link.frameCheck .ok [])

/-- OVERRIDE SWITCH and RETIRE SWITCH are refused with PROTECTED in BUILD, with RANGE for an id above 8191, an
undefined switch or a bad action; RETIRE SWITCH of a retired switch answers OK. Nothing else changes (R33, R35). An
OVERRIDE SWITCH or RETIRE SWITCH whose grant finds 64 jobs in the queue and that would change an effective position
is answered FULL and changes nothing but the link and the arbiter (R33, R35); that a step on an empty queue carries
out the command of the LINK grant in progress is the model's choice (log 2 and 3). -/
def Obligations.OverrideAndRetireAreRefused : Prop :=
  (∀ (sw : U16) (action : Byte) (check : Option Byte) (s : State), Quiet s →
     (Taken (.overrideSwitch sw action) check s →
       (s.run.state = .build → exec (.overrideSwitch sw action check) s =
         .next (s.replied (.overrideSwitch sw action) .protect [])) ∧
       (s.run.state.hasModel = true → (8192 ≤ sw.toNat ∨ s.store.switch sw.toNat = none ∨ 2 < action.toNat) →
         exec (.overrideSwitch sw action check) s =
           .next (s.replied (.overrideSwitch sw action) .range []))) ∧
     (Taken (.retireSwitch sw) check s →
       (s.run.state = .build → exec (.retireSwitch sw check) s =
         .next (s.replied (.retireSwitch sw) .protect [])) ∧
       (s.run.state.hasModel = true → (8192 ≤ sw.toNat ∨ s.store.switch sw.toNat = none) →
         exec (.retireSwitch sw check) s = .next (s.replied (.retireSwitch sw) .range [])) ∧
       (∀ r, s.run.state.hasModel = true → sw.toNat < 8192 → s.store.switch sw.toNat = some r →
         r.retired = true → exec (.retireSwitch sw check) s = .next (s.replied (.retireSwitch sw) .ok [])))) ∧
  (∀ (c : Command) (sw : U16) (r : SwitchRec) (s : State), s.pending = [] → s.arbiter.grant = .link →
     s.link.taken = some c → s.link.stream = none → s.arbiter.clearPending = false →
     s.run.state.hasModel = true → sw.toNat < 8192 → s.store.switch sw.toNat = some r →
     64 ≤ s.resolver.queue.length →
     (c = .overrideSwitch sw 0 ∧ r.retired = false ∧ r.effective = .closed ∨
      c = .overrideSwitch sw 1 ∧ r.retired = false ∧ r.effective = .opened ∨
      c = .overrideSwitch sw 2 ∧ r.retired = false ∧ r.effective ≠ r.held ∨
      c = .retireSwitch sw ∧ r.retired = false ∧ r.effective = .closed) →
     ∃ t, step s = .next t ∧ t = { s with link := t.link, arbiter := t.arbiter } ∧
       t.link.frame = .status ∧ t.link.reply = replyBytes s.link.frameCheck .full [])

/-- SET POLICY in READY or PAUSED, with every effective position the derived one: the INVALID switches take their
held and effective positions under the new policy in ascending order, each change appends one job with T as cause
time, and the reply counts them; more than 64 changes are answered FULL with the count and nothing changes. On a part
with a job in progress the changes are held against 64 less the jobs queued: the new jobs go behind those, or the
answer is FULL; that a step on an empty queue carries out the command of the LINK grant in progress is the model's
choice (log 2 and 3). In the other run states it is refused with PROTECTED, and a bad code with RANGE (R25, R26). The
derivation: CLOSED and OPEN give themselves, TRANSIT keeps the held position, INVALID keeps it under HOLD and is OPEN
or CLOSED under AS_OPEN or AS_CLOSED (R21); a retired switch is effectively OPEN, another takes its override, or else
its held position (R22). That the first job is taken within the grant is the model's reading of R45 (log 17). -/
def Obligations.SetPolicyDerivesInvalidSwitches : Prop :=
  (∀ (policy : Byte) (check : Option Byte) (s : State), Taken (.setPolicy policy) check s → Quiet s →
     (∀ p jobs, (s.run.state = .ready ∨ s.run.state = .paused) → StoreInv s → QueueInv s →
       (policy = 0 ∧ p = .hold ∨ policy = 1 ∧ p = .asOpen ∨ policy = 2 ∧ p = .asClosed) →
       jobs = s.store.switches.filterMap (fun q =>
         if q.2.archived = .invalid ∧
             deriveEffective q.2.retired q.2.override (deriveHeld p .invalid q.2.held) ≠ q.2.effective then
           some (jobFor q.1 (deriveEffective q.2.retired q.2.override (deriveHeld p .invalid q.2.held))
             s.clock.time)
         else none) →
       (jobs.length ≤ 64 →
         ∃ t, exec (.setPolicy policy check) s = .next t ∧
           t = { s with
                 link := s.link.replied (.setPolicy policy) .ok (reply16 jobs.length)
                 policy := p
                 store.switches := t.store.switches
                 arbiter := t.arbiter
                 resolver.queue := jobs.tail
                 resolver.current := jobs.head?.map fun j => JobInProgress.begin j s.resolver.counts } ∧
           t.arbiter.grant = (if jobs = [] then .none else .resolver) ∧
           (∀ k, t.store.switch k = (s.store.switch k).map fun r =>
             if r.archived = .invalid then
               { r with
                 held := deriveHeld p .invalid r.held
                 effective := deriveEffective r.retired r.override (deriveHeld p .invalid r.held) }
             else r)) ∧
       (64 < jobs.length →
         exec (.setPolicy policy check) s =
           .next (s.replied (.setPolicy policy) .full (reply16 jobs.length)))) ∧
     (s.run.state ≠ .ready → s.run.state ≠ .paused →
       exec (.setPolicy policy check) s = .next (s.replied (.setPolicy policy) .protect [])) ∧
     ((s.run.state = .ready ∨ s.run.state = .paused) → 2 < policy.toNat →
       exec (.setPolicy policy check) s = .next (s.replied (.setPolicy policy) .range []))) ∧
  (∀ (policy : Byte) (p : Policy) (jobs : List Job) (s : State), s.pending = [] → s.arbiter.grant = .link →
     s.link.taken = some (.setPolicy policy) → s.arbiter.clearPending = false →
     (s.run.state = .ready ∨ s.run.state = .paused) → StoreInv s → QueueInv s → s.resolver.current ≠ none →
     (policy = 0 ∧ p = .hold ∨ policy = 1 ∧ p = .asOpen ∨ policy = 2 ∧ p = .asClosed) →
     jobs = s.store.switches.filterMap (fun q =>
       if q.2.archived = .invalid ∧
           deriveEffective q.2.retired q.2.override (deriveHeld p .invalid q.2.held) ≠ q.2.effective then
         some (jobFor q.1 (deriveEffective q.2.retired q.2.override (deriveHeld p .invalid q.2.held))
           s.clock.time)
       else none) →
     (s.resolver.queue.length + jobs.length ≤ 64 →
       ∃ t, step s = .next t ∧
         t = { s with
               link := t.link
               policy := p
               store.switches := t.store.switches
               arbiter := t.arbiter
               resolver.queue := s.resolver.queue ++ jobs } ∧
         t.link.frame = .status ∧ t.link.reply = replyBytes s.link.frameCheck .ok (reply16 jobs.length) ∧
         (∀ k, t.store.switch k = (s.store.switch k).map fun r =>
           if r.archived = .invalid then
             { r with
               held := deriveHeld p .invalid r.held
               effective := deriveEffective r.retired r.override (deriveHeld p .invalid r.held) }
           else r)) ∧
     (64 < s.resolver.queue.length + jobs.length →
       ∃ t, step s = .next t ∧ t = { s with link := t.link, arbiter := t.arbiter } ∧
         t.link.frame = .status ∧
         t.link.reply = replyBytes s.link.frameCheck .full (reply16 jobs.length))) ∧
  ((∀ (p : Policy) (held : Contact), deriveHeld p .closed held = .closed ∧ deriveHeld p .opened held = .opened ∧
     deriveHeld p .transit held = held ∧ deriveHeld .hold .invalid held = held ∧
     deriveHeld .asOpen .invalid held = .opened ∧ deriveHeld .asClosed .invalid held = .closed) ∧
   (∀ (override : Option Contact) (held x : Contact), deriveEffective true override held = .opened ∧
     deriveEffective false (some x) held = x ∧ deriveEffective false none held = held))

/-! ### Lookups, the walk cursor and table streams -/

/-- LOOKUP SWITCH, LOOKUP NODE, LOOKUP ISLAND, READ CLOCK, READ BATCH and READ WATCH answer with the record or the
fields their rules list, refuse an id, letter or number out of range with RANGE and a stale handle with STALE and the
island's existence and generation, and reading changes nothing (R36, R60, R61, R82, R107, R151). READ BATCH shows the
arm position, 1 for the first letter of the arm order, 2 for the second and 0 for a letter that is not in it, and as
head entry the 8 bytes of the entry at the next-entry index of an ACTIVE buffer that holds one (R107). The records,
field by field: a node record is 10 bytes, a switch record 21 and an island record 20; an undefined node or switch, a
node of no island and an id that holds no island show their absent fields (R192). The status reply has 25 bytes
(R144). -/
def Obligations.LookupsReply : Prop :=
  ((∀ (sw : U16) (check : Option Byte) (s : State), Taken (.lookupSwitch sw) check s → Quiet s →
     exec (.lookupSwitch sw check) s = .next
       (if sw.toNat < 8192 then s.replied (.lookupSwitch sw) .ok (switchRecord sw.toNat s)
        else s.replied (.lookupSwitch sw) .range [])) ∧
   (∀ (node : U16) (check : Option Byte) (s : State), Taken (.lookupNode node) check s → Quiet s →
     exec (.lookupNode node check) s = .next
       (if node.toNat < 4096 then s.replied (.lookupNode node) .ok (nodeRecord node.toNat s)
        else s.replied (.lookupNode node) .range [])) ∧
   (∀ (island : U16) (generation : Byte) (check : Option Byte) (s : State),
     Taken (.lookupIsland island generation) check s → Quiet s →
     exec (.lookupIsland island generation check) s = .next
       (if 4096 ≤ island.toNat then s.replied (.lookupIsland island generation) .range []
        else if (s.store.island island.toNat).isSome = true ∧
           (s.store.islandRec island.toNat).generation = generation then
         s.replied (.lookupIsland island generation) .ok (islandRecord island.toNat s)
        else s.replied (.lookupIsland island generation) .stale
         [flagByte (s.store.island island.toNat).isSome, (s.store.islandRec island.toNat).generation])) ∧
   (∀ (check : Option Byte) (s : State), Taken .readClock check s → Quiet s →
     exec (.readClock check) s = .next (s.replied .readClock .ok
       (reply32 s.clock.time ++ [byteOf s.clock.frac] ++ reply16 s.clock.rate ++ [s.clock.direction.code] ++
         reply32 s.clock.endTime ++ replyTime s.clock.mark ++ reply32 s.clock.span ++
         replyTime s.clock.boundary ++
         [flagByte s.clock.starve, flagByte s.clock.backlog, flagByte s.clock.holdLine,
          flagByte s.clock.pausedState]))) ∧
   (∀ (number : Byte) (check : Option Byte) (s : State), Taken (.readWatch number) check s → Quiet s →
     exec (.readWatch number check) s = .next
       (if h : number.toNat < 4 then
         s.replied (.readWatch number) .ok
           ([(s.watch.conditions[number.toNat]).quantity.code, (s.watch.conditions[number.toNat]).relation.code] ++
             reply16 (s.watch.conditions[number.toNat]).threshold ++
             [(s.watch.conditions[number.toNat]).state.code] ++
             replyTime (s.watch.conditions[number.toNat]).tripTime ++
             reply16 (s.quantity (s.watch.conditions[number.toNat]).quantity))
        else s.replied (.readWatch number) .range [])) ∧
   (∀ (letter : Byte) (check : Option Byte) (s : State), Taken (.readBatch letter) check s → Quiet s →
     (∀ n, parseBuffer letter = some n →
       exec (.readBatch letter check) s = .next (s.replied (.readBatch letter) .ok
         ([(s.sequencer.buffer n).state.code,
           (match (s.sequencer.buffer n).tag with
             | some d => d.code
             | none => 0)] ++
           reply16 (s.sequencer.buffer n).entries.length ++ reply16 (s.sequencer.buffer n).index ++
           [if s.sequencer.armOrder[0]? = some n then 1
            else if s.sequencer.armOrder[1]? = some n then 2
            else 0] ++
           (match (s.sequencer.buffer n).lastLoad with
             | some l => [1, l.outcome.code] ++ reply16 l.counted ++ [flagByte l.torn]
             | none => [0, 0, 0, 0, 0]) ++
           (match (s.sequencer.buffer n).state,
               (s.sequencer.buffer n).entries[(s.sequencer.buffer n).index]? with
             | .active, some e =>
               [1, entryByte e 0, entryByte e 1, entryByte e 2, entryByte e 3, entryByte e 4, entryByte e 5,
                entryByte e 6, entryByte e 7]
             | _, _ => [0, 0, 0, 0, 0, 0, 0, 0, 0])))) ∧
     (parseBuffer letter = none →
       exec (.readBatch letter check) s = .next (s.replied (.readBatch letter) .range [])))) ∧
  (∀ (n : Nat) (s : State),
     (nodeRecord n s).length = 10 ∧ (switchRecord n s).length = 21 ∧ (islandRecord n s).length = 20 ∧
     (statusReply s).length = 25) ∧
  (∀ (n : Nat) (kind online settled : Byte) (r : NodeRec) (s : State), s.store.node n = some r →
     kind = (match r.kind with
       | .bus => 0
       | .source => 1
       | .load => 2) →
     online = (match r.online with
       | some false => 0
       | some true => 1
       | none => 0xFF) →
     settled = (if s.resolver.queue = [] ∧ s.resolver.current = none then 1 else 0) →
     (∀ k b, r.island = some k → s.store.island k = some b →
       nodeRecord n s = bytes16 (BitVec.ofNat 16 n) ++ [1, kind, online] ++ bytes16 (BitVec.ofNat 16 k) ++
         [(s.store.islandRec k).generation, if b.feed = .live then 1 else 0, settled]) ∧
     ((r.island.bind fun k => s.store.island k) = none →
       nodeRecord n s = bytes16 (BitVec.ofNat 16 n) ++ [1, kind, online, 0xFF, 0xFF, 0, 0xFF, settled])) ∧
  (∀ (n : Nat) (s : State), s.store.node n = none →
     nodeRecord n s = bytes16 (BitVec.ofNat 16 n) ++ [0, 0xFF, 0xFF, 0xFF, 0xFF, 0, 0xFF,
       if s.resolver.queue = [] ∧ s.resolver.current = none then 1 else 0]) ∧
  (∀ (n : Nat) (archived override : Byte) (r : SwitchRec) (s : State), s.store.switch n = some r →
     archived = (match r.archived with
       | .opened => 0
       | .closed => 1
       | .transit => 2
       | .invalid => 3) →
     override = (match r.override with
       | some .opened => 0
       | some .closed => 1
       | none => 0xFF) →
     switchRecord n s = bytes16 (BitVec.ofNat 16 n) ++ [1] ++ bytes16 (BitVec.ofNat 16 r.endA) ++
       bytes16 (BitVec.ofNat 16 r.endB) ++
       [if r.initial = .closed then 1 else 0, archived, if r.held = .closed then 1 else 0, override,
        if r.effective = .closed then 1 else 0, if r.retired then 1 else 0, if r.discrepancy then 1 else 0] ++
       bytes16 (BitVec.ofNat 16 r.changeCount) ++
       (match r.lastChange with
         | some time => 1 :: bytes32 (BitVec.ofNat 32 time)
         | none => [0, 0, 0, 0, 0])) ∧
  (∀ (n : Nat) (s : State), s.store.switch n = none →
     switchRecord n s = bytes16 (BitVec.ofNat 16 n) ++
       [0, 0xFF, 0xFF, 0xFF, 0xFF, 0xFF, 0xFF, 0xFF, 0xFF, 0xFF, 0xFF, 0xFF, 0, 0, 0, 0, 0, 0, 0]) ∧
  (∀ (k : Nat) (b : Island) (s : State), s.store.island k = some b →
     islandRecord k s = bytes16 (BitVec.ofNat 16 k) ++
       [1, (s.store.islandRec k).generation, if b.feed = .live then 1 else 0] ++
       bytes16 (BitVec.ofNat 16 b.memberCount) ++ bytes16 (BitVec.ofNat 16 b.sourceCount) ++
       bytes16 (BitVec.ofNat 16 b.loadCount) ++ bytes16 (BitVec.ofNat 16 b.first) ++
       bytes16 (BitVec.ofNat 16 b.last) ++ bytes32 (BitVec.ofNat 32 b.since) ++
       [if s.resolver.queue = [] ∧ s.resolver.current = none then 1 else 0]) ∧
  (∀ (k : Nat) (s : State), s.store.island k = none →
     islandRecord k s = bytes16 (BitVec.ofNat 16 k) ++
       [0, (s.store.islandRec k).generation, 0xFF, 0, 0, 0, 0, 0, 0, 0xFF, 0xFF, 0xFF, 0xFF, 0, 0, 0, 0,
        if s.resolver.queue = [] ∧ s.resolver.current = none then 1 else 0])

/-- WALK SET with a stride of 1, 2, 4 or 8 and a good handle puts the cursor on the island's first member and
answers it with the settled flag; a bad handle is answered STALE with the island's existence and generation and
makes the cursor invalid; an id or stride out of range is refused with RANGE (R63). WALK MOVE with a valid cursor
whose current node is a member of its island: FIRST and LAST reach the ends; NEXT and PREV follow the links stride
times, and answer END with the end member when the list is too short. The member reached becomes the current node
and is answered with the settled flag. Otherwise the answer is STALE and the cursor becomes invalid; a bad move is
refused with RANGE (R64, R65). -/
def Obligations.WalkCommandsMoveTheCursor : Prop :=
  (∀ (island : U16) (generation stride : Byte) (check : Option Byte) (s : State),
     Taken (.walkSet island generation stride) check s → Quiet s →
     (∀ b, island.toNat < 4096 → (stride = 1 ∨ stride = 2 ∨ stride = 4 ∨ stride = 8) →
       s.store.island island.toNat = some b → (s.store.islandRec island.toNat).generation = generation →
       exec (.walkSet island generation stride check) s = .next
         { s with
           link := s.link.replied (.walkSet island generation stride) .ok
             (reply16 b.first ++ [flagByte s.settled])
           resolver.cursor :=
             { island := island.toNat, generation := generation, current := some b.first,
               stride := stride.toNat, valid := true } }) ∧
     (island.toNat < 4096 → (stride = 1 ∨ stride = 2 ∨ stride = 4 ∨ stride = 8) →
       (s.store.island island.toNat = none ∨ (s.store.islandRec island.toNat).generation ≠ generation) →
       exec (.walkSet island generation stride check) s = .next
         { s with
           link := s.link.replied (.walkSet island generation stride) .stale
             [flagByte (s.store.island island.toNat).isSome, (s.store.islandRec island.toNat).generation]
           resolver.cursor.valid := false }) ∧
     ((4096 ≤ island.toNat ∨ ¬(stride = 1 ∨ stride = 2 ∨ stride = 4 ∨ stride = 8)) →
       exec (.walkSet island generation stride check) s =
         .next (s.replied (.walkSet island generation stride) .range []))) ∧
  (∀ (move : Byte) (check : Option Byte) (s : State), Taken (.walkMove move) check s → Quiet s →
     (∀ b n r, s.resolver.cursor.valid = true → s.store.island s.resolver.cursor.island = some b →
       (s.store.islandRec s.resolver.cursor.island).generation = s.resolver.cursor.generation →
       s.resolver.cursor.current = some n → s.store.node n = some r →
       r.island = some s.resolver.cursor.island →
       ∀ st x,
         (move = 0 ∧ st = Status.ok ∧ x = b.first ∨ move = 1 ∧ st = Status.ok ∧ x = b.last ∨
          move = 2 ∧ st = Status.ok ∧ s.store.forward s.resolver.cursor.stride n = some x ∨
          move = 2 ∧ st = Status.finish ∧ s.store.forward s.resolver.cursor.stride n = none ∧ x = b.last ∨
          move = 3 ∧ st = Status.ok ∧ s.store.backward s.resolver.cursor.stride n = some x ∨
          move = 3 ∧ st = Status.finish ∧ s.store.backward s.resolver.cursor.stride n = none ∧ x = b.first) →
         exec (.walkMove move check) s = .next
           { s with
             link := s.link.replied (.walkMove move) st (reply16 x ++ [flagByte s.settled])
             resolver.cursor.current := some x }) ∧
     (move.toNat < 4 →
       (s.resolver.cursor.valid = false ∨ s.store.island s.resolver.cursor.island = none ∨
         (s.store.islandRec s.resolver.cursor.island).generation ≠ s.resolver.cursor.generation ∨
         (s.resolver.cursor.current.bind fun n => (s.store.node n).bind (·.island)) ≠
           some s.resolver.cursor.island) →
       exec (.walkMove move check) s = .next
         { s with
           link := s.link.replied (.walkMove move) .stale []
           resolver.cursor.valid := false }) ∧
     (4 ≤ move.toNat → exec (.walkMove move check) s = .next (s.replied (.walkMove move) .range [])))

/-- READ TABLE with a good table and index, on a free store, reads the record of the index in its grant and sends OK
and that record with no wait bytes; the claim for the next record is in place and is granted when no other waits
(R66, R67, R70, R75). Otherwise it is refused with RANGE. The grant of a record sends it as a reply of its own, OK
and the record of the index, moves the index on, the last one to 0, and reads without changing a table (R66, R67,
R189). A frame that ends a record while the grant of the next is in progress sends the next status in the next
position, and does not enter TRAILING; with that claim still waiting it sends wait bytes (R75, R182). That the grant
of the command is the first record's is the model's reading (log 8), and so are records held behind an unsent one
(log 9). -/
def Obligations.TableStreamsSendRecords : Prop :=
  (∀ (table : Byte) (first : U16) (check : Option Byte) (s : State), Taken (.readTable table first) check s →
    Quiet s →
    (∀ tn, parseTable table = some tn → first.toNat < tableSize tn →
      exec (.readTable table first check) s = .next
        { s with
          link :=
            { s.link.replied (.readTable table first) .ok (tableRecord tn first.toNat s) with
              stream := some { table := tn, index := if first.toNat + 1 < tableSize tn then first.toNat + 1 else 0 } }
          arbiter := { s.arbiter with grant := .link, linkClaim := true } }) ∧
    ((parseTable table = none ∨ ∃ tn, parseTable table = some tn ∧ tableSize tn ≤ first.toNat) →
      exec (.readTable table first check) s = .next (s.replied (.readTable table first) .range []))) ∧
  (∀ (x : Stream) (s : State), s.arbiter.grant = .link → s.link.taken = none → s.link.stream = some x →
    s.arbiter.clearPending = false →
    ∃ t, exec .readTableRecord s = .next t ∧
      t = { s with
            arbiter := t.arbiter
            link :=
              { s.link with
                stream := some { x with index := if x.index + 1 < tableSize x.table then x.index + 1 else 0 }
                frame := if s.link.frame = .waiting then .status else s.link.frame
                reply :=
                  if s.link.frame = .waiting then
                    replyBytes s.link.frameCheck .ok (tableRecord x.table x.index s)
                  else s.link.reply
                ready :=
                  if s.link.frame = .waiting then s.link.ready
                  else s.link.ready ++ [replyBytes s.link.frameCheck .ok (tableRecord x.table x.index s)] } }) ∧
  (∀ (x : Stream) (last byte : Byte) (s : State), s.link.frame = .reply → s.link.reply = [last] →
    s.link.ready = [] → s.link.stream = some x → s.link.waitBegun = false →
    (s.arbiter.grant = .link → s.link.taken = none → s.arbiter.clearPending = false →
      hostByte s byte =
        { s with
          arbiter := (hostByte s byte).arbiter
          link :=
            { s.link with
              frame := .status
              reply := replyBytes s.link.frameCheck .ok (tableRecord x.table x.index s)
              stream := some { x with index := if x.index + 1 < tableSize x.table then x.index + 1 else 0 } } } ∧
      (hostByte s byte).sdoByte = some 0x01) ∧
    (s.arbiter.grant ≠ .link →
      hostByte s byte =
        { s with link := { s.link with frame := .waiting, reply := [], waitBegun := !s.link.lmode1 } } ∧
      (hostByte s byte).sdoByte = some 0)) ∧
  (∀ (x : Stream) (next : List Byte) (rest : List (List Byte)) (last byte : Byte) (s : State),
    s.link.frame = .reply → s.link.reply = [last] → s.link.ready = next :: rest → s.link.stream = some x →
    hostByte s byte = { s with link := { s.link with frame := .status, reply := next, ready := rest } })

/-! ### The clock -/

/-- SET PACING stores the rate, 0 as 1 and above 16,384 as 16,384, and answers the stored rate and the direction.
The same direction changes nothing else. A new direction is taken in READY, PAUSED and ENDED: F becomes 0, the
previous timestamp absent, an ACTIVE buffer of another tag is rejected, and a run in ENDED that can now move enters
PAUSED; in the other run states it is refused with PROTECTED. A bad direction is refused with RANGE (R90, R91, R109,
R121, R136). SET END in READY, PAUSED and ENDED stores the given time, or T where it is earlier, and answers it; a
run in ENDED that can now move FORWARD enters PAUSED. In the other run states it is refused with PROTECTED (R92,
R136, R128). SET MARK stores the mark with presence 1 and removes it with presence 0, and refuses another presence
byte with RANGE. SET STEP SPAN stores the span and refuses 0 with RANGE; a boundary already present does not move.
Both are taken in every run state in which the store is free, and nothing else changes (R93, R94). -/
def Obligations.ClockSettingsAreStored : Prop :=
  (∀ (rate : U16) (direction : Byte) (check : Option Byte) (s : State),
     Taken (.setPacing rate direction) check s → Quiet s →
     (∀ stored, stored = (if rate.toNat = 0 then 1 else min rate.toNat 16384) →
       (parseDirection direction = some s.clock.direction →
         exec (.setPacing rate direction check) s = .next
           { s with
             link := s.link.replied (.setPacing rate direction) .ok (reply16 stored ++ [direction])
             clock.rate := stored }) ∧
       (∀ d, parseDirection direction = some d → d ≠ s.clock.direction →
         (s.run.state = .ready ∨ s.run.state = .paused ∨ s.run.state = .ended) →
         ∃ t, exec (.setPacing rate direction check) s = .next t ∧
           t = { s with
                 link := s.link.replied (.setPacing rate direction) .ok (reply16 stored ++ [direction])
                 clock := t.clock
                 run := t.run
                 sequencer := t.sequencer
                 watch.flags := t.watch.flags
                 arbiter := t.arbiter } ∧
           t.sequencer.stats = { s.sequencer.stats with previous := none } ∧
           (∀ n, s.sequencer.activeName = some n → (s.sequencer.buffer n).tag ≠ some d →
             t.sequencer.buffer n = .cleared ∧ t.flag .batchRejected = true) ∧
           ((∀ n, s.sequencer.activeName = some n → (s.sequencer.buffer n).tag = some d) →
             t.sequencer.bufferA = s.sequencer.bufferA ∧ t.sequencer.bufferB = s.sequencer.bufferB ∧
             t.sequencer.armOrder = s.sequencer.armOrder ∧ t.watch = s.watch) ∧
           ((s.run.state = .ended ∧
               (d = .forward ∧ s.clock.time < s.clock.endTime ∨ d = .reverse ∧ 0 < s.clock.time)) →
             t.run = { s.run with state := .paused } ∧
             t.clock = { s.clock with
                         rate := stored, direction := d, frac := 0, boundary := none, pausedState := true }) ∧
           (¬(s.run.state = .ended ∧
               (d = .forward ∧ s.clock.time < s.clock.endTime ∨ d = .reverse ∧ 0 < s.clock.time)) →
             t.run = s.run ∧
             t.clock = { s.clock with rate := stored, direction := d, frac := 0 })) ∧
       (∀ d, parseDirection direction = some d → d ≠ s.clock.direction → s.run.state ≠ .ready →
         s.run.state ≠ .paused → s.run.state ≠ .ended →
         exec (.setPacing rate direction check) s =
           .next (s.replied (.setPacing rate direction) .protect []))) ∧
     (parseDirection direction = none →
       exec (.setPacing rate direction check) s = .next (s.replied (.setPacing rate direction) .range []))) ∧
  (∀ (endTime : U32) (check : Option Byte) (s : State), Taken (.setEnd endTime) check s → Quiet s →
     (∀ stored, stored = max endTime.toNat s.clock.time →
       (s.run.state = .ready ∨ s.run.state = .paused ∨ s.run.state = .ended) →
       exec (.setEnd endTime check) s = .next
         (if s.run.state = .ended ∧ s.clock.direction = .forward ∧ s.clock.time < stored then
           { s with
             link := s.link.replied (.setEnd endTime) .ok (reply32 stored)
             clock := { s.clock with endTime := stored, pausedState := true, boundary := none }
             sequencer.cueStop := false
             run.state := .paused }
          else
           { s with
             link := s.link.replied (.setEnd endTime) .ok (reply32 stored)
             clock.endTime := stored })) ∧
     (s.run.state ≠ .ready → s.run.state ≠ .paused → s.run.state ≠ .ended →
       exec (.setEnd endTime check) s = .next (s.replied (.setEnd endTime) .protect []))) ∧
  (∀ (presence : Byte) (mark : U32) (check : Option Byte) (s : State),
    Taken (.setMark presence mark) check s → Quiet s →
    exec (.setMark presence mark check) s = .next
      (if presence = 1 then
        { s with link := s.link.replied (.setMark presence mark) .ok [], clock.mark := some mark.toNat }
       else if presence = 0 then
        { s with link := s.link.replied (.setMark presence mark) .ok [], clock.mark := none }
       else s.replied (.setMark presence mark) .range [])) ∧
  (∀ (span : U32) (check : Option Byte) (s : State), Taken (.setStepSpan span) check s → Quiet s →
    exec (.setStepSpan span check) s = .next
      (if span = 0 then s.replied (.setStepSpan span) .range []
       else { s with link := s.link.replied (.setStepSpan span) .ok [], clock.span := span.toNat }))

/-! ### Batches and the run -/

/-- ARM BATCH of a LOADING buffer with an entry makes it ARMED, appends its letter to the arm order and clears
STARVE; activation and STARVE are then tested in RUNNING, STEPPING and ENDED (`activate`, `testStarve`: see
EnteringAMovingRun), and in the other run states nothing else changes. Otherwise it is refused with RANGE (R105).
DISCARD BATCH empties a LOADING or ARMED buffer and takes its letter out of the arm order, answers OK for an EMPTY
buffer and BUSY for one that is played, and refuses a bad letter with RANGE (R106, R98). -/
def Obligations.ArmAndDiscardBatches : Prop :=
  (∀ (letter : Byte) (check : Option Byte) (s : State), Taken (.armBatch letter) check s → Quiet s →
     (∀ n u, parseBuffer letter = some n → (s.sequencer.buffer n).state = .loading →
       1 ≤ (s.sequencer.buffer n).entries.length →
       u = setBuffer n { s.sequencer.buffer n with state := .armed }
         { s with sequencer.armOrder := s.sequencer.armOrder ++ [n], clock.starve := false } →
       ∃ t, exec (.armBatch letter check) s = .next t ∧
         t = { testStarve (activate u) with
               link := s.link.replied (.armBatch letter) .ok [], arbiter := t.arbiter } ∧
         (s.run.state.appliesEntries = false →
           t = { u with link := s.link.replied (.armBatch letter) .ok [] })) ∧
     ((parseBuffer letter = none ∨ ∃ n, parseBuffer letter = some n ∧
         ((s.sequencer.buffer n).state ≠ .loading ∨ (s.sequencer.buffer n).entries = [])) →
       exec (.armBatch letter check) s = .next (s.replied (.armBatch letter) .range []))) ∧
  (∀ (letter : Byte) (check : Option Byte) (s : State), Taken (.discardBatch letter) check s → Quiet s →
     (∀ n, parseBuffer letter = some n →
       ((s.sequencer.buffer n).state = .loading ∨ (s.sequencer.buffer n).state = .armed) →
       ∃ t, exec (.discardBatch letter check) s = .next t ∧
         t = { s with link := s.link.replied (.discardBatch letter) .ok [], sequencer := t.sequencer } ∧
         (t.sequencer.buffer n).state = .empty ∧ (t.sequencer.buffer n).tag = none ∧
         (t.sequencer.buffer n).entries = [] ∧ (t.sequencer.buffer n).index = 0 ∧
         (t.sequencer.buffer n).lastLoad = none ∧ n ∉ t.sequencer.armOrder ∧
         (∀ m, m ≠ n → t.sequencer.buffer m = s.sequencer.buffer m ∧
           (m ∈ t.sequencer.armOrder ↔ m ∈ s.sequencer.armOrder)) ∧
         t.sequencer.stats = s.sequencer.stats ∧ t.sequencer.cueStop = s.sequencer.cueStop) ∧
     (∀ n, parseBuffer letter = some n → (s.sequencer.buffer n).state = .empty →
       exec (.discardBatch letter check) s = .next (s.replied (.discardBatch letter) .ok [])) ∧
     (∀ n, parseBuffer letter = some n →
       ((s.sequencer.buffer n).state = .active ∨ (s.sequencer.buffer n).state = .spent) →
       exec (.discardBatch letter check) s = .next (s.replied (.discardBatch letter) .busy [])) ∧
     (parseBuffer letter = none →
       exec (.discardBatch letter check) s = .next (s.replied (.discardBatch letter) .range [])))

/-- On the entry into RUNNING or STEPPING the run state and the PAUSED_STATE hold are set, and activation and STARVE
are tested (R127). The test, in RUNNING, STEPPING and ENDED alike, of that entry and of ARM BATCH (R108, R116): with
no buffer ACTIVE, a buffer at the head of the arm order whose tag is the direction of play becomes ACTIVE with
next-entry index 0; one of another tag is emptied with BATCH_REJECTED, and the next in the arm order is tested in its
turn. With no buffer ACTIVE or ARMED, after a rejection or without one, STARVE is set in RUNNING and STEPPING and
STARVED is raised if the hold was clear, while in ENDED the hold and the flag stay (R118). With a buffer ACTIVE
already the test changes nothing (R108, R109). In the other run states it changes nothing either. -/
def Obligations.EnteringAMovingRun : Prop :=
  (∀ (target : RunState) (s : State), target = .running ∨ target = .stepping →
    enterMoving target s = testStarve (activate { s with run.state := target, clock.pausedState := false }) ∧
    (enterMoving target s).run.state = target ∧ (enterMoving target s).clock.pausedState = false) ∧
  (∀ s : State, s.run.state ≠ .running → s.run.state ≠ .stepping → s.run.state ≠ .ended →
    testStarve (activate s) = s) ∧
  (∀ s t : State, s.run.state = .running ∨ s.run.state = .stepping ∨ s.run.state = .ended →
    t = testStarve (activate s) →
    t.run = s.run ∧ t.store = s.store ∧ t.resolver = s.resolver ∧ t.panel = s.panel ∧ t.link = s.link ∧
    t.arbiter = s.arbiter ∧ t.policy = s.policy ∧ t.clock = { s.clock with starve := t.clock.starve } ∧
    t.sequencer.stats = s.sequencer.stats ∧ t.sequencer.cueStop = s.sequencer.cueStop ∧
    t.watch = { s.watch with flags := t.watch.flags } ∧
    (∀ e, e ≠ .batchRejected → e ≠ .starved → t.flag e = s.flag e) ∧
    (s.run.state = .ended → t.clock = s.clock ∧ t.flag .starved = s.flag .starved) ∧
    (∀ n rest, s.sequencer.armOrder = n :: rest → (s.sequencer.buffer n).tag = some s.clock.direction →
      s.sequencer.bufferA.state ≠ .active → s.sequencer.bufferB.state ≠ .active →
      t.sequencer.buffer n = { s.sequencer.buffer n with state := .active, index := 0 } ∧
      t.sequencer.armOrder = rest ∧ (∀ m, m ≠ n → t.sequencer.buffer m = s.sequencer.buffer m) ∧
      t.watch = s.watch ∧ t.clock = s.clock) ∧
    (∀ n, s.sequencer.armOrder = [n] → (s.sequencer.buffer n).tag ≠ some s.clock.direction →
      s.sequencer.bufferA.state ≠ .active → s.sequencer.bufferB.state ≠ .active →
      t.sequencer.buffer n = .cleared ∧ (∀ m, m ≠ n → t.sequencer.buffer m = s.sequencer.buffer m) ∧
      t.sequencer.armOrder = [] ∧ t.flag .batchRejected = true ∧
      ((∀ m, m ≠ n → (s.sequencer.buffer m).state ≠ .armed) → s.run.state ≠ .ended →
        t.clock.starve = true ∧ t.flag .starved = (s.flag .starved || !s.clock.starve))) ∧
    (∀ n m, s.sequencer.armOrder = [n, m] → n ≠ m → (s.sequencer.buffer n).tag ≠ some s.clock.direction →
      s.sequencer.bufferA.state ≠ .active → s.sequencer.bufferB.state ≠ .active →
      t.sequencer.buffer n = .cleared ∧ t.sequencer.armOrder = [] ∧ t.flag .batchRejected = true ∧
      ((s.sequencer.buffer m).tag = some s.clock.direction →
        t.sequencer.buffer m = { s.sequencer.buffer m with state := .active, index := 0 } ∧
        t.clock = s.clock ∧ t.flag .starved = s.flag .starved) ∧
      ((s.sequencer.buffer m).tag ≠ some s.clock.direction →
        t.sequencer.buffer m = .cleared ∧
        (s.run.state ≠ .ended →
          t.clock.starve = true ∧ t.flag .starved = (s.flag .starved || !s.clock.starve)))) ∧
    (s.sequencer.bufferA.state = .active ∨ s.sequencer.bufferB.state = .active → t = s) ∧
    (s.sequencer.armOrder = [] → s.sequencer.bufferA.state ≠ .active → s.sequencer.bufferB.state ≠ .active →
      s.sequencer.bufferA.state ≠ .armed → s.sequencer.bufferB.state ≠ .armed →
      t.sequencer = s.sequencer ∧
      (s.run.state = .ended → t = s) ∧
      (s.run.state ≠ .ended →
        t.clock.starve = true ∧ t.flag .starved = (s.flag .starved || !s.clock.starve) ∧
        (s.clock.starve = true → t = s))))

/-- START in READY, RESUME in STEPPING or PAUSED and STEP in READY or PAUSED enter the moving run state with the
effects of EnteringAMovingRun, RESUME with the boundary absent and STEP with the boundary one span from T; STEP in
STEPPING moves the boundary one more span; PAUSE in RUNNING or STEPPING enters PAUSED, with the boundary absent and
PAUSED_STATE set, and in PAUSED changes nothing. Each is refused with PROTECTED elsewhere (R125, R130 to R133, R128,
R95). -/
def Obligations.RunCommandsMoveTheRun : Prop :=
  (∀ (check : Option Byte) (s : State), Taken .start check s → Quiet s →
    (s.run.state = .ready → ∃ t, exec (.start check) s = .next t ∧
      t = { enterMoving .running s with link := s.link.replied .start .ok [], arbiter := t.arbiter }) ∧
    (s.run.state ≠ .ready → exec (.start check) s = .next (s.replied .start .protect []))) ∧
  (∀ (check : Option Byte) (s : State), Taken .resume check s → Quiet s →
    (s.run.state = .stepping ∨ s.run.state = .paused → ∃ t, exec (.resume check) s = .next t ∧
      t = { enterMoving .running { s with clock.boundary := none } with
            link := s.link.replied .resume .ok [], arbiter := t.arbiter }) ∧
    (s.run.state ≠ .stepping → s.run.state ≠ .paused →
      exec (.resume check) s = .next (s.replied .resume .protect []))) ∧
  (∀ (check : Option Byte) (s : State), Taken .step check s → Quiet s →
    (s.run.state = .ready ∨ s.run.state = .paused → ∃ t, exec (.step check) s = .next t ∧
      t = { enterMoving .stepping
              { s with
                clock.boundary := some
                  (match s.clock.direction with
                    | .forward => min (s.clock.time + s.clock.span) s.clock.endTime
                    | .reverse => s.clock.time - s.clock.span) } with
            link := s.link.replied .step .ok [], arbiter := t.arbiter }) ∧
    (∀ b, s.run.state = .stepping → s.clock.boundary = some b → exec (.step check) s = .next
      { s with
        link := s.link.replied .step .ok []
        clock.boundary := some
          (match s.clock.direction with
            | .forward => min (b + s.clock.span) s.clock.endTime
            | .reverse => b - s.clock.span) }) ∧
    (s.run.state ≠ .ready → s.run.state ≠ .paused → s.run.state ≠ .stepping →
      exec (.step check) s = .next (s.replied .step .protect []))) ∧
  (∀ (check : Option Byte) (s : State), Taken .pause check s → Quiet s →
    (s.run.state = .running ∨ s.run.state = .stepping → exec (.pause check) s = .next
      { s with
        link := s.link.replied .pause .ok []
        run.state := .paused
        clock.pausedState := true
        clock.boundary := none
        sequencer.cueStop := false }) ∧
    (s.run.state = .paused → exec (.pause check) s = .next (s.replied .pause .ok [])) ∧
    (s.run.state ≠ .running → s.run.state ≠ .stepping → s.run.state ≠ .paused →
      exec (.pause check) s = .next (s.replied .pause .protect [])))

/-- RESTORE in READY to ENDED answers OK, enters RESTORING at its first stage, passes the grant to the restore
operation, makes every followed state NONE and SETTLE active, and empties both buffers with the arm order; tables,
clock time and statistics stand until the stages run. In BUILD it is refused with PROTECTED (R137, R73, R168, R172).
A RESTORE that waited for its grant abandons the resolver's job and the queue at the hand-over, raises SETTLED for an
unsettled part and leaves no claim (R44, R58, R73, R143). That this and the clearing of PAUSED_STATE, the boundary
and the cue stop come with the command itself is the model's reading (log 16, 23). The first stage sets the
Sequencer, the statistics and the clock back, returns TRIPPED conditions to ARMED with no trip time, and evaluates
the ARMED ones whose MAX_LAG or DISCREPANCIES was not 0 (R138). The second retires every island, its generation one
higher, and gives switches and sources their initial values, a retired switch staying retired and effectively OPEN
(R139, R59, R41). The third labels the islands, sets the counts, evaluates every ARMED condition once, reports every
line's island, enters READY, raises RESTORE_DONE and releases the store (R140). No stage raises another event but the
first SETTLED, and either WATCH. On an empty queue a step carries out the grant of the waiting command (the model's
choice, log 2 and 3). -/
def Obligations.RestoreRunsItsStages : Prop :=
  (∀ (check : Option Byte) (s : State), Taken .restore check s → Quiet s →
     (s.run.state.hasModel = true → ∃ t, exec (.restore check) s = .next t ∧
       t = { s with
             link := s.link.replied .restore .ok []
             run := { state := .restoring, compileStage := none, restoreStage := some .first }
             clock.pausedState := false
             clock.boundary := none
             sequencer :=
               { bufferA := .cleared, bufferB := .cleared, armOrder := [], cueStop := false,
                 stats := s.sequencer.stats }
             arbiter.grant := .compileRestore
             panel.indicators := t.panel.indicators } ∧
       (∀ n, t.panel.indicators.get n = { s.panel.indicators.get n with followed := .none }) ∧
       t.settleActive = true) ∧
     (s.run.state = .build → exec (.restore check) s = .next (s.replied .restore .protect []))) ∧
  (∀ s : State, s.pending = [] → s.arbiter.grant = .link → s.link.taken = some .restore →
     s.arbiter.clearPending = false → s.run.state.hasModel = true →
     ∃ t, step s = .next t ∧
       t = { s with
             link := t.link
             run := { state := .restoring, compileStage := none, restoreStage := some .first }
             clock.pausedState := false
             clock.boundary := none
             resolver := { s.resolver with queue := [], current := none }
             sequencer :=
               { bufferA := .cleared, bufferB := .cleared, armOrder := [], cueStop := false,
                 stats := s.sequencer.stats }
             watch.flags := if s.settled then s.watch.flags else s.watch.flags ||| (1#19 <<< Event.settled.bit)
             arbiter := t.arbiter
             panel.indicators := t.panel.indicators } ∧
       t.link.frame = .status ∧ t.link.reply = replyBytes s.link.frameCheck .ok [] ∧ t.link.taken = none ∧
       (∀ n, t.panel.indicators.get n = { s.panel.indicators.get n with followed := .none }) ∧
       t.arbiter.grant = .compileRestore ∧ t.arbiter.resolverClaim = false ∧ t.arbiter.sequencerClaim = false ∧
       t.arbiter.linkWait = 0 ∧ t.arbiter.sequencerWait = 0) ∧
  ((∀ s : State, s.arbiter.grant = .compileRestore → s.run.state = .restoring →
     s.run.restoreStage = some .first →
     ∃ t, exec .restoreFirstStage s = .next t ∧
       t = { s with
             resolver := { s.resolver with queue := [], current := none }
             sequencer := .cleared
             clock :=
               { s.clock with
                 time := 0, frac := 0, boundary := none, starve := false, backlog := false,
                 holdLine := s.panel.holdCondition, pausedState := false }
             run.restoreStage := some .second
             watch := t.watch
             arbiter := t.arbiter } ∧
       t.arbiter.grant = .compileRestore ∧ (s.settled = false → t.flag .settled = true) ∧
       (∀ e, s.flag e = true → t.flag e = true) ∧
       t.watch = { s.watch with conditions := t.watch.conditions, flags := t.watch.flags } ∧
       (∀ e, e ≠ .settled → (∀ n : Fin 4, e ≠ watchEvent n) → t.flag e = s.flag e) ∧
       (∀ (n : Fin 4) (w : Watch),
         w = (if (s.watch.conditions.get n).state = .tripped then
                { s.watch.conditions.get n with state := .armed, tripTime := none }
              else s.watch.conditions.get n) →
         t.watch.conditions.get n =
           (if w.quantity = .maxLag ∧ s.sequencer.stats.maxLag ≠ 0 ∨
               w.quantity = .discrepancies ∧ s.sequencer.stats.discrepancies ≠ 0 then w.handed 0 0 else w) ∧
         t.flag (watchEvent n) =
           (s.flag (watchEvent n) || decide ((t.watch.conditions.get n).state = .tripped)))) ∧
   (∀ s : State, s.arbiter.grant = .compileRestore → s.run.state = .restoring →
     s.run.restoreStage = some .second → StoreInv s →
     ∃ t, exec .restoreSecondStage s = .next t ∧
       t = { s with store := t.store, run.restoreStage := some .labelling, arbiter := t.arbiter } ∧
       t.arbiter.grant = .compileRestore ∧ (∀ k, t.store.island k = none) ∧
       (∀ k, (t.store.islandRec k).generation =
         (if (s.store.island k).isSome then (s.store.islandRec k).generation + 1
          else (s.store.islandRec k).generation)) ∧
       (∀ n, t.store.node n = (s.store.node n).map fun r =>
         { r with online := r.initialOnline, island := none, prev := none, next := none }) ∧
       (∀ k, t.store.switch k = (s.store.switch k).map fun r =>
         { r with
           archived := r.initial.asPosition, held := r.initial, override := none,
           effective := if r.retired then .opened else r.initial,
           discrepancy := false, changeCount := 0, lastChange := none })) ∧
   (∀ s : State, s.arbiter.grant = .compileRestore → s.run.state = .restoring →
     s.run.restoreStage = some .labelling → s.arbiter.clearPending = false →
     ∃ t, exec .restoreEnd s = .next t ∧
       t = { s with
             store := s.store.labelAll s.clock.time
             resolver.counts := t.store.tally
             run := { s.run with state := .ready, restoreStage := none }
             watch := t.watch
             panel.indicators := t.panel.indicators
             arbiter := t.arbiter } ∧
       t.flag .restoreDone = true ∧ t.arbiter.grant ≠ .compileRestore ∧ t.watch = { s.watch with conditions := t.watch.conditions, flags := t.watch.flags } ∧
       (∀ e, e ≠ .restoreDone → (∀ n : Fin 4, e ≠ watchEvent n) → t.flag e = s.flag e) ∧
       (∀ n, t.panel.indicators.get n =
         { s.panel.indicators.get n with followed := t.store.followedOf (s.panel.indicators.get n).node }) ∧
       (∀ n : Fin 4,
         t.watch.conditions.get n =
           (s.watch.conditions.get n).handed (t.quantity (s.watch.conditions.get n).quantity) s.clock.time ∧
         t.flag (watchEvent n) =
           (s.flag (watchEvent n) || decide (t.watch.conditions.get n ≠ s.watch.conditions.get n)))))

/-! ### Watch conditions and indicators -/

/-- SET WATCH writes the condition, and CLEAR WATCH returns a TRIPPED one to ARMED; an ARMED condition is evaluated
at once: when the present value of its quantity meets the relation and threshold it trips, with T as trip time, and
its WATCH flag is raised. The reply is the state it then has. CLEAR WATCH of another state changes nothing; values
out of range are refused with RANGE (R149, R150, R147, R148). -/
def Obligations.WatchCommandsEvaluateAtOnce : Prop :=
  (∀ (number quantity relation : Byte) (threshold : U16) (state : Byte) (check : Option Byte) (s : State),
    Taken (.setWatch number quantity relation threshold state) check s → Quiet s →
    (∀ n q rel w met, parseCondition number = some n → parseQuantity quantity = some q →
      parseRelation relation = some rel → parseWatchState state = some w →
      met = (match rel with
        | .atLeast => decide (threshold.toNat ≤ s.quantity q)
        | .atMost => decide (s.quantity q ≤ threshold.toNat)) →
      exec (.setWatch number quantity relation threshold state check) s = .next
        (if w = .armed ∧ met = true then
          { s with
            link := s.link.replied (.setWatch number quantity relation threshold state) .ok [2]
            watch.conditions := s.watch.conditions.set n.val
              { quantity := q, relation := rel, threshold := threshold.toNat, state := .tripped,
                tripTime := some s.clock.time }
            watch.flags := s.watch.flags ||| (1#19 <<< (13 + n.val)) }
         else
          { s with
            link := s.link.replied (.setWatch number quantity relation threshold state) .ok [state]
            watch.conditions := s.watch.conditions.set n.val
              { quantity := q, relation := rel, threshold := threshold.toNat, state := w,
                tripTime := none } })) ∧
    ((parseCondition number = none ∨ parseQuantity quantity = none ∨ parseRelation relation = none ∨
        parseWatchState state = none) →
      exec (.setWatch number quantity relation threshold state check) s =
        .next (s.replied (.setWatch number quantity relation threshold state) .range []))) ∧
  (∀ (number : Byte) (check : Option Byte) (s : State), Taken (.clearWatch number) check s → Quiet s →
    (∀ n w, parseCondition number = some n → w = s.watch.conditions.get n → w.state = .tripped →
      exec (.clearWatch number check) s = .next
        (if w.test (s.quantity w.quantity) = true then
          { s with
            link := s.link.replied (.clearWatch number) .ok [2]
            watch.conditions := s.watch.conditions.set n.val { w with tripTime := some s.clock.time }
            watch.flags := s.watch.flags ||| (1#19 <<< (13 + n.val)) }
         else
          { s with
            link := s.link.replied (.clearWatch number) .ok [1]
            watch.conditions := s.watch.conditions.set n.val
              { w with state := .armed, tripTime := none } })) ∧
    (∀ n, parseCondition number = some n → (s.watch.conditions.get n).state ≠ .tripped →
      exec (.clearWatch number check) s =
        .next (s.replied (.clearWatch number) .ok [(s.watch.conditions.get n).state.code])) ∧
    (parseCondition number = none →
      exec (.clearWatch number check) s = .next (s.replied (.clearWatch number) .range [])))

/-- A quantity that is handed to the Watch Unit evaluates every ARMED condition that watches it, once, against its
present value: one whose test is true trips with T as trip time and raises its WATCH flag, and the others stand;
other flags stay (R147, R148). Handed are the quantities that changed, and no others: at the end of a job the device
counts that differ from their values when the job was taken (R43), at the end of compile those that differ from
before (R14), at CLEAR MODEL counts and statistics that have become 0 (R122, R152), and with a Sequencer grant
MAX_LAG and DISCREPANCIES as it changed them (R122). The hand-overs of restore: see RestoreRunsItsStages. -/
def Obligations.ChangedQuantitiesAreHanded : Prop :=
  (∀ (q : Quantity) (s : State),
     handOver q s = { s with
       watch := { s.watch with conditions := (handOver q s).watch.conditions, flags := (handOver q s).watch.flags } } ∧
     (∀ n : Fin 4,
       (handOver q s).watch.conditions.get n =
         (if (s.watch.conditions.get n).quantity = q then
           (s.watch.conditions.get n).handed (s.quantity q) s.clock.time
          else s.watch.conditions.get n) ∧
       (handOver q s).flag (watchEvent n) =
         (s.flag (watchEvent n) ||
           decide ((handOver q s).watch.conditions.get n ≠ s.watch.conditions.get n))) ∧
     (∀ e : Event, (∀ n, e ≠ watchEvent n) → (handOver q s).flag e = s.flag e)) ∧
  (∀ (j : JobInProgress) (s : State),
     HandsChanges
       (fun q => match q with
         | .liveIslands => j.atTake.live
         | .deadNodes => j.atTake.deadNodes
         | .deadLoads => j.atTake.deadLoads
         | .maxLag => s.sequencer.stats.maxLag
         | .discrepancies => s.sequencer.stats.discrepancies) s (endJob j s)) ∧
  (∀ s : State, s.arbiter.grant = .compileRestore → s.run.state = .compiling →
     s.run.compileStage = some .labelling → s.arbiter.clearPending = false →
     ∃ t, exec .compileEnd s = .next t ∧ HandsChanges s.quantity s t) ∧
  (∀ (check : Option Byte) (s : State), Taken .clearModel check s →
     s.arbiter.grant = .none ∨ s.arbiter.grant = .compileRestore →
     ∃ t, exec (.clearModel check) s = .next t ∧ t.clock.time = 0 ∧ HandsChanges s.quantity s t ∧
       ∀ q, t.quantity q = 0) ∧
  (∀ (n : BufferName) (e : BitVec 64) (s : State), s.arbiter.grant = .sequencer →
     s.sequencer.head = some (n, e) → s.arbiter.clearPending = false →
     ∃ t, exec .applyEntry s = .next t ∧ t.clock.time = s.clock.time ∧ HandsChanges s.quantity s t)

/-- REFRESH INDICATORS sets every line's followed state from the island of its node: LIVE or DEAD as the island is,
NONE where the node has no island; in BUILD every followed state stays. Nothing else changes (R169, R168). The
output of a line: high impedance where it is so set; otherwise its active level, in FIXED mode while the fixed level
is ACTIVE, in LIVE mode while it follows a LIVE island, in DEAD_FLASH mode while it follows a LIVE island, or a DEAD
one in the active half of the flash phase, and else the opposite level (R170). SETTLE is LOW exactly while the work
queue is not empty, a job is in progress, or the run is COMPILING or RESTORING, and HIGH otherwise (R172). The flash
phase turns between ACTIVE_HALF and INACTIVE_HALF in every run state, and nothing else changes (R171). -/
def Obligations.IndicatorsAndSettleFollow : Prop :=
  (∀ (check : Option Byte) (s : State), Taken .refreshIndicators check s → Quiet s →
     (s.run.state.hasModel = true →
       ∃ t, exec (.refreshIndicators check) s = .next t ∧
         t = { s with
               link := s.link.replied .refreshIndicators .ok []
               panel.indicators := t.panel.indicators } ∧
         ∀ n, t.panel.indicators.get n =
           { s.panel.indicators.get n with
             followed :=
               match (s.store.node (s.panel.indicators.get n).node).bind fun r =>
                   r.island.bind fun k => s.store.island k with
               | some b => (match b.feed with
                   | .live => .live
                   | .dead => .dead)
               | none => .none }) ∧
     (s.run.state = .build →
       exec (.refreshIndicators check) s = .next (s.replied .refreshIndicators .ok []))) ∧
  (∀ (l : Indicator) (phase : Bool),
     (l.highZ = true → l.output phase = .highZ) ∧
     (l.highZ = false →
       l.output phase =
         (if l.mode = .fixed ∧ l.fixedActive = true ∨ l.mode = .live ∧ l.followed = .live ∨
             l.mode = .deadFlash ∧ (l.followed = .live ∨ l.followed = .dead ∧ phase = true) then
           (if l.activeHigh then .high else .low)
          else (if l.activeHigh then .low else .high)))) ∧
  (∀ s : State, s.settlePin =
     (if s.resolver.queue ≠ [] ∨ s.resolver.current ≠ none ∨ s.run.state = .compiling ∨ s.run.state = .restoring then
       .low else .high)) ∧
  (∀ s : State, ∃ t, exec .flashPhaseTurn s = .next t ∧
     t = { s with panel.flashActive := t.panel.flashActive } ∧ t.panel.flashActive ≠ s.panel.flashActive)

/-! ### The Island Resolver -/

/-- The end of a job (R48): with the queue empty no job is in progress and SETTLED is raised; otherwise the oldest
job is taken, its slot is free, and a BACKLOG hold is cleared (R45, R117). A job that moved a node or changed a
state is reported to every indicator line (R168); one that did neither leaves the panel. The tables stay. That the
next job is taken at once is the model's reading of R45 (log 17). -/
def Obligations.JobsEnd : Prop :=
  ∀ (j : JobInProgress) (s : State),
    (endJob j s).store = s.store ∧ (endJob j s).resolver.counts = s.resolver.counts ∧
    (s.resolver.queue = [] →
      (endJob j s).resolver.current = none ∧ (endJob j s).resolver.queue = [] ∧
      (endJob j s).flag .settled = true ∧ (endJob j s).clock = s.clock) ∧
    (∀ k rest, s.resolver.queue = k :: rest →
      (endJob j s).resolver.queue = rest ∧
      (endJob j s).resolver.current = some (JobInProgress.begin k s.resolver.counts) ∧
      (endJob j s).clock = { s.clock with backlog := false }) ∧
    (j.touched = false → (endJob j s).panel = s.panel) ∧
    (j.touched = true → ∀ n, ((endJob j s).panel.indicators.get n).followed =
      s.store.followedOf (s.panel.indicators.get n).node) ∧
    (j.atTake = s.resolver.counts → (endJob j s).watch.conditions = s.watch.conditions)

/-- The guard claim of a MERGE: a switch that is effectively OPEN again, or whose ends stand in one island, ends the
job with no change; otherwise the island with more members survives, the lower id of two equal ones, and the job
goes on to RELABEL (R49). A RELABEL claim of a MERGE moves the first member of the absorbed island to the tail of
the survivor and sets the device counts to the tables; the job ends with the claim that retires the absorbed island
and otherwise goes on (`endJob`: see JobsEnd). Switches and node definitions stay (R50, R51, R42). -/
def Obligations.MergeJobsRelabel : Prop :=
  (∀ (j : JobInProgress) (sw cause : Nat) (r : SwitchRec) (ka kb : Nat) (ia ib : Island) (s : State),
     s.arbiter.grant = .resolver → s.resolver.current = some j → j.job = .merge sw cause → j.stage = .guard →
     s.arbiter.clearPending = false → s.store.switch sw = some r → s.store.endIslands r = some (ka, kb) →
     s.store.island ka = some ia → s.store.island kb = some ib →
     ∃ t, exec .mergeGuard s = .next t ∧
       ((r.effective = .opened ∨ ka = kb) → t = { endJob j s with arbiter := t.arbiter }) ∧
       (∀ k x, r.effective = .closed → ka ≠ kb →
         (k = ka ∧ x = kb ∧ (ib.memberCount < ia.memberCount ∨ ia.memberCount = ib.memberCount ∧ ka < kb) ∨
          k = kb ∧ x = ka ∧ (ia.memberCount < ib.memberCount ∨ ia.memberCount = ib.memberCount ∧ kb < ka)) →
         t = { s with
               resolver.current := some { j with stage := .relabel, survivor := some k, absorbed := some x }
               arbiter := t.arbiter })) ∧
  (∀ (j : JobInProgress) (sw cause k x : Nat) (b : Island) (s : State),
     s.arbiter.grant = .resolver → s.resolver.current = some j → j.job = .merge sw cause → j.stage = .relabel →
     s.arbiter.clearPending = false → j.survivor = some k → j.absorbed = some x → s.store.island x = some b →
     ∃ t, exec .mergeRelabel s = .next t ∧ t.store = s.store.moveNode b.first k cause ∧
       t.resolver.counts = t.store.tally ∧
       (t.store.island x ≠ none →
         t = { s with
               store := t.store
               resolver := { s.resolver with counts := t.store.tally, current := some { j with touched := true } }
               arbiter := t.arbiter }) ∧
       (t.store.island x = none →
         t = { endJob { j with touched := true } (commitStore (s.store.moveNode b.first k cause) s) with
               arbiter := t.arbiter }) ∧
       (t.store.switches = s.store.switches ∧
         (StoreInv s → ∀ m, (t.store.node m).map (·.definition) = (s.store.node m).map (·.definition))))

/-- Moving a node into another existing island, which may be new and empty (R39, R50, R55): the node belongs to the
new island as its last member, the old last member links on to it, and its neighbours link past it; the new island
gains the member and its counts. The old island loses them, its first and last member moving on where the node stood
there, and retires with its generation one higher when the node was its only member (R41). Each island's state
follows its online-source count, with the cause time as state-since where it changed (R40). Other islands, nodes and
all switches stay. The premises on the links are what the member lists of ListInv give. -/
def Obligations.MovedNodesKeepTheLists : Prop :=
  ∀ (st : Store) (n src dst cause : Nat) (r : NodeRec) (a b : Island) (source load : Nat),
    st.canonical = true → st.node n = some r → r.island = some src → src ≠ dst → st.island src = some a →
    st.island dst = some b → 1 ≤ a.memberCount →
    (1 ≤ b.memberCount → b.last ≠ n ∧ (st.node b.last).isSome = true ∧ r.prev ≠ some b.last ∧ r.next ≠ some b.last) →
    r.prev ≠ some n → r.next ≠ some n → (∀ p x, r.prev = some p → r.next = some x → p ≠ x) →
    source = (if r.online = some true then 1 else 0) → load = (if r.kind = .load then 1 else 0) →
    (st.moveNode n dst cause).node n =
      some { r with island := some dst, prev := if b.memberCount = 0 then none else some b.last, next := none } ∧
    (∀ feed, feed = (if 1 ≤ b.sourceCount + source then Feed.live else Feed.dead) →
      (st.moveNode n dst cause).island dst = some
        { feed := feed, memberCount := b.memberCount + 1, sourceCount := b.sourceCount + source,
          loadCount := b.loadCount + load, first := if b.memberCount = 0 then n else b.first, last := n,
          since := if feed = b.feed then b.since else cause }) ∧
    ((st.moveNode n dst cause).islandRec dst).generation = (st.islandRec dst).generation ∧
    (∀ feed, 1 < a.memberCount → feed = (if 1 ≤ a.sourceCount - source then Feed.live else Feed.dead) →
      (st.moveNode n dst cause).island src = some
        { feed := feed, memberCount := a.memberCount - 1, sourceCount := a.sourceCount - source,
          loadCount := a.loadCount - load,
          first := (match r.prev, r.next with
            | none, some x => x
            | _, _ => a.first)
          last := (match r.next, r.prev with
            | none, some p => p
            | _, _ => a.last)
          since := if feed = a.feed then a.since else cause } ∧
      ((st.moveNode n dst cause).islandRec src).generation = (st.islandRec src).generation) ∧
    (a.memberCount = 1 → (st.moveNode n dst cause).island src = none ∧
      ((st.moveNode n dst cause).islandRec src).generation = (st.islandRec src).generation + 1) ∧
    (∀ k, k ≠ src → k ≠ dst → (st.moveNode n dst cause).islandRec k = st.islandRec k) ∧
    (∀ q, 1 ≤ b.memberCount → st.node b.last = some q →
      (st.moveNode n dst cause).node b.last = some { q with next := some n }) ∧
    (∀ p q, r.prev = some p → st.node p = some q →
      (st.moveNode n dst cause).node p = some { q with next := r.next }) ∧
    (∀ x q, r.next = some x → st.node x = some q →
      (st.moveNode n dst cause).node x = some { q with prev := r.prev }) ∧
    (∀ m, m ≠ n → (1 ≤ b.memberCount → m ≠ b.last) → r.prev ≠ some m → r.next ≠ some m →
      (st.moveNode n dst cause).node m = st.node m) ∧
    (st.moveNode n dst cause).switches = st.switches

/-- The guard claim of a SPLIT: a switch that is effectively CLOSED again, or whose ends stand in different islands,
ends the job with no change; otherwise the two sides start from the two ends and side A makes its first visit, so
that the job goes on unless the sides meet at once. A search claim visits the head of the queue of the side whose
turn it is; sides that meet end the job with no change, and otherwise the other side's turn begins. The tables stay
(R52, R53). -/
def Obligations.SplitSearchesBothSides : Prop :=
  (∀ (j : JobInProgress) (sw cause : Nat) (r : SwitchRec) (ka kb : Nat) (s : State),
    s.arbiter.grant = .resolver → s.resolver.current = some j → j.job = .split sw cause → j.stage = .guard →
    s.arbiter.clearPending = false → s.store.switch sw = some r → s.store.endIslands r = some (ka, kb) →
    ∃ t, exec .splitGuard s = .next t ∧ t.store = s.store ∧
      ((r.effective = .closed ∨ ka ≠ kb) → t = { endJob j s with arbiter := t.arbiter }) ∧
      (r.effective = .opened → ka = kb →
        ∃ g, g = { j with
                   stage := .search, turn := .a
                   sideA := { queue := [r.endA], visited := [r.endA] }
                   sideB := { queue := [r.endB], visited := [r.endB] } } ∧
          (∀ d, searchVisit s.store [r.endB] r.endA (s.store.incidenceOf r.endA)
              { queue := [], visited := [r.endA] } = some d →
            t = { s with
                  resolver.current := some { g with sideA := d, turn := .b }
                  arbiter := t.arbiter }) ∧
          (searchVisit s.store [r.endB] r.endA (s.store.incidenceOf r.endA)
              { queue := [], visited := [r.endA] } = none →
            t = { endJob g s with arbiter := t.arbiter }))) ∧
  (∀ (j : JobInProgress) (sw cause n : Nat) (queue : List Nat) (s : State),
    s.arbiter.grant = .resolver → s.resolver.current = some j → j.job = .split sw cause → j.stage = .search →
    s.arbiter.clearPending = false → j.turn = .a → j.sideA.queue = n :: queue →
    ∃ t, exec .splitVisit s = .next t ∧ t.store = s.store ∧
      (∀ d, searchVisit s.store j.sideB.visited n (s.store.incidenceOf n)
          { queue := queue, visited := j.sideA.visited } = some d →
        t = { s with
              resolver.current := some
                (if j.sideB.queue = [] then
                  { j with
                    sideA := d, stage := .relabel, turn := .b, exhausted := some .b,
                    toRelabel := j.sideB.visited }
                 else { j with sideA := d, turn := .b })
              arbiter := t.arbiter }) ∧
      (searchVisit s.store j.sideB.visited n (s.store.incidenceOf n)
          { queue := queue, visited := j.sideA.visited } = none →
        t = { endJob j s with arbiter := t.arbiter })) ∧
  (∀ (j : JobInProgress) (sw cause n : Nat) (queue : List Nat) (s : State),
    s.arbiter.grant = .resolver → s.resolver.current = some j → j.job = .split sw cause → j.stage = .search →
    s.arbiter.clearPending = false → j.turn = .b → j.sideB.queue = n :: queue →
    ∃ t, exec .splitVisit s = .next t ∧ t.store = s.store ∧
      (∀ d, searchVisit s.store j.sideA.visited n (s.store.incidenceOf n)
          { queue := queue, visited := j.sideB.visited } = some d →
        t = { s with
              resolver.current := some
                (if j.sideA.queue = [] then
                  { j with
                    sideB := d, stage := .relabel, turn := .a, exhausted := some .a,
                    toRelabel := j.sideA.visited }
                 else { j with sideB := d, turn := .a })
              arbiter := t.arbiter }) ∧
      (searchVisit s.store j.sideA.visited n (s.store.incidenceOf n)
          { queue := queue, visited := j.sideB.visited } = none →
        t = { endJob j s with arbiter := t.arbiter }))

/-- One visit enters only far ends of effectively CLOSED switches of the node, never one of the other side, keeps
what the side had in its order, adds each new far end once in the order of the first switch that reaches it, and
fails exactly when such a far end is the other side's (R53). -/
def Obligations.VisitsFollowClosedSwitches : Prop :=
  ∀ (st : Store) (other : List Nat) (n : Nat) (sws : List Nat) (d : Side),
    (searchVisit st other n sws d = none ↔
      ∃ k ∈ sws, ∃ r, st.switch k = some r ∧ r.effective = .closed ∧ r.farEnd n ∈ other) ∧
    ∀ e, searchVisit st other n sws d = some e →
      ∃ added, e.queue = d.queue ++ added ∧ e.visited = d.visited ++ added ∧ added.Nodup ∧
        added = st.newEnds n sws d.visited ∧
        ∀ m, m ∈ added ↔ m ∉ d.visited ∧ ∃ k ∈ sws, ∃ r, st.switch k = some r ∧ r.effective = .closed ∧
          r.farEnd n = m

/-- A RELABEL claim of a SPLIT moves the next node of the relabel set into the new island, which the first claim
creates on the lowest free id. The created record has the cause time as state-since and keeps its generation; it has
member count 0 before the node is moved, and no other record changes. After the first claim the node is the new
island's one member and state-since is the cause time whatever its state, which follows the node's online value (R40,
R55). The job ends with the last node. Switches and node definitions stay (R55, R41, R42). -/
def Obligations.SplitRelabelMovesOneNode : Prop :=
  ∀ (j : JobInProgress) (sw cause n k : Nat) (rest : List Nat) (st : Store) (s : State),
    s.arbiter.grant = .resolver → s.resolver.current = some j → j.job = .split sw cause → j.stage = .relabel →
    s.arbiter.clearPending = false → j.toRelabel = n :: rest →
    (j.newIsland = some k ∧ st = s.store ∨
     j.newIsland = none ∧ k < 4096 ∧ s.store.island k = none ∧ (∀ i, i < k → s.store.island i ≠ none) ∧
      st = s.store.createIsland k n cause) →
    ∃ t, exec .splitRelabel s = .next t ∧ t.store = st.moveNode n k cause ∧
      t.resolver.counts = t.store.tally ∧
      (j.newIsland = none → StoreInv s →
        (st.island k).map (·.memberCount) = some 0 ∧ (st.island k).map (·.sourceCount) = some 0 ∧
        (st.island k).map (·.loadCount) = some 0 ∧ (st.island k).map (·.since) = some cause ∧
        (st.islandRec k).generation = (s.store.islandRec k).generation ∧
        (∀ i, i ≠ k → st.islandRec i = s.store.islandRec i) ∧ st.nodes = s.store.nodes ∧
        (∀ r src a, s.store.node n = some r → r.island = some src → s.store.island src = some a →
          1 ≤ a.memberCount → r.prev ≠ some n → r.next ≠ some n →
          (t.store.islandRec k).generation = (s.store.islandRec k).generation ∧
          t.store.island k = some
            { feed := if r.online = some true then .live else .dead, memberCount := 1,
              sourceCount := if r.online = some true then 1 else 0,
              loadCount := if r.kind = .load then 1 else 0, first := n, last := n, since := cause })) ∧
      (rest ≠ [] →
        t = { s with
              store := t.store
              resolver :=
                { s.resolver with
                  counts := t.store.tally
                  current := some { j with toRelabel := rest, newIsland := some k, touched := true } }
              arbiter := t.arbiter }) ∧
      (rest = [] →
        t = { endJob { j with toRelabel := [], newIsland := some k, touched := true }
                (commitStore (st.moveNode n k cause) s) with
              arbiter := t.arbiter }) ∧
      (t.store.switches = s.store.switches ∧
        (StoreInv s → ∀ m, (t.store.node m).map (·.definition) = (s.store.node m).map (·.definition)))

/-- The claim of a SOURCE job: a node that is no SOURCE, or whose online already has the value, ends the job with no
change; otherwise its online takes the value, its island's online-source count moves by one, the island's state
follows the count with the cause time as state-since where it changed, and the job ends (R57, R40). -/
def Obligations.SourceJobSetsOnline : Prop :=
  ∀ (j : JobInProgress) (n cause k : Nat) (v : Bool) (r : NodeRec) (b : Island) (s : State),
    s.arbiter.grant = .resolver → s.resolver.current = some j → j.job = .source n v cause → j.stage = .guard →
    s.arbiter.clearPending = false → StoreInv s → s.store.node n = some r → r.island = some k →
    s.store.island k = some b →
    ∃ t, exec .sourceJob s = .next t ∧
      ((r.kind ≠ .source ∨ r.online = some v) → t = { endJob j s with arbiter := t.arbiter }) ∧
      (∀ count feed, r.kind = .source → r.online ≠ some v →
        count = (if v then b.sourceCount + 1 else b.sourceCount - 1) →
        feed = (if 1 ≤ count then Feed.live else Feed.dead) →
        t.store.node n = some { r with online := some v } ∧
        t.store.island k = some
          { b with sourceCount := count, feed := feed, since := if feed = b.feed then b.since else cause } ∧
        (∀ m, m ≠ n → t.store.node m = s.store.node m) ∧
        (∀ i, i ≠ k → t.store.island i = s.store.island i) ∧ t.store.switches = s.store.switches ∧
        t.resolver.counts = t.store.tally ∧
        t = { endJob { j with touched := decide (feed ≠ b.feed) }
                (commitStore (s.store.setOnline n k v cause) s) with
              arbiter := t.arbiter })

/-! ### The Sequencer -/

/-- An entry's id stands in bytes 1 and 2 and its timestamp in bytes 4 to 7; byte 0 names the kind, byte 3 holds the
from-position in its high and the to-position in its low four bits, or the online-after byte (R191). A Sequencer
grant that finds an entry fault (a kind code that names no kind, a switch or node that is not defined, a node that is
no SOURCE, a bad position or online code) counts it, raises ENTRY_FAULT and advances the index; the tables, the queue
and the run stay, and no other statistic moves (R27, R114, R112). A Sequencer grant that finds the queue holding 64
jobs hands back an entry that would append one: the BACKLOG hold is set, BACKLOG is raised if it was clear, and
nothing but these and the arbiter changes (R28, R117). -/
def Obligations.EntriesAreSkippedOrHandedBack : Prop :=
  (∀ e : BitVec 64,
     entryId e = 256 * (entryByte e 1).toNat + (entryByte e 2).toNat ∧
     entryTime e = 16777216 * (entryByte e 4).toNat + 65536 * (entryByte e 5).toNat +
       256 * (entryByte e 6).toNat + (entryByte e 7).toNat ∧
     (∀ position : Nat → Option Position, position = (fun code => match code with
          | 0 => some .opened
          | 1 => some .closed
          | 2 => some .transit
          | 3 => some .invalid
          | _ => none) →
       entryByte e 0 = 1 →
       readEntry e = .switch (entryId e) (position ((entryByte e 3).toNat / 16))
         (position ((entryByte e 3).toNat % 16))) ∧
     (entryByte e 0 = 2 → readEntry e = .source (entryId e)
       (if entryByte e 3 = 0 then some false else if entryByte e 3 = 1 then some true else none)) ∧
     (entryByte e 0 = 3 → readEntry e = .cue) ∧
     (entryByte e 0 ≠ 1 → entryByte e 0 ≠ 2 → entryByte e 0 ≠ 3 → readEntry e = .bad)) ∧
  (∀ (n : BufferName) (e : BitVec 64) (s : State), s.arbiter.grant = .sequencer →
     s.sequencer.head = some (n, e) → s.arbiter.clearPending = false → StoreInv s →
     (((entryByte e 0).toNat = 0 ∨ 3 < (entryByte e 0).toNat) ∨
      (entryByte e 0).toNat = 1 ∧ (s.store.switch (entryId e) = none ∨ 64 ≤ (entryByte e 3).toNat ∨
       4 ≤ (entryByte e 3).toNat % 16) ∨
      (entryByte e 0).toNat = 2 ∧ ((∀ r, s.store.node (entryId e) = some r → r.kind ≠ .source) ∨
       2 ≤ (entryByte e 3).toNat)) →
     ∃ t, exec .applyEntry s = .next t ∧
       t.sequencer.stats =
         { s.sequencer.stats with
           faults := if s.sequencer.stats.faults < 65535 then s.sequencer.stats.faults + 1
             else s.sequencer.stats.faults } ∧
       t.flag .entryFault = true ∧ t.store = s.store ∧ t.resolver = s.resolver ∧ t.run = s.run ∧
       t.panel = s.panel ∧ t.link = s.link ∧ t.clock.time = s.clock.time ∧
       ((s.sequencer.buffer n).index + 1 < (s.sequencer.buffer n).entries.length →
         t.sequencer.buffer n = { s.sequencer.buffer n with index := (s.sequencer.buffer n).index + 1 }) ∧
       (∀ m, (s.sequencer.buffer n).index + 1 < (s.sequencer.buffer n).entries.length → m ≠ n →
         t.sequencer.buffer m = s.sequencer.buffer m)) ∧
  (∀ (n : BufferName) (e : BitVec 64) (s : State), s.arbiter.grant = .sequencer →
     s.sequencer.head = some (n, e) → s.arbiter.clearPending = false → 64 ≤ s.resolver.queue.length →
     (planEntry s e).needsRoom = true →
     ∃ t, exec .applyEntry s = .next t ∧
       t = { s with
             clock.backlog := true
             watch.flags := if s.clock.backlog then s.watch.flags
               else s.watch.flags ||| (1#19 <<< Event.backlog.bit)
             arbiter := t.arbiter })

/-- A Sequencer grant that applies a SWITCH entry which finds room, not the last of its buffer: forward the expected
position is the entry's from-position and the target its to-position, in reverse the other way round. A position
that differs from the archived one marks the switch and counts a discrepancy. A target that differs from the
archived position is taken, counted and timed, and the held and effective positions are derived. A changed effective
position appends one job with the entry's time, and the statistics take the entry (R29 to R32, R23, R112, R120,
R121). -/
def Obligations.SwitchEntriesAreApplied : Prop :=
  ∀ (n : BufferName) (e : BitVec 64) (sw : Nat) (f g expected target : Position) (r r' : SwitchRec)
      (effective held : Contact) (s : State),
    s.arbiter.grant = .sequencer → s.sequencer.head = some (n, e) → s.arbiter.clearPending = false →
    StoreInv s → readEntry e = .switch sw (some f) (some g) → s.store.switch sw = some r →
    (s.clock.direction = .forward ∧ expected = f ∧ target = g ∨
     s.clock.direction = .reverse ∧ expected = g ∧ target = f) →
    held = (if target = r.archived then r.held else deriveHeld s.policy target r.held) →
    effective = (if target = r.archived then r.effective else deriveEffective r.retired r.override held) →
    r' = { r with
           archived := target
           held := held
           effective := effective
           discrepancy := r.discrepancy || decide (r.archived ≠ expected)
           changeCount := if target = r.archived then r.changeCount
             else if r.changeCount < 65535 then r.changeCount + 1 else r.changeCount
           lastChange := if target = r.archived then r.lastChange else some (entryTime e) } →
    (r.effective = effective ∨ s.resolver.queue.length < 64) →
    (s.sequencer.buffer n).index + 1 < (s.sequencer.buffer n).entries.length →
    ∃ t, exec .applyEntry s = .next t ∧ t.store.switch sw = some r' ∧
      (∀ m, m ≠ sw → t.store.switch m = s.store.switch m) ∧ t.store.nodes = s.store.nodes ∧
      t.store.islands = s.store.islands ∧
      (t.resolver.current.toList.map (·.job) ++ t.resolver.queue =
        s.resolver.current.toList.map (·.job) ++ s.resolver.queue ++
          (if r.effective = effective then []
           else [jobFor sw effective (entryTime e)]) ∨
        s.resolver.current = none ∧ s.resolver.queue ≠ []) ∧
      t.sequencer.buffer n = { s.sequencer.buffer n with index := (s.sequencer.buffer n).index + 1 } ∧
      (∀ m, m ≠ n → t.sequencer.buffer m = s.sequencer.buffer m) ∧
      t.sequencer.stats =
        { s.sequencer.stats with
          applied := if s.sequencer.stats.applied < 4294967295 then s.sequencer.stats.applied + 1
            else s.sequencer.stats.applied
          maxLag := max s.sequencer.stats.maxLag
            (min (match s.clock.direction with
              | .forward => s.clock.time - entryTime e
              | .reverse => entryTime e - s.clock.time) 65535)
          outOfOrder :=
            if (match s.sequencer.stats.previous, s.clock.direction with
                | some p, .forward => decide (entryTime e < p)
                | some p, .reverse => decide (p < entryTime e)
                | none, _ => false) && decide (s.sequencer.stats.outOfOrder < 65535) then
              s.sequencer.stats.outOfOrder + 1
            else s.sequencer.stats.outOfOrder
          discrepancies :=
            if r.archived ≠ expected ∧ s.sequencer.stats.discrepancies < 65535 then
              s.sequencer.stats.discrepancies + 1
            else s.sequencer.stats.discrepancies
          previous := some (entryTime e) } ∧
      t.run = s.run ∧ t.panel = s.panel ∧ t.link = s.link ∧ t.policy = s.policy

/-- A Sequencer grant that applies a SOURCE entry, not the last of its buffer, on a settled part: one SOURCE job with
the online value of the direction of play and the entry's time is taken at once, and no table changes; on a part with
a job in progress and fewer than 64 queued the job is appended behind them. A CUE entry in RUNNING or STEPPING enters
PAUSED, in ENDED sets the cue stop, and raises CUE (R114, R115, R45); that in the other run states, PAUSED included,
it raises CUE and the index advances is the model's reading (log 15). That the job is taken within the grant is the
model's reading of R45 (log 17). Entries applied, maximum lag, out-of-order count and previous timestamp take each
entry applied (R120, R121). The grant that takes the last entry of a buffer empties it and raises BATCH_DONE, whether
the entry is applied or skipped; then, in RUNNING, STEPPING and ENDED as the entry leaves the run, the other buffer
activates where it is ARMED, or is emptied with BATCH_REJECTED where its tag is not the direction of play; in RUNNING
and STEPPING with no buffer then ACTIVE or ARMED STARVE is set, with STARVED where it was clear (R108, R109, R110,
R118). An entry handed back is not taken. -/
def Obligations.OtherEntriesAreApplied : Prop :=
  (∀ (n : BufferName) (e : BitVec 64) (stats : Stats) (s : State), s.arbiter.grant = .sequencer →
     s.sequencer.head = some (n, e) → s.arbiter.clearPending = false → StoreInv s →
     stats =
       { s.sequencer.stats with
         applied := if s.sequencer.stats.applied < 4294967295 then s.sequencer.stats.applied + 1
           else s.sequencer.stats.applied
         maxLag := max s.sequencer.stats.maxLag
           (min (match s.clock.direction with
             | .forward => s.clock.time - entryTime e
             | .reverse => entryTime e - s.clock.time) 65535)
         outOfOrder :=
           if (match s.sequencer.stats.previous, s.clock.direction with
               | some p, .forward => decide (entryTime e < p)
               | some p, .reverse => decide (p < entryTime e)
               | none, _ => false) && decide (s.sequencer.stats.outOfOrder < 65535) then
             s.sequencer.stats.outOfOrder + 1
           else s.sequencer.stats.outOfOrder
         previous := some (entryTime e) } →
     (s.sequencer.buffer n).index + 1 < (s.sequencer.buffer n).entries.length →
     (∀ node v r, readEntry e = .source node (some v) → s.store.node node = some r → r.kind = .source →
       s.resolver.current = none → s.resolver.queue = [] →
       ∃ t, exec .applyEntry s = .next t ∧ t.store = s.store ∧ t.run = s.run ∧ t.resolver.queue = [] ∧
         t.resolver.current = some (JobInProgress.begin
           (.source node (match s.clock.direction with
             | .forward => v
             | .reverse => !v) (entryTime e)) s.resolver.counts) ∧
         t.sequencer.stats = stats ∧
         (t.sequencer.buffer n).index = (s.sequencer.buffer n).index + 1) ∧
     (∀ node v r, readEntry e = .source node (some v) → s.store.node node = some r → r.kind = .source →
       s.resolver.current ≠ none → s.resolver.queue.length < 64 →
       ∃ t, exec .applyEntry s = .next t ∧ t.store = s.store ∧ t.run = s.run ∧
         t.resolver =
           { s.resolver with
             queue := s.resolver.queue ++
               [.source node (match s.clock.direction with
                 | .forward => v
                 | .reverse => !v) (entryTime e)] } ∧
         t.sequencer.stats = stats ∧
         (t.sequencer.buffer n).index = (s.sequencer.buffer n).index + 1) ∧
     (readEntry e = .cue →
       ∃ t, exec .applyEntry s = .next t ∧ t.store = s.store ∧ t.resolver = s.resolver ∧ t.flag .cue = true ∧
         t.sequencer.stats = stats ∧
         (t.sequencer.buffer n).index = (s.sequencer.buffer n).index + 1 ∧
         (s.run.state = .running ∨ s.run.state = .stepping →
           t.run.state = .paused ∧ t.clock.pausedState = true ∧ t.clock.boundary = none) ∧
         (s.run.state = .ended → t.run = s.run ∧ t.sequencer.cueStop = true))) ∧
  (∀ (n : BufferName) (e : BitVec 64) (stats : Stats) (s : State), s.arbiter.grant = .sequencer →
     s.sequencer.head = some (n, e) → s.arbiter.clearPending = false → n ∉ s.sequencer.armOrder →
     (s.sequencer.buffer n).index + 1 = (s.sequencer.buffer n).entries.length →
     ((planEntry s e).needsRoom = false ∨ s.resolver.queue.length < 64) →
     stats =
       { s.sequencer.stats with
         applied := if s.sequencer.stats.applied < 4294967295 then s.sequencer.stats.applied + 1
           else s.sequencer.stats.applied
         maxLag := max s.sequencer.stats.maxLag
           (min (match s.clock.direction with
             | .forward => s.clock.time - entryTime e
             | .reverse => entryTime e - s.clock.time) 65535)
         outOfOrder :=
           if (match s.sequencer.stats.previous, s.clock.direction with
               | some p, .forward => decide (entryTime e < p)
               | some p, .reverse => decide (p < entryTime e)
               | none, _ => false) && decide (s.sequencer.stats.outOfOrder < 65535) then
             s.sequencer.stats.outOfOrder + 1
           else s.sequencer.stats.outOfOrder
         previous := some (entryTime e) } →
     ∃ t, exec .applyEntry s = .next t ∧ t.sequencer.buffer n = .cleared ∧ t.flag .batchDone = true ∧
       t.run.state =
         (if readEntry e = .cue ∧ (s.run.state = .running ∨ s.run.state = .stepping) then .paused
          else s.run.state) ∧
       (planEntry s e ≠ .fault →
         t.sequencer.stats = { stats with discrepancies := t.sequencer.stats.discrepancies }) ∧
       ∀ m, m ≠ n → (s.sequencer.buffer m).state ≠ .active →
         ((t.run.state = .running ∨ t.run.state = .stepping ∨ t.run.state = .ended) →
           (s.sequencer.armOrder = [m] → (s.sequencer.buffer m).tag = some s.clock.direction →
             t.sequencer.buffer m = { s.sequencer.buffer m with state := .active, index := 0 } ∧
             t.sequencer.armOrder = [] ∧ t.flag .batchRejected = s.flag .batchRejected) ∧
           (s.sequencer.armOrder = [m] → (s.sequencer.buffer m).tag ≠ some s.clock.direction →
             t.sequencer.buffer m = .cleared ∧ t.sequencer.armOrder = [] ∧ t.flag .batchRejected = true) ∧
           (s.sequencer.armOrder = [] →
             t.sequencer.buffer m = s.sequencer.buffer m ∧ t.sequencer.armOrder = [])) ∧
         (t.run.state ≠ .running → t.run.state ≠ .stepping → t.run.state ≠ .ended →
           t.sequencer.buffer m = s.sequencer.buffer m ∧ t.sequencer.armOrder = s.sequencer.armOrder) ∧
         ((t.run.state = .running ∨ t.run.state = .stepping) → (t.sequencer.buffer m).state ≠ .active →
           (t.sequencer.buffer m).state ≠ .armed →
           t.clock.starve = true ∧ t.flag .starved = (s.flag .starved || !s.clock.starve)) ∧
         (¬((t.run.state = .running ∨ t.run.state = .stepping) ∧ (t.sequencer.buffer m).state ≠ .active ∧
             (t.sequencer.buffer m).state ≠ .armed) →
           t.clock.starve = s.clock.starve ∧ t.flag .starved = s.flag .starved))

/-! ### The reference clock -/

/-- The pacing tick. It advances only in RUNNING and STEPPING with no hold set. The advance is (F + R) / 256 rounded
down. Forward with the advance at least E less T, and backward with it at least T, T becomes E or 0, F becomes 0,
the boundary is dropped and the run enters ENDED with ENDED raised. Otherwise T moves by the advance and F takes the
rest, unless STEPPING reaches the boundary: then T becomes the boundary, F becomes 0 and STEP_DONE is raised, and a
STEP line asserted starts the next span while otherwise the run enters PAUSED. A mark strictly beyond the old T and
not beyond the new one raises MARK; no other flag is raised (R83 to R88). -/
def Obligations.PacingTickAdvancesTheClock : Prop :=
  ∀ (s : State), s.arbiter.clearPending = false →
    (¬((s.run.state = .running ∨ s.run.state = .stepping) ∧ s.clock.starve = false ∧ s.clock.backlog = false ∧
        s.clock.holdLine = false ∧ s.clock.pausedState = false) →
      ∃ t, exec .pacingTick s = .next t ∧ t = { s with arbiter := t.arbiter }) ∧
    (∀ advance new,
      (s.run.state = .running ∨ s.run.state = .stepping) → s.clock.starve = false → s.clock.backlog = false →
      s.clock.holdLine = false → s.clock.pausedState = false →
      advance = (s.clock.frac + s.clock.rate) / 256 →
      new = (match s.clock.direction with
        | .forward => s.clock.time + advance
        | .reverse => s.clock.time - advance) →
      ∃ t, exec .pacingTick s = .next t ∧
        t = { s with
              clock := t.clock
              run := t.run
              watch.flags := t.watch.flags
              sequencer.cueStop := t.sequencer.cueStop
              arbiter := t.arbiter } ∧
        (∀ e, e ≠ .ended → e ≠ .stepDone → e ≠ .mark → t.flag e = s.flag e) ∧
        ((s.clock.direction = .forward ∧ s.clock.endTime - s.clock.time ≤ advance ∨
          s.clock.direction = .reverse ∧ s.clock.time ≤ advance) →
          t.clock = { s.clock with
                      time := (match s.clock.direction with
                        | .forward => s.clock.endTime
                        | .reverse => 0)
                      frac := 0
                      boundary := none } ∧
          t.run = { s.run with state := .ended } ∧ t.sequencer.cueStop = s.sequencer.cueStop ∧
          t.flag .ended = true ∧ t.flag .stepDone = s.flag .stepDone) ∧
        ((s.clock.direction = .forward ∧ advance < s.clock.endTime - s.clock.time ∨
          s.clock.direction = .reverse ∧ advance < s.clock.time) →
          t.flag .ended = s.flag .ended ∧
          (∀ b, s.run.state = .stepping → s.clock.boundary = some b →
            (s.clock.direction = .forward ∧ b ≤ new ∨ s.clock.direction = .reverse ∧ new ≤ b) →
            t.flag .stepDone = true ∧
            (s.panel.stepCondition = true → t.run = s.run ∧ t.sequencer.cueStop = s.sequencer.cueStop ∧
              t.clock = { s.clock with
                          time := b
                          frac := 0
                          boundary := some
                            (match s.clock.direction with
                              | .forward => min (b + s.clock.span) s.clock.endTime
                              | .reverse => b - s.clock.span) }) ∧
            (s.panel.stepCondition = false →
              t.run = { s.run with state := .paused } ∧ t.sequencer.cueStop = false ∧
              t.clock = { s.clock with time := b, frac := 0, boundary := none, pausedState := true })) ∧
          ((s.run.state = .running ∨ s.clock.boundary = none ∨
            (∃ b, s.clock.boundary = some b ∧
              (s.clock.direction = .forward ∧ new < b ∨ s.clock.direction = .reverse ∧ b < new))) →
            t.clock = { s.clock with time := new, frac := (s.clock.frac + s.clock.rate) % 256 } ∧
            t.run = s.run ∧ t.sequencer.cueStop = s.sequencer.cueStop ∧
            t.flag .stepDone = s.flag .stepDone)) ∧
        (t.flag .mark = (s.flag .mark ||
          (match s.clock.mark, s.clock.direction with
            | some m, .forward => decide (s.clock.time < m) && decide (m ≤ t.clock.time)
            | some m, .reverse => decide (m < s.clock.time) && decide (t.clock.time ≤ m)
            | none, _ => false))))

/-- The sample event takes every line's level once: a level that two consecutive samples agree on is taken, a taken
level that moves into the asserted level sets the line's flag and, with its interrupt enable on, CUE_LINE; the first
level taken after a reset is no edge. HOLD_LINE is the HOLD condition of the lines as they then stand (R162, R163,
R164; that a first level forms the HOLD condition too is the model's reading, log 13). A sample with no asserting
edge changes nothing else. With edges, the functions of the asserting lines are taken one after the other by the Run
Controller on the state so sampled, in the order the operand gives and then ascending (the model's choice, log 7),
each line's once. Each is an event of its own: the Sequencer's claim is placed or withdrawn with it, and the arbiter
chooses before the next edge (R70, R111, R127); with one edge the next state is that of its one function (R134,
R163). Two PAUSE_TOGGLE edges in PAUSED on a free store, with an entry then due, leave the run PAUSED and the
Sequencer granted. The function of an asserting edge: STEP in READY and PAUSED begins a step span and in STEPPING
adds one, PAUSE_TOGGLE in RUNNING enters PAUSED and in PAUSED resumes, and every other pair of function and run state
changes nothing (R134). -/
def Obligations.SampleEventsMoveTheRun : Prop :=
  (∀ (levels : Byte) (order : List (Fin 8)) (s : State), s.arbiter.clearPending = false →
     ∃ t, exec (.sampleEvent levels order) s = .next t ∧
       (∀ (n : Fin 8) (level : Bool) (taken : Option Bool) (edge : Bool), level = levels.getLsbD n.val →
         taken = (if (s.panel.cues.get n).lastSample = some level then some level
           else (s.panel.cues.get n).taken) →
         edge = ((s.panel.cues.get n).taken.isSome &&
           (s.panel.cues.get n).taken != some ((s.panel.cues.get n).edge == .rising) &&
           taken == some ((s.panel.cues.get n).edge == .rising)) →
         t.panel.cues.get n =
           { s.panel.cues.get n with
             lastSample := some level, taken := taken, flag := (s.panel.cues.get n).flag || edge } ∧
         (edge = true → (s.panel.cues.get n).intEnable = true → t.flag .cueLine = true)) ∧
       t.clock.holdLine = t.panel.holdCondition ∧ t.panel.indicators = s.panel.indicators ∧
       t.panel.flashActive = s.panel.flashActive ∧ t.store = s.store ∧ t.resolver = s.resolver ∧
       t.link = s.link ∧ t.clock.time = s.clock.time ∧
       ((∀ n : Fin 8, (s.panel.cues.get n).assertsAt (levels.getLsbD n.val) = false) →
         t = { s with panel.cues := t.panel.cues, clock.holdLine := t.clock.holdLine, arbiter := t.arbiter })) ∧
  (∀ (levels : Byte) (order : List (Fin 8)) (s : State) (edges : List (Fin 8)), s.arbiter.clearPending = false →
     edges = (cueOrder order).filter (fun n => (s.panel.cues.get n).assertsAt (levels.getLsbD n.val)) →
     ∃ u,
       u = { s with
             panel.cues := u.panel.cues
             clock.holdLine := u.panel.holdCondition
             watch.flags :=
               if edges.any (fun n => (s.panel.cues.get n).intEnable) then s.watch.flags ||| (1#19 <<< 17)
               else s.watch.flags } ∧
       (∀ n : Fin 8, u.panel.cues.get n =
         { s.panel.cues.get n with
           lastSample := some (levels.getLsbD n.val)
           taken :=
             if (s.panel.cues.get n).lastSample = some (levels.getLsbD n.val) then some (levels.getLsbD n.val)
             else (s.panel.cues.get n).taken
           flag := (s.panel.cues.get n).flag || decide (n ∈ edges) }) ∧
       exec (.sampleEvent levels order) s = .next
         (arbitrate (edges.foldl (fun v n => arbitrate (takeFunction (s.panel.cues.get n).function v)) u)) ∧
       (∀ j k : Fin 8, edges = [j, k] → (s.panel.cues.get j).function = .pauseToggle →
         (s.panel.cues.get k).function = .pauseToggle → s.run.state = .paused → s.arbiter = .free →
         s.resolver.current = none → (enterMoving .running s).sequencerReady = true →
         ∃ t, exec (.sampleEvent levels order) s = .next t ∧ t.run.state = .paused ∧
           t.clock.pausedState = true ∧ t.arbiter = { Arbiter.free with grant := .sequencer }) ∧
       (∀ k : Fin 8,
         (∀ n, (s.panel.cues.get n).assertsAt (levels.getLsbD n.val) = true ↔ n = k) →
         exec (.sampleEvent levels order) s = .next
           (arbitrate (takeFunction (s.panel.cues.get k).function u)))) ∧
  (∀ order : List (Fin 8), (cueOrder order).Nodup ∧ (∀ n, n ∈ cueOrder order) ∧
     (order.Nodup → order <+: cueOrder order)) ∧
  (∀ (c : CueLine) (level : Bool), c.assertsAt level =
     (c.taken.isSome && c.taken != some (c.edge == .rising) &&
       (if c.lastSample = some level then some level else c.taken) == some (c.edge == .rising))) ∧
  (∀ s : State,
     (s.run.state = .ready ∨ s.run.state = .paused →
       takeFunction .step s =
         enterMoving .stepping { s with clock.boundary := some (s.clock.addSpan s.clock.time) }) ∧
     (s.run.state = .stepping →
       takeFunction .step s = { s with clock.boundary := s.clock.boundary.map s.clock.addSpan }) ∧
     (s.run.state = .running → takeFunction .pauseToggle s = enterPaused s) ∧
     (s.run.state = .paused →
       takeFunction .pauseToggle s = enterMoving .running { s with clock.boundary := none }) ∧
     (∀ f, f = .none ∨ f = .hold ∨
         f = .step ∧ s.run.state ≠ .ready ∧ s.run.state ≠ .paused ∧ s.run.state ≠ .stepping ∨
         f = .pauseToggle ∧ s.run.state ≠ .running ∧ s.run.state ≠ .paused →
       takeFunction f s = s))

/-! ### Invariants -/

/-- Every invariant of Safety.lean holds right after hardware reset. -/
def Obligations.InvariantsHoldAtReset : Prop :=
  ClockInv State.reset ∧ ArbiterInv State.reset ∧ WatchInv State.reset ∧ QueueInv State.reset ∧
  FeedInv State.reset ∧ CountsInv State.reset ∧ BufferInv State.reset ∧ ListInv State.reset

/-- Every step keeps the clock's ranges, its boundary with STEPPING, PAUSED_STATE with PAUSED, HOLD_LINE with the
HOLD condition and the cue stop with ENDED (R80, R87, R96, R97, R115). -/
def Obligations.StepsKeepTheClockInvariant : Prop :=
  ∀ s t : State, ClockInv s → step s = .next t → ClockInv t

/-- Every step keeps the counts of the arbiter in their ranges, and 0 while their claims do not wait (R68, R71,
R72). Every step keeps a trip time with exactly the TRIPPED conditions (R145, R148). -/
def Obligations.StepsKeepArbiterAndWatch : Prop :=
  (∀ s t : State, ArbiterInv s → step s = .next t → ArbiterInv t) ∧
  (∀ s t : State, WatchInv s → step s = .next t → WatchInv t)

/-- Every step keeps each effective position the one that R22 derives and at most 64 jobs in the queue, none of them
while no job is in progress (R22, R44, R45). -/
def Obligations.StepsKeepTheQueueInvariant : Prop :=
  ∀ s t : State, QueueInv s → step s = .next t → QueueInv t

/-- Every step keeps the canonical form of the tables and every existing island LIVE exactly while its online-source
count is at least 1 (R40). Every step keeps the device counts equal to what the island table gives, outside RESTORING
(R42): as many live islands as existing islands are LIVE, dead nodes the sum of the member counts of the DEAD islands
and dead loads the sum of their load counts (R13, R42). The counts are formed anew from the table (the model's
choice, log 21). -/
def Obligations.StepsKeepIslandsAndCounts : Prop :=
  (∀ s t : State, FeedInv s → step s = .next t → FeedInv t) ∧
  (∀ s t : State, CountsInv s → step s = .next t → CountsInv t) ∧
  (∀ (st : Store) (existing dead : List Island), st.canonical = true →
    existing = (List.range 4096).filterMap (fun k => st.island k) →
    dead = existing.filter (fun b => decide (b.feed = .dead)) →
    st.tally.live = (existing.filter fun b => decide (b.feed = .live)).length ∧
    st.tally.deadNodes = (dead.map (·.memberCount)).sum ∧ st.tally.deadLoads = (dead.map (·.loadCount)).sum)

/-- Every step keeps the batch buffers and the arm order as R98 and R99 describe them, with the frame discipline,
and in BUILD, COMPILING and RESTORING keeps the queue, the buffers and the link free of jobs, entries and loads
(R44, R73, R143). -/
def Obligations.StepsKeepTheBufferInvariant : Prop :=
  ∀ s t : State, BufferInv s → step s = .next t → BufferInv t

/-- Every step keeps the member lists: each existing island has its list, linked through the node records, with its
first and last member, its member count and its online-source and load counts, every node's island id names its
island, and every node of a compiled model has one (R12, R38, R39, R40, R41). The premises are invariants that every
step keeps (StepsKeepIslandsAndCounts, StepsKeepTheBufferInvariant). -/
def Obligations.StepsKeepTheMemberLists : Prop :=
  ∀ s t : State, StoreInv s → BufferInv s → ListInv s → step s = .next t → ListInv t
end

