-- ==== Sys2Proof/Laws/Codec.lean ====
section
/-! SUPPORT. The numbers of the link come back from their bytes, and the bytes from the numbers (R178). -/

namespace Sys2Proof

theorem word16_bytes (w : U16) : word16 (w.extractLsb' 8 8) (w.extractLsb' 0 8) = w := by
  apply BitVec.eq_of_getLsbD_eq
  intro i hi
  rw [word16, BitVec.getLsbD_append]
  split
  · simp [*]
  · simp only [BitVec.getLsbD_extractLsb']
    rw [show 8 + (i - 8) = i by omega]
    simp; intro; omega

theorem word24_bytes (w : U24) :
    word24 (w.extractLsb' 16 8) (w.extractLsb' 8 8) (w.extractLsb' 0 8) = w := by
  apply BitVec.eq_of_getLsbD_eq
  intro i hi
  rw [word24, BitVec.getLsbD_append]
  split
  · simp [*]
  · rw [BitVec.getLsbD_append]
    split
    · simp only [BitVec.getLsbD_extractLsb']
      rw [show 8 + (i - 8) = i by omega]
      simp; intro; omega
    · simp only [BitVec.getLsbD_extractLsb']
      rw [show 16 + (i - 8 - 8) = i by omega]
      simp; intro; omega

theorem word32_bytes (w : U32) :
    word32 (w.extractLsb' 24 8) (w.extractLsb' 16 8) (w.extractLsb' 8 8) (w.extractLsb' 0 8) = w := by
  apply BitVec.eq_of_getLsbD_eq
  intro i hi
  rw [word32, BitVec.getLsbD_append]
  split
  · simp [*]
  · rw [BitVec.getLsbD_append]
    split
    · simp only [BitVec.getLsbD_extractLsb']
      rw [show 8 + (i - 8) = i by omega]
      simp; intro; omega
    · rw [BitVec.getLsbD_append]
      split
      · simp only [BitVec.getLsbD_extractLsb']
        rw [show 16 + (i - 8 - 8) = i by omega]
        simp; intro; omega
      · simp only [BitVec.getLsbD_extractLsb']
        rw [show 24 + (i - 8 - 8 - 8) = i by omega]
        simp; intro; omega

theorem bytes16_word (b1 b0 : Byte) : bytes16 (word16 b1 b0) = [b1, b0] := by
  simp only [bytes16, word16, List.cons.injEq, and_true]
  constructor <;> apply BitVec.eq_of_getLsbD_eq <;> intro i hi <;>
    simp only [BitVec.getLsbD_extractLsb', BitVec.getLsbD_append, hi] <;> simp [hi]

theorem bytes24_word (b2 b1 b0 : Byte) : bytes24 (word24 b2 b1 b0) = [b2, b1, b0] := by
  simp only [bytes24, word24, List.cons.injEq, and_true]
  refine ⟨?_, ?_, ?_⟩ <;> apply BitVec.eq_of_getLsbD_eq <;> intro i hi <;>
    simp only [BitVec.getLsbD_extractLsb', BitVec.getLsbD_append, hi] <;>
    simp [hi, show ¬16 + i < 8 by omega, show 16 + i - 8 = 8 + i by omega]

theorem bytes32_word (b3 b2 b1 b0 : Byte) : bytes32 (word32 b3 b2 b1 b0) = [b3, b2, b1, b0] := by
  simp only [bytes32, word32, List.cons.injEq, and_true]
  refine ⟨?_, ?_, ?_, ?_⟩ <;> apply BitVec.eq_of_getLsbD_eq <;> intro i hi <;>
    simp only [BitVec.getLsbD_extractLsb', BitVec.getLsbD_append, hi] <;>
    simp [hi, show ¬16 + i < 8 by omega, show 16 + i - 8 = 8 + i by omega, show ¬24 + i < 8 by omega,
      show 24 + i - 8 = 16 + i by omega]

end Sys2Proof
end

