-- ==== Sys2Proof/Laws/State.lean ====
section
/-! SUPPORT. What each plain update of State leaves of every field: one lemma per field per update, true by
computation, so that no later proof unfolds a record update. -/

namespace Sys2Proof.Machine

variable (s : State)

/-! ### answer -/

@[simp] theorem answer_store (st : Status) (data : List Byte) : (answer st data s).store = s.store := rfl
@[simp] theorem answer_policy (st : Status) (data : List Byte) : (answer st data s).policy = s.policy := rfl
@[simp] theorem answer_resolver (st : Status) (data : List Byte) : (answer st data s).resolver = s.resolver := rfl
@[simp] theorem answer_arbiter (st : Status) (data : List Byte) : (answer st data s).arbiter = s.arbiter := rfl
@[simp] theorem answer_clock (st : Status) (data : List Byte) : (answer st data s).clock = s.clock := rfl
@[simp] theorem answer_sequencer (st : Status) (data : List Byte) : (answer st data s).sequencer = s.sequencer := rfl
@[simp] theorem answer_run (st : Status) (data : List Byte) : (answer st data s).run = s.run := rfl
@[simp] theorem answer_watch (st : Status) (data : List Byte) : (answer st data s).watch = s.watch := rfl
@[simp] theorem answer_panel (st : Status) (data : List Byte) : (answer st data s).panel = s.panel := rfl
@[simp] theorem answer_pending (st : Status) (data : List Byte) : (answer st data s).pending = s.pending := rfl

/-! ### raise -/

@[simp] theorem raise_store (e : Event) : (raise e s).store = s.store := rfl
@[simp] theorem raise_policy (e : Event) : (raise e s).policy = s.policy := rfl
@[simp] theorem raise_resolver (e : Event) : (raise e s).resolver = s.resolver := rfl
@[simp] theorem raise_arbiter (e : Event) : (raise e s).arbiter = s.arbiter := rfl
@[simp] theorem raise_clock (e : Event) : (raise e s).clock = s.clock := rfl
@[simp] theorem raise_sequencer (e : Event) : (raise e s).sequencer = s.sequencer := rfl
@[simp] theorem raise_run (e : Event) : (raise e s).run = s.run := rfl
@[simp] theorem raise_panel (e : Event) : (raise e s).panel = s.panel := rfl
@[simp] theorem raise_link (e : Event) : (raise e s).link = s.link := rfl
@[simp] theorem raise_pending (e : Event) : (raise e s).pending = s.pending := rfl

/-! ### setCondition -/

@[simp] theorem setCondition_store (n : Fin 4) (w : Watch) : (setCondition n w s).store = s.store := rfl
@[simp] theorem setCondition_policy (n : Fin 4) (w : Watch) : (setCondition n w s).policy = s.policy := rfl
@[simp] theorem setCondition_resolver (n : Fin 4) (w : Watch) : (setCondition n w s).resolver = s.resolver := rfl
@[simp] theorem setCondition_arbiter (n : Fin 4) (w : Watch) : (setCondition n w s).arbiter = s.arbiter := rfl
@[simp] theorem setCondition_clock (n : Fin 4) (w : Watch) : (setCondition n w s).clock = s.clock := rfl
@[simp] theorem setCondition_sequencer (n : Fin 4) (w : Watch) : (setCondition n w s).sequencer = s.sequencer := rfl
@[simp] theorem setCondition_run (n : Fin 4) (w : Watch) : (setCondition n w s).run = s.run := rfl
@[simp] theorem setCondition_panel (n : Fin 4) (w : Watch) : (setCondition n w s).panel = s.panel := rfl
@[simp] theorem setCondition_link (n : Fin 4) (w : Watch) : (setCondition n w s).link = s.link := rfl
@[simp] theorem setCondition_pending (n : Fin 4) (w : Watch) : (setCondition n w s).pending = s.pending := rfl

/-! ### refreshHold -/

@[simp] theorem refreshHold_store : (refreshHold s).store = s.store := rfl
@[simp] theorem refreshHold_policy : (refreshHold s).policy = s.policy := rfl
@[simp] theorem refreshHold_resolver : (refreshHold s).resolver = s.resolver := rfl
@[simp] theorem refreshHold_arbiter : (refreshHold s).arbiter = s.arbiter := rfl
@[simp] theorem refreshHold_sequencer : (refreshHold s).sequencer = s.sequencer := rfl
@[simp] theorem refreshHold_run : (refreshHold s).run = s.run := rfl
@[simp] theorem refreshHold_watch : (refreshHold s).watch = s.watch := rfl
@[simp] theorem refreshHold_panel : (refreshHold s).panel = s.panel := rfl
@[simp] theorem refreshHold_link : (refreshHold s).link = s.link := rfl
@[simp] theorem refreshHold_pending : (refreshHold s).pending = s.pending := rfl

/-! ### rewindClock -/

@[simp] theorem rewindClock_store : (rewindClock s).store = s.store := rfl
@[simp] theorem rewindClock_policy : (rewindClock s).policy = s.policy := rfl
@[simp] theorem rewindClock_resolver : (rewindClock s).resolver = s.resolver := rfl
@[simp] theorem rewindClock_arbiter : (rewindClock s).arbiter = s.arbiter := rfl
@[simp] theorem rewindClock_sequencer : (rewindClock s).sequencer = s.sequencer := rfl
@[simp] theorem rewindClock_run : (rewindClock s).run = s.run := rfl
@[simp] theorem rewindClock_watch : (rewindClock s).watch = s.watch := rfl
@[simp] theorem rewindClock_panel : (rewindClock s).panel = s.panel := rfl
@[simp] theorem rewindClock_link : (rewindClock s).link = s.link := rfl
@[simp] theorem rewindClock_pending : (rewindClock s).pending = s.pending := rfl

/-! ### answerLate -/

@[simp] theorem answerLate_store (r : LateRead) : (answerLate r s).store = s.store := rfl
@[simp] theorem answerLate_policy (r : LateRead) : (answerLate r s).policy = s.policy := rfl
@[simp] theorem answerLate_resolver (r : LateRead) : (answerLate r s).resolver = s.resolver := rfl
@[simp] theorem answerLate_arbiter (r : LateRead) : (answerLate r s).arbiter = s.arbiter := rfl
@[simp] theorem answerLate_clock (r : LateRead) : (answerLate r s).clock = s.clock := rfl
@[simp] theorem answerLate_sequencer (r : LateRead) : (answerLate r s).sequencer = s.sequencer := rfl
@[simp] theorem answerLate_run (r : LateRead) : (answerLate r s).run = s.run := rfl
@[simp] theorem answerLate_watch (r : LateRead) : (answerLate r s).watch = s.watch := rfl
@[simp] theorem answerLate_panel (r : LateRead) : (answerLate r s).panel = s.panel := rfl
@[simp] theorem answerLate_pending (r : LateRead) : (answerLate r s).pending = s.pending := rfl

/-! ### withdrawSequencer -/

@[simp] theorem withdrawSequencer_store : (withdrawSequencer s).store = s.store := rfl
@[simp] theorem withdrawSequencer_policy : (withdrawSequencer s).policy = s.policy := rfl
@[simp] theorem withdrawSequencer_resolver : (withdrawSequencer s).resolver = s.resolver := rfl
@[simp] theorem withdrawSequencer_clock : (withdrawSequencer s).clock = s.clock := rfl
@[simp] theorem withdrawSequencer_sequencer : (withdrawSequencer s).sequencer = s.sequencer := rfl
@[simp] theorem withdrawSequencer_run : (withdrawSequencer s).run = s.run := rfl
@[simp] theorem withdrawSequencer_watch : (withdrawSequencer s).watch = s.watch := rfl
@[simp] theorem withdrawSequencer_panel : (withdrawSequencer s).panel = s.panel := rfl
@[simp] theorem withdrawSequencer_link : (withdrawSequencer s).link = s.link := rfl
@[simp] theorem withdrawSequencer_pending : (withdrawSequencer s).pending = s.pending := rfl

/-! ### enterPaused -/

@[simp] theorem enterPaused_store : (enterPaused s).store = s.store := rfl
@[simp] theorem enterPaused_policy : (enterPaused s).policy = s.policy := rfl
@[simp] theorem enterPaused_resolver : (enterPaused s).resolver = s.resolver := rfl
@[simp] theorem enterPaused_watch : (enterPaused s).watch = s.watch := rfl
@[simp] theorem enterPaused_panel : (enterPaused s).panel = s.panel := rfl
@[simp] theorem enterPaused_link : (enterPaused s).link = s.link := rfl
@[simp] theorem enterPaused_pending : (enterPaused s).pending = s.pending := rfl

/-! ### captureEvents -/

@[simp] theorem captureEvents_store : (captureEvents s).store = s.store := rfl
@[simp] theorem captureEvents_policy : (captureEvents s).policy = s.policy := rfl
@[simp] theorem captureEvents_resolver : (captureEvents s).resolver = s.resolver := rfl
@[simp] theorem captureEvents_arbiter : (captureEvents s).arbiter = s.arbiter := rfl
@[simp] theorem captureEvents_clock : (captureEvents s).clock = s.clock := rfl
@[simp] theorem captureEvents_sequencer : (captureEvents s).sequencer = s.sequencer := rfl
@[simp] theorem captureEvents_run : (captureEvents s).run = s.run := rfl
@[simp] theorem captureEvents_panel : (captureEvents s).panel = s.panel := rfl
@[simp] theorem captureEvents_pending : (captureEvents s).pending = s.pending := rfl

/-! ### refreshClaims -/

@[simp] theorem refreshClaims_store : (refreshClaims s).store = s.store := rfl
@[simp] theorem refreshClaims_policy : (refreshClaims s).policy = s.policy := rfl
@[simp] theorem refreshClaims_resolver : (refreshClaims s).resolver = s.resolver := rfl
@[simp] theorem refreshClaims_clock : (refreshClaims s).clock = s.clock := rfl
@[simp] theorem refreshClaims_sequencer : (refreshClaims s).sequencer = s.sequencer := rfl
@[simp] theorem refreshClaims_run : (refreshClaims s).run = s.run := rfl
@[simp] theorem refreshClaims_watch : (refreshClaims s).watch = s.watch := rfl
@[simp] theorem refreshClaims_panel : (refreshClaims s).panel = s.panel := rfl
@[simp] theorem refreshClaims_link : (refreshClaims s).link = s.link := rfl
@[simp] theorem refreshClaims_pending : (refreshClaims s).pending = s.pending := rfl

/-! ### releaseGrant -/

@[simp] theorem releaseGrant_store : (releaseGrant s).store = s.store := rfl
@[simp] theorem releaseGrant_policy : (releaseGrant s).policy = s.policy := rfl
@[simp] theorem releaseGrant_resolver : (releaseGrant s).resolver = s.resolver := rfl
@[simp] theorem releaseGrant_clock : (releaseGrant s).clock = s.clock := rfl
@[simp] theorem releaseGrant_sequencer : (releaseGrant s).sequencer = s.sequencer := rfl
@[simp] theorem releaseGrant_run : (releaseGrant s).run = s.run := rfl
@[simp] theorem releaseGrant_watch : (releaseGrant s).watch = s.watch := rfl
@[simp] theorem releaseGrant_panel : (releaseGrant s).panel = s.panel := rfl
@[simp] theorem releaseGrant_link : (releaseGrant s).link = s.link := rfl
@[simp] theorem releaseGrant_pending : (releaseGrant s).pending = s.pending := rfl

/-! ### report -/

@[simp] theorem report_store : (report s).store = s.store := rfl
@[simp] theorem report_policy : (report s).policy = s.policy := rfl
@[simp] theorem report_resolver : (report s).resolver = s.resolver := rfl
@[simp] theorem report_arbiter : (report s).arbiter = s.arbiter := rfl
@[simp] theorem report_clock : (report s).clock = s.clock := rfl
@[simp] theorem report_sequencer : (report s).sequencer = s.sequencer := rfl
@[simp] theorem report_run : (report s).run = s.run := rfl
@[simp] theorem report_watch : (report s).watch = s.watch := rfl
@[simp] theorem report_link : (report s).link = s.link := rfl
@[simp] theorem report_pending : (report s).pending = s.pending := rfl

/-! ### followNone -/

@[simp] theorem followNone_store : (followNone s).store = s.store := rfl
@[simp] theorem followNone_policy : (followNone s).policy = s.policy := rfl
@[simp] theorem followNone_resolver : (followNone s).resolver = s.resolver := rfl
@[simp] theorem followNone_arbiter : (followNone s).arbiter = s.arbiter := rfl
@[simp] theorem followNone_clock : (followNone s).clock = s.clock := rfl
@[simp] theorem followNone_sequencer : (followNone s).sequencer = s.sequencer := rfl
@[simp] theorem followNone_run : (followNone s).run = s.run := rfl
@[simp] theorem followNone_watch : (followNone s).watch = s.watch := rfl
@[simp] theorem followNone_link : (followNone s).link = s.link := rfl
@[simp] theorem followNone_pending : (followNone s).pending = s.pending := rfl

/-! ### commitStore -/

@[simp] theorem commitStore_policy (st : Store) : (commitStore st s).policy = s.policy := rfl
@[simp] theorem commitStore_arbiter (st : Store) : (commitStore st s).arbiter = s.arbiter := rfl
@[simp] theorem commitStore_clock (st : Store) : (commitStore st s).clock = s.clock := rfl
@[simp] theorem commitStore_sequencer (st : Store) : (commitStore st s).sequencer = s.sequencer := rfl
@[simp] theorem commitStore_run (st : Store) : (commitStore st s).run = s.run := rfl
@[simp] theorem commitStore_watch (st : Store) : (commitStore st s).watch = s.watch := rfl
@[simp] theorem commitStore_panel (st : Store) : (commitStore st s).panel = s.panel := rfl
@[simp] theorem commitStore_link (st : Store) : (commitStore st s).link = s.link := rfl
@[simp] theorem commitStore_pending (st : Store) : (commitStore st s).pending = s.pending := rfl

/-! ### continueJob -/

@[simp] theorem continueJob_store (j : JobInProgress) : (continueJob j s).store = s.store := rfl
@[simp] theorem continueJob_policy (j : JobInProgress) : (continueJob j s).policy = s.policy := rfl
@[simp] theorem continueJob_arbiter (j : JobInProgress) : (continueJob j s).arbiter = s.arbiter := rfl
@[simp] theorem continueJob_clock (j : JobInProgress) : (continueJob j s).clock = s.clock := rfl
@[simp] theorem continueJob_sequencer (j : JobInProgress) : (continueJob j s).sequencer = s.sequencer := rfl
@[simp] theorem continueJob_run (j : JobInProgress) : (continueJob j s).run = s.run := rfl
@[simp] theorem continueJob_watch (j : JobInProgress) : (continueJob j s).watch = s.watch := rfl
@[simp] theorem continueJob_panel (j : JobInProgress) : (continueJob j s).panel = s.panel := rfl
@[simp] theorem continueJob_link (j : JobInProgress) : (continueJob j s).link = s.link := rfl
@[simp] theorem continueJob_pending (j : JobInProgress) : (continueJob j s).pending = s.pending := rfl

/-! ### setCue -/

@[simp] theorem setCue_store (n : Fin 8) (c : CueLine) : (setCue n c s).store = s.store := rfl
@[simp] theorem setCue_policy (n : Fin 8) (c : CueLine) : (setCue n c s).policy = s.policy := rfl
@[simp] theorem setCue_resolver (n : Fin 8) (c : CueLine) : (setCue n c s).resolver = s.resolver := rfl
@[simp] theorem setCue_arbiter (n : Fin 8) (c : CueLine) : (setCue n c s).arbiter = s.arbiter := rfl
@[simp] theorem setCue_clock (n : Fin 8) (c : CueLine) : (setCue n c s).clock = s.clock := rfl
@[simp] theorem setCue_sequencer (n : Fin 8) (c : CueLine) : (setCue n c s).sequencer = s.sequencer := rfl
@[simp] theorem setCue_run (n : Fin 8) (c : CueLine) : (setCue n c s).run = s.run := rfl
@[simp] theorem setCue_watch (n : Fin 8) (c : CueLine) : (setCue n c s).watch = s.watch := rfl
@[simp] theorem setCue_link (n : Fin 8) (c : CueLine) : (setCue n c s).link = s.link := rfl
@[simp] theorem setCue_pending (n : Fin 8) (c : CueLine) : (setCue n c s).pending = s.pending := rfl

/-! ### setIndicatorLine -/

@[simp] theorem setIndicatorLine_store (n : Fin 16) (l : Indicator) : (setIndicatorLine n l s).store = s.store := rfl
@[simp] theorem setIndicatorLine_policy (n : Fin 16) (l : Indicator) : (setIndicatorLine n l s).policy = s.policy := rfl
@[simp] theorem setIndicatorLine_resolver (n : Fin 16) (l : Indicator) : (setIndicatorLine n l s).resolver = s.resolver := rfl
@[simp] theorem setIndicatorLine_arbiter (n : Fin 16) (l : Indicator) : (setIndicatorLine n l s).arbiter = s.arbiter := rfl
@[simp] theorem setIndicatorLine_clock (n : Fin 16) (l : Indicator) : (setIndicatorLine n l s).clock = s.clock := rfl
@[simp] theorem setIndicatorLine_sequencer (n : Fin 16) (l : Indicator) : (setIndicatorLine n l s).sequencer = s.sequencer := rfl
@[simp] theorem setIndicatorLine_run (n : Fin 16) (l : Indicator) : (setIndicatorLine n l s).run = s.run := rfl
@[simp] theorem setIndicatorLine_watch (n : Fin 16) (l : Indicator) : (setIndicatorLine n l s).watch = s.watch := rfl
@[simp] theorem setIndicatorLine_link (n : Fin 16) (l : Indicator) : (setIndicatorLine n l s).link = s.link := rfl
@[simp] theorem setIndicatorLine_pending (n : Fin 16) (l : Indicator) : (setIndicatorLine n l s).pending = s.pending := rfl

/-! ### refuseLoad -/

@[simp] theorem refuseLoad_store (st : Status) : (refuseLoad st s).store = s.store := rfl
@[simp] theorem refuseLoad_policy (st : Status) : (refuseLoad st s).policy = s.policy := rfl
@[simp] theorem refuseLoad_resolver (st : Status) : (refuseLoad st s).resolver = s.resolver := rfl
@[simp] theorem refuseLoad_arbiter (st : Status) : (refuseLoad st s).arbiter = s.arbiter := rfl
@[simp] theorem refuseLoad_clock (st : Status) : (refuseLoad st s).clock = s.clock := rfl
@[simp] theorem refuseLoad_sequencer (st : Status) : (refuseLoad st s).sequencer = s.sequencer := rfl
@[simp] theorem refuseLoad_run (st : Status) : (refuseLoad st s).run = s.run := rfl
@[simp] theorem refuseLoad_watch (st : Status) : (refuseLoad st s).watch = s.watch := rfl
@[simp] theorem refuseLoad_panel (st : Status) : (refuseLoad st s).panel = s.panel := rfl
@[simp] theorem refuseLoad_pending (st : Status) : (refuseLoad st s).pending = s.pending := rfl

/-! ### latchCode -/

@[simp] theorem latchCode_store (code : Byte) : (latchCode code s).store = s.store := rfl
@[simp] theorem latchCode_policy (code : Byte) : (latchCode code s).policy = s.policy := rfl
@[simp] theorem latchCode_resolver (code : Byte) : (latchCode code s).resolver = s.resolver := rfl
@[simp] theorem latchCode_arbiter (code : Byte) : (latchCode code s).arbiter = s.arbiter := rfl
@[simp] theorem latchCode_clock (code : Byte) : (latchCode code s).clock = s.clock := rfl
@[simp] theorem latchCode_sequencer (code : Byte) : (latchCode code s).sequencer = s.sequencer := rfl
@[simp] theorem latchCode_run (code : Byte) : (latchCode code s).run = s.run := rfl
@[simp] theorem latchCode_watch (code : Byte) : (latchCode code s).watch = s.watch := rfl
@[simp] theorem latchCode_panel (code : Byte) : (latchCode code s).panel = s.panel := rfl
@[simp] theorem latchCode_pending (code : Byte) : (latchCode code s).pending = s.pending := rfl

/-! ### latchArgument -/

@[simp] theorem latchArgument_store (byte : Byte) : (latchArgument byte s).store = s.store := rfl
@[simp] theorem latchArgument_policy (byte : Byte) : (latchArgument byte s).policy = s.policy := rfl
@[simp] theorem latchArgument_resolver (byte : Byte) : (latchArgument byte s).resolver = s.resolver := rfl
@[simp] theorem latchArgument_arbiter (byte : Byte) : (latchArgument byte s).arbiter = s.arbiter := rfl
@[simp] theorem latchArgument_clock (byte : Byte) : (latchArgument byte s).clock = s.clock := rfl
@[simp] theorem latchArgument_sequencer (byte : Byte) : (latchArgument byte s).sequencer = s.sequencer := rfl
@[simp] theorem latchArgument_run (byte : Byte) : (latchArgument byte s).run = s.run := rfl
@[simp] theorem latchArgument_watch (byte : Byte) : (latchArgument byte s).watch = s.watch := rfl
@[simp] theorem latchArgument_panel (byte : Byte) : (latchArgument byte s).panel = s.panel := rfl
@[simp] theorem latchArgument_pending (byte : Byte) : (latchArgument byte s).pending = s.pending := rfl

/-! ### flashPhaseTurn -/

@[simp] theorem flashPhaseTurn_store : (flashPhaseTurn s).store = s.store := rfl
@[simp] theorem flashPhaseTurn_policy : (flashPhaseTurn s).policy = s.policy := rfl
@[simp] theorem flashPhaseTurn_resolver : (flashPhaseTurn s).resolver = s.resolver := rfl
@[simp] theorem flashPhaseTurn_arbiter : (flashPhaseTurn s).arbiter = s.arbiter := rfl
@[simp] theorem flashPhaseTurn_clock : (flashPhaseTurn s).clock = s.clock := rfl
@[simp] theorem flashPhaseTurn_sequencer : (flashPhaseTurn s).sequencer = s.sequencer := rfl
@[simp] theorem flashPhaseTurn_run : (flashPhaseTurn s).run = s.run := rfl
@[simp] theorem flashPhaseTurn_watch : (flashPhaseTurn s).watch = s.watch := rfl
@[simp] theorem flashPhaseTurn_link : (flashPhaseTurn s).link = s.link := rfl
@[simp] theorem flashPhaseTurn_pending : (flashPhaseTurn s).pending = s.pending := rfl

/-! ### extendStep -/

@[simp] theorem extendStep_store : (extendStep s).store = s.store := rfl
@[simp] theorem extendStep_policy : (extendStep s).policy = s.policy := rfl
@[simp] theorem extendStep_resolver : (extendStep s).resolver = s.resolver := rfl
@[simp] theorem extendStep_arbiter : (extendStep s).arbiter = s.arbiter := rfl
@[simp] theorem extendStep_sequencer : (extendStep s).sequencer = s.sequencer := rfl
@[simp] theorem extendStep_run : (extendStep s).run = s.run := rfl
@[simp] theorem extendStep_watch : (extendStep s).watch = s.watch := rfl
@[simp] theorem extendStep_panel : (extendStep s).panel = s.panel := rfl
@[simp] theorem extendStep_link : (extendStep s).link = s.link := rfl
@[simp] theorem extendStep_pending : (extendStep s).pending = s.pending := rfl

/-! ### The fields that an update writes -/

@[simp] theorem answer_frame (st : Status) (data : List Byte) : (answer st data s).link.frame = .status := rfl
@[simp] theorem answer_taken (st : Status) (data : List Byte) : (answer st data s).link.taken = none := rfl
@[simp] theorem answer_reply (st : Status) (data : List Byte) :
    (answer st data s).link.reply = replyBytes s.link.frameCheck st data := rfl
@[simp] theorem answer_load (st : Status) (data : List Byte) : (answer st data s).link.load = s.link.load := rfl
@[simp] theorem answer_stream (st : Status) (data : List Byte) :
    (answer st data s).link.stream = s.link.stream := rfl
@[simp] theorem answerLate_frame (r : LateRead) : (answerLate r s).link.frame = .status := rfl
@[simp] theorem answerLate_taken (r : LateRead) : (answerLate r s).link.taken = none := rfl
@[simp] theorem answerLate_late (r : LateRead) : (answerLate r s).link.late = some r := rfl
@[simp] theorem answerLate_reply (r : LateRead) : (answerLate r s).link.reply = [Status.ok.code] := rfl
@[simp] theorem answerLate_load (r : LateRead) : (answerLate r s).link.load = s.link.load := rfl
@[simp] theorem answerLate_stream (r : LateRead) : (answerLate r s).link.stream = s.link.stream := rfl
@[simp] theorem captureEvents_flags : (captureEvents s).watch.flags = 0 := rfl
@[simp] theorem captureEvents_captured : (captureEvents s).link.captured = some s.watch.flags := rfl
@[simp] theorem withdrawSequencer_grant : (withdrawSequencer s).arbiter.grant = s.arbiter.grant := rfl
@[simp] theorem withdrawSequencer_wait : (withdrawSequencer s).arbiter.sequencerWait = 0 := rfl
@[simp] theorem withdrawSequencer_claim : (withdrawSequencer s).arbiter.sequencerClaim = false := rfl
@[simp] theorem enterPaused_grant : (enterPaused s).arbiter.grant = s.arbiter.grant := rfl
@[simp] theorem enterPaused_sequencerWait : (enterPaused s).arbiter.sequencerWait = 0 := rfl
@[simp] theorem enterPaused_sequencerClaim : (enterPaused s).arbiter.sequencerClaim = false := rfl
@[simp] theorem raise_flags (e : Event) :
    (raise e s).watch.flags = s.watch.flags ||| (1#19 <<< e.bit) := rfl
@[simp] theorem raise_conditions (e : Event) : (raise e s).watch.conditions = s.watch.conditions := rfl
@[simp] theorem raise_enables (e : Event) : (raise e s).watch.enables = s.watch.enables := rfl
@[simp] theorem setCondition_conditions (n : Fin 4) (w : Watch) :
    (setCondition n w s).watch.conditions = s.watch.conditions.set n.val w n.isLt := rfl
@[simp] theorem setCondition_flags (n : Fin 4) (w : Watch) :
    (setCondition n w s).watch.flags = s.watch.flags := rfl
@[simp] theorem refreshHold_holdLine : (refreshHold s).clock.holdLine = s.panel.holdCondition := rfl
@[simp] theorem rewindClock_time : (rewindClock s).clock.time = 0 := rfl
@[simp] theorem rewindClock_boundary : (rewindClock s).clock.boundary = none := rfl
@[simp] theorem enterPaused_state : (enterPaused s).run.state = .paused := rfl
@[simp] theorem enterPaused_boundary : (enterPaused s).clock.boundary = none := rfl
@[simp] theorem enterPaused_pausedState : (enterPaused s).clock.pausedState = true := rfl
@[simp] theorem releaseGrant_grant : (releaseGrant s).arbiter.grant = .none := rfl
@[simp] theorem refreshClaims_grant : (refreshClaims s).arbiter.grant = s.arbiter.grant := rfl
@[simp] theorem refreshClaims_linkClaim : (refreshClaims s).arbiter.linkClaim = s.arbiter.linkClaim := rfl
@[simp] theorem refreshClaims_clearPending :
    (refreshClaims s).arbiter.clearPending = s.arbiter.clearPending := rfl
@[simp] theorem commitStore_queue (st : Store) : (commitStore st s).resolver.queue = s.resolver.queue := rfl
@[simp] theorem commitStore_counts (st : Store) : (commitStore st s).resolver.counts = st.tally := rfl
@[simp] theorem setBuffer_buffer (n : BufferName) (b : Buffer) : (setBuffer n b s).sequencer.buffer n = b := by
  cases n <;> rfl
@[simp] theorem setBuffer_other (n m : BufferName) (b : Buffer) (h : m ≠ n) :
    (setBuffer n b s).sequencer.buffer m = s.sequencer.buffer m := by
  cases n <;> cases m <;> first | rfl | exact absurd rfl h

/-! ### setBuffer writes one buffer -/

@[simp] theorem setBuffer_store (n : BufferName) (b : Buffer) : (setBuffer n b s).store = s.store := by
  cases n <;> rfl
@[simp] theorem setBuffer_policy (n : BufferName) (b : Buffer) : (setBuffer n b s).policy = s.policy := by
  cases n <;> rfl
@[simp] theorem setBuffer_resolver (n : BufferName) (b : Buffer) : (setBuffer n b s).resolver = s.resolver := by
  cases n <;> rfl
@[simp] theorem setBuffer_arbiter (n : BufferName) (b : Buffer) : (setBuffer n b s).arbiter = s.arbiter := by
  cases n <;> rfl
@[simp] theorem setBuffer_clock (n : BufferName) (b : Buffer) : (setBuffer n b s).clock = s.clock := by
  cases n <;> rfl
@[simp] theorem setBuffer_run (n : BufferName) (b : Buffer) : (setBuffer n b s).run = s.run := by
  cases n <;> rfl
@[simp] theorem setBuffer_watch (n : BufferName) (b : Buffer) : (setBuffer n b s).watch = s.watch := by
  cases n <;> rfl
@[simp] theorem setBuffer_panel (n : BufferName) (b : Buffer) : (setBuffer n b s).panel = s.panel := by
  cases n <;> rfl
@[simp] theorem setBuffer_link (n : BufferName) (b : Buffer) : (setBuffer n b s).link = s.link := by
  cases n <;> rfl
@[simp] theorem setBuffer_pending (n : BufferName) (b : Buffer) : (setBuffer n b s).pending = s.pending := by
  cases n <;> rfl
@[simp] theorem setBuffer_armOrder (n : BufferName) (b : Buffer) :
    (setBuffer n b s).sequencer.armOrder = s.sequencer.armOrder := by cases n <;> rfl
@[simp] theorem setBuffer_cueStop (n : BufferName) (b : Buffer) :
    (setBuffer n b s).sequencer.cueStop = s.sequencer.cueStop := by cases n <;> rfl
@[simp] theorem setBuffer_stats (n : BufferName) (b : Buffer) :
    (setBuffer n b s).sequencer.stats = s.sequencer.stats := by cases n <;> rfl

end Sys2Proof.Machine
end

