-- ==== Sys2Proof/Laws/Frames.lean ====
section
/-! SUPPORT. What each branching operation leaves alone: one lemma per operation and field it does not write, for
every state. -/

namespace Sys2Proof.Machine

variable (s : State)

/-! ### evaluate -/

@[simp] theorem evaluate_store (n : Fin 4) : (evaluate n s).store = s.store := by
  unfold evaluate; dsimp only; split <;> simp
@[simp] theorem evaluate_policy (n : Fin 4) : (evaluate n s).policy = s.policy := by
  unfold evaluate; dsimp only; split <;> simp
@[simp] theorem evaluate_resolver (n : Fin 4) : (evaluate n s).resolver = s.resolver := by
  unfold evaluate; dsimp only; split <;> simp
@[simp] theorem evaluate_arbiter (n : Fin 4) : (evaluate n s).arbiter = s.arbiter := by
  unfold evaluate; dsimp only; split <;> simp
@[simp] theorem evaluate_clock (n : Fin 4) : (evaluate n s).clock = s.clock := by
  unfold evaluate; dsimp only; split <;> simp
@[simp] theorem evaluate_sequencer (n : Fin 4) : (evaluate n s).sequencer = s.sequencer := by
  unfold evaluate; dsimp only; split <;> simp
@[simp] theorem evaluate_run (n : Fin 4) : (evaluate n s).run = s.run := by
  unfold evaluate; dsimp only; split <;> simp
@[simp] theorem evaluate_panel (n : Fin 4) : (evaluate n s).panel = s.panel := by
  unfold evaluate; dsimp only; split <;> simp
@[simp] theorem evaluate_link (n : Fin 4) : (evaluate n s).link = s.link := by
  unfold evaluate; dsimp only; split <;> simp
@[simp] theorem evaluate_pending (n : Fin 4) : (evaluate n s).pending = s.pending := by
  unfold evaluate; dsimp only; split <;> simp

/-! ### handOver -/

@[simp] theorem handOver_store (q : Quantity) : (handOver q s).store = s.store := by
  unfold handOver
  generalize conditionOrder = l
  induction l generalizing s with
  | nil => rfl
  | cons a l ih =>
    rw [List.foldl_cons, ih]
    split <;> simp
@[simp] theorem handOver_policy (q : Quantity) : (handOver q s).policy = s.policy := by
  unfold handOver
  generalize conditionOrder = l
  induction l generalizing s with
  | nil => rfl
  | cons a l ih =>
    rw [List.foldl_cons, ih]
    split <;> simp
@[simp] theorem handOver_resolver (q : Quantity) : (handOver q s).resolver = s.resolver := by
  unfold handOver
  generalize conditionOrder = l
  induction l generalizing s with
  | nil => rfl
  | cons a l ih =>
    rw [List.foldl_cons, ih]
    split <;> simp
@[simp] theorem handOver_arbiter (q : Quantity) : (handOver q s).arbiter = s.arbiter := by
  unfold handOver
  generalize conditionOrder = l
  induction l generalizing s with
  | nil => rfl
  | cons a l ih =>
    rw [List.foldl_cons, ih]
    split <;> simp
@[simp] theorem handOver_clock (q : Quantity) : (handOver q s).clock = s.clock := by
  unfold handOver
  generalize conditionOrder = l
  induction l generalizing s with
  | nil => rfl
  | cons a l ih =>
    rw [List.foldl_cons, ih]
    split <;> simp
@[simp] theorem handOver_sequencer (q : Quantity) : (handOver q s).sequencer = s.sequencer := by
  unfold handOver
  generalize conditionOrder = l
  induction l generalizing s with
  | nil => rfl
  | cons a l ih =>
    rw [List.foldl_cons, ih]
    split <;> simp
@[simp] theorem handOver_run (q : Quantity) : (handOver q s).run = s.run := by
  unfold handOver
  generalize conditionOrder = l
  induction l generalizing s with
  | nil => rfl
  | cons a l ih =>
    rw [List.foldl_cons, ih]
    split <;> simp
@[simp] theorem handOver_panel (q : Quantity) : (handOver q s).panel = s.panel := by
  unfold handOver
  generalize conditionOrder = l
  induction l generalizing s with
  | nil => rfl
  | cons a l ih =>
    rw [List.foldl_cons, ih]
    split <;> simp
@[simp] theorem handOver_link (q : Quantity) : (handOver q s).link = s.link := by
  unfold handOver
  generalize conditionOrder = l
  induction l generalizing s with
  | nil => rfl
  | cons a l ih =>
    rw [List.foldl_cons, ih]
    split <;> simp
@[simp] theorem handOver_pending (q : Quantity) : (handOver q s).pending = s.pending := by
  unfold handOver
  generalize conditionOrder = l
  induction l generalizing s with
  | nil => rfl
  | cons a l ih =>
    rw [List.foldl_cons, ih]
    split <;> simp

/-! ### handIf -/

@[simp] theorem handIf_store (c : Bool) (q : Quantity) : (handIf c q s).store = s.store := by
  unfold handIf; split <;> simp
@[simp] theorem handIf_policy (c : Bool) (q : Quantity) : (handIf c q s).policy = s.policy := by
  unfold handIf; split <;> simp
@[simp] theorem handIf_resolver (c : Bool) (q : Quantity) : (handIf c q s).resolver = s.resolver := by
  unfold handIf; split <;> simp
@[simp] theorem handIf_arbiter (c : Bool) (q : Quantity) : (handIf c q s).arbiter = s.arbiter := by
  unfold handIf; split <;> simp
@[simp] theorem handIf_clock (c : Bool) (q : Quantity) : (handIf c q s).clock = s.clock := by
  unfold handIf; split <;> simp
@[simp] theorem handIf_sequencer (c : Bool) (q : Quantity) : (handIf c q s).sequencer = s.sequencer := by
  unfold handIf; split <;> simp
@[simp] theorem handIf_run (c : Bool) (q : Quantity) : (handIf c q s).run = s.run := by
  unfold handIf; split <;> simp
@[simp] theorem handIf_panel (c : Bool) (q : Quantity) : (handIf c q s).panel = s.panel := by
  unfold handIf; split <;> simp
@[simp] theorem handIf_link (c : Bool) (q : Quantity) : (handIf c q s).link = s.link := by
  unfold handIf; split <;> simp
@[simp] theorem handIf_pending (c : Bool) (q : Quantity) : (handIf c q s).pending = s.pending := by
  unfold handIf; split <;> simp

/-! ### handCounts -/

@[simp] theorem handCounts_store (before : Counts) : (handCounts before s).store = s.store := by
  simp [handCounts]
@[simp] theorem handCounts_policy (before : Counts) : (handCounts before s).policy = s.policy := by
  simp [handCounts]
@[simp] theorem handCounts_resolver (before : Counts) : (handCounts before s).resolver = s.resolver := by
  simp [handCounts]
@[simp] theorem handCounts_arbiter (before : Counts) : (handCounts before s).arbiter = s.arbiter := by
  simp [handCounts]
@[simp] theorem handCounts_clock (before : Counts) : (handCounts before s).clock = s.clock := by
  simp [handCounts]
@[simp] theorem handCounts_sequencer (before : Counts) : (handCounts before s).sequencer = s.sequencer := by
  simp [handCounts]
@[simp] theorem handCounts_run (before : Counts) : (handCounts before s).run = s.run := by simp [handCounts]
@[simp] theorem handCounts_panel (before : Counts) : (handCounts before s).panel = s.panel := by
  simp [handCounts]
@[simp] theorem handCounts_link (before : Counts) : (handCounts before s).link = s.link := by
  simp [handCounts]
@[simp] theorem handCounts_pending (before : Counts) : (handCounts before s).pending = s.pending := by
  simp [handCounts]

/-! ### handStats -/

@[simp] theorem handStats_store (before : Stats) : (handStats before s).store = s.store := by
  simp [handStats]
@[simp] theorem handStats_policy (before : Stats) : (handStats before s).policy = s.policy := by
  simp [handStats]
@[simp] theorem handStats_resolver (before : Stats) : (handStats before s).resolver = s.resolver := by
  simp [handStats]
@[simp] theorem handStats_arbiter (before : Stats) : (handStats before s).arbiter = s.arbiter := by
  simp [handStats]
@[simp] theorem handStats_clock (before : Stats) : (handStats before s).clock = s.clock := by
  simp [handStats]
@[simp] theorem handStats_sequencer (before : Stats) : (handStats before s).sequencer = s.sequencer := by
  simp [handStats]
@[simp] theorem handStats_run (before : Stats) : (handStats before s).run = s.run := by simp [handStats]
@[simp] theorem handStats_panel (before : Stats) : (handStats before s).panel = s.panel := by
  simp [handStats]
@[simp] theorem handStats_link (before : Stats) : (handStats before s).link = s.link := by simp [handStats]
@[simp] theorem handStats_pending (before : Stats) : (handStats before s).pending = s.pending := by
  simp [handStats]

/-! ### evaluateAll -/

@[simp] theorem evaluateAll_store : (evaluateAll s).store = s.store := by
  unfold evaluateAll
  generalize conditionOrder = l
  induction l generalizing s with
  | nil => rfl
  | cons a l ih => rw [List.foldl_cons, ih]; simp
@[simp] theorem evaluateAll_policy : (evaluateAll s).policy = s.policy := by
  unfold evaluateAll
  generalize conditionOrder = l
  induction l generalizing s with
  | nil => rfl
  | cons a l ih => rw [List.foldl_cons, ih]; simp
@[simp] theorem evaluateAll_resolver : (evaluateAll s).resolver = s.resolver := by
  unfold evaluateAll
  generalize conditionOrder = l
  induction l generalizing s with
  | nil => rfl
  | cons a l ih => rw [List.foldl_cons, ih]; simp
@[simp] theorem evaluateAll_arbiter : (evaluateAll s).arbiter = s.arbiter := by
  unfold evaluateAll
  generalize conditionOrder = l
  induction l generalizing s with
  | nil => rfl
  | cons a l ih => rw [List.foldl_cons, ih]; simp
@[simp] theorem evaluateAll_clock : (evaluateAll s).clock = s.clock := by
  unfold evaluateAll
  generalize conditionOrder = l
  induction l generalizing s with
  | nil => rfl
  | cons a l ih => rw [List.foldl_cons, ih]; simp
@[simp] theorem evaluateAll_sequencer : (evaluateAll s).sequencer = s.sequencer := by
  unfold evaluateAll
  generalize conditionOrder = l
  induction l generalizing s with
  | nil => rfl
  | cons a l ih => rw [List.foldl_cons, ih]; simp
@[simp] theorem evaluateAll_run : (evaluateAll s).run = s.run := by
  unfold evaluateAll
  generalize conditionOrder = l
  induction l generalizing s with
  | nil => rfl
  | cons a l ih => rw [List.foldl_cons, ih]; simp
@[simp] theorem evaluateAll_panel : (evaluateAll s).panel = s.panel := by
  unfold evaluateAll
  generalize conditionOrder = l
  induction l generalizing s with
  | nil => rfl
  | cons a l ih => rw [List.foldl_cons, ih]; simp
@[simp] theorem evaluateAll_link : (evaluateAll s).link = s.link := by
  unfold evaluateAll
  generalize conditionOrder = l
  induction l generalizing s with
  | nil => rfl
  | cons a l ih => rw [List.foldl_cons, ih]; simp
@[simp] theorem evaluateAll_pending : (evaluateAll s).pending = s.pending := by
  unfold evaluateAll
  generalize conditionOrder = l
  induction l generalizing s with
  | nil => rfl
  | cons a l ih => rw [List.foldl_cons, ih]; simp

/-! ### takeJob -/

@[simp] theorem takeJob_store : (takeJob s).store = s.store := by unfold takeJob; split <;> rfl
@[simp] theorem takeJob_policy : (takeJob s).policy = s.policy := by unfold takeJob; split <;> rfl
@[simp] theorem takeJob_arbiter : (takeJob s).arbiter = s.arbiter := by unfold takeJob; split <;> rfl
@[simp] theorem takeJob_sequencer : (takeJob s).sequencer = s.sequencer := by unfold takeJob; split <;> rfl
@[simp] theorem takeJob_run : (takeJob s).run = s.run := by unfold takeJob; split <;> rfl
@[simp] theorem takeJob_watch : (takeJob s).watch = s.watch := by unfold takeJob; split <;> rfl
@[simp] theorem takeJob_panel : (takeJob s).panel = s.panel := by unfold takeJob; split <;> rfl
@[simp] theorem takeJob_link : (takeJob s).link = s.link := by unfold takeJob; split <;> rfl
@[simp] theorem takeJob_pending : (takeJob s).pending = s.pending := by unfold takeJob; split <;> rfl

/-! ### appendJob -/

@[simp] theorem appendJob_store (j : Job) : (appendJob j s).store = s.store := by
  unfold appendJob; dsimp only; split <;> simp
@[simp] theorem appendJob_policy (j : Job) : (appendJob j s).policy = s.policy := by
  unfold appendJob; dsimp only; split <;> simp
@[simp] theorem appendJob_arbiter (j : Job) : (appendJob j s).arbiter = s.arbiter := by
  unfold appendJob; dsimp only; split <;> simp
@[simp] theorem appendJob_sequencer (j : Job) : (appendJob j s).sequencer = s.sequencer := by
  unfold appendJob; dsimp only; split <;> simp
@[simp] theorem appendJob_run (j : Job) : (appendJob j s).run = s.run := by
  unfold appendJob; dsimp only; split <;> simp
@[simp] theorem appendJob_watch (j : Job) : (appendJob j s).watch = s.watch := by
  unfold appendJob; dsimp only; split <;> simp
@[simp] theorem appendJob_panel (j : Job) : (appendJob j s).panel = s.panel := by
  unfold appendJob; dsimp only; split <;> simp
@[simp] theorem appendJob_link (j : Job) : (appendJob j s).link = s.link := by
  unfold appendJob; dsimp only; split <;> simp
@[simp] theorem appendJob_pending (j : Job) : (appendJob j s).pending = s.pending := by
  unfold appendJob; dsimp only; split <;> simp

/-! ### rejectBuffer -/

@[simp] theorem rejectBuffer_store (n : BufferName) : (rejectBuffer n s).store = s.store := by
  simp [rejectBuffer]
@[simp] theorem rejectBuffer_policy (n : BufferName) : (rejectBuffer n s).policy = s.policy := by
  simp [rejectBuffer]
@[simp] theorem rejectBuffer_resolver (n : BufferName) : (rejectBuffer n s).resolver = s.resolver := by
  simp [rejectBuffer]
@[simp] theorem rejectBuffer_arbiter (n : BufferName) : (rejectBuffer n s).arbiter = s.arbiter := by
  simp [rejectBuffer]
@[simp] theorem rejectBuffer_clock (n : BufferName) : (rejectBuffer n s).clock = s.clock := by
  simp [rejectBuffer]
@[simp] theorem rejectBuffer_run (n : BufferName) : (rejectBuffer n s).run = s.run := by simp [rejectBuffer]
@[simp] theorem rejectBuffer_panel (n : BufferName) : (rejectBuffer n s).panel = s.panel := by
  simp [rejectBuffer]
@[simp] theorem rejectBuffer_link (n : BufferName) : (rejectBuffer n s).link = s.link := by
  simp [rejectBuffer]
@[simp] theorem rejectBuffer_pending (n : BufferName) : (rejectBuffer n s).pending = s.pending := by
  simp [rejectBuffer]

/-! ### activateFrom -/

@[simp] theorem activateFrom_store (l : List BufferName) : (activateFrom l s).store = s.store := by
  induction l generalizing s with
  | nil => rfl
  | cons x l ih =>
    unfold activateFrom; dsimp only
    split
    · simp
    · rw [ih]; simp
@[simp] theorem activateFrom_policy (l : List BufferName) : (activateFrom l s).policy = s.policy := by
  induction l generalizing s with
  | nil => rfl
  | cons x l ih =>
    unfold activateFrom; dsimp only
    split
    · simp
    · rw [ih]; simp
@[simp] theorem activateFrom_resolver (l : List BufferName) : (activateFrom l s).resolver = s.resolver := by
  induction l generalizing s with
  | nil => rfl
  | cons x l ih =>
    unfold activateFrom; dsimp only
    split
    · simp
    · rw [ih]; simp
@[simp] theorem activateFrom_arbiter (l : List BufferName) : (activateFrom l s).arbiter = s.arbiter := by
  induction l generalizing s with
  | nil => rfl
  | cons x l ih =>
    unfold activateFrom; dsimp only
    split
    · simp
    · rw [ih]; simp
@[simp] theorem activateFrom_clock (l : List BufferName) : (activateFrom l s).clock = s.clock := by
  induction l generalizing s with
  | nil => rfl
  | cons x l ih =>
    unfold activateFrom; dsimp only
    split
    · simp
    · rw [ih]; simp
@[simp] theorem activateFrom_run (l : List BufferName) : (activateFrom l s).run = s.run := by
  induction l generalizing s with
  | nil => rfl
  | cons x l ih =>
    unfold activateFrom; dsimp only
    split
    · simp
    · rw [ih]; simp
@[simp] theorem activateFrom_panel (l : List BufferName) : (activateFrom l s).panel = s.panel := by
  induction l generalizing s with
  | nil => rfl
  | cons x l ih =>
    unfold activateFrom; dsimp only
    split
    · simp
    · rw [ih]; simp
@[simp] theorem activateFrom_link (l : List BufferName) : (activateFrom l s).link = s.link := by
  induction l generalizing s with
  | nil => rfl
  | cons x l ih =>
    unfold activateFrom; dsimp only
    split
    · simp
    · rw [ih]; simp
@[simp] theorem activateFrom_pending (l : List BufferName) : (activateFrom l s).pending = s.pending := by
  induction l generalizing s with
  | nil => rfl
  | cons x l ih =>
    unfold activateFrom; dsimp only
    split
    · simp
    · rw [ih]; simp

/-! ### activate -/

@[simp] theorem activate_store : (activate s).store = s.store := by unfold activate; split <;> simp
@[simp] theorem activate_policy : (activate s).policy = s.policy := by unfold activate; split <;> simp
@[simp] theorem activate_resolver : (activate s).resolver = s.resolver := by unfold activate; split <;> simp
@[simp] theorem activate_arbiter : (activate s).arbiter = s.arbiter := by unfold activate; split <;> simp
@[simp] theorem activate_clock : (activate s).clock = s.clock := by unfold activate; split <;> simp
@[simp] theorem activate_run : (activate s).run = s.run := by unfold activate; split <;> simp
@[simp] theorem activate_panel : (activate s).panel = s.panel := by unfold activate; split <;> simp
@[simp] theorem activate_link : (activate s).link = s.link := by unfold activate; split <;> simp
@[simp] theorem activate_pending : (activate s).pending = s.pending := by unfold activate; split <;> simp

/-! ### testStarve -/

@[simp] theorem testStarve_store : (testStarve s).store = s.store := by unfold testStarve; split <;> simp
@[simp] theorem testStarve_policy : (testStarve s).policy = s.policy := by unfold testStarve; split <;> simp
@[simp] theorem testStarve_resolver : (testStarve s).resolver = s.resolver := by
  unfold testStarve; split <;> simp
@[simp] theorem testStarve_arbiter : (testStarve s).arbiter = s.arbiter := by
  unfold testStarve; split <;> simp
@[simp] theorem testStarve_sequencer : (testStarve s).sequencer = s.sequencer := by
  unfold testStarve; split <;> simp
@[simp] theorem testStarve_run : (testStarve s).run = s.run := by unfold testStarve; split <;> simp
@[simp] theorem testStarve_panel : (testStarve s).panel = s.panel := by unfold testStarve; split <;> simp
@[simp] theorem testStarve_link : (testStarve s).link = s.link := by unfold testStarve; split <;> simp
@[simp] theorem testStarve_pending : (testStarve s).pending = s.pending := by
  unfold testStarve; split <;> simp

/-! ### enterMoving -/

@[simp] theorem enterMoving_store (target : RunState) : (enterMoving target s).store = s.store := by
  simp [enterMoving]
@[simp] theorem enterMoving_policy (target : RunState) : (enterMoving target s).policy = s.policy := by
  simp [enterMoving]
@[simp] theorem enterMoving_resolver (target : RunState) : (enterMoving target s).resolver = s.resolver := by
  simp [enterMoving]
@[simp] theorem enterMoving_arbiter (target : RunState) : (enterMoving target s).arbiter = s.arbiter := by
  simp [enterMoving]
@[simp] theorem enterMoving_panel (target : RunState) : (enterMoving target s).panel = s.panel := by
  simp [enterMoving]
@[simp] theorem enterMoving_link (target : RunState) : (enterMoving target s).link = s.link := by
  simp [enterMoving]
@[simp] theorem enterMoving_pending (target : RunState) : (enterMoving target s).pending = s.pending := by
  simp [enterMoving]

/-! ### endJob -/

@[simp] theorem endJob_store (j : JobInProgress) : (endJob j s).store = s.store := by
  unfold endJob; dsimp only; split <;> split <;> simp
@[simp] theorem endJob_policy (j : JobInProgress) : (endJob j s).policy = s.policy := by
  unfold endJob; dsimp only; split <;> split <;> simp
@[simp] theorem endJob_arbiter (j : JobInProgress) : (endJob j s).arbiter = s.arbiter := by
  unfold endJob; dsimp only; split <;> split <;> simp
@[simp] theorem endJob_sequencer (j : JobInProgress) : (endJob j s).sequencer = s.sequencer := by
  unfold endJob; dsimp only; split <;> split <;> simp
@[simp] theorem endJob_run (j : JobInProgress) : (endJob j s).run = s.run := by
  unfold endJob; dsimp only; split <;> split <;> simp
@[simp] theorem endJob_link (j : JobInProgress) : (endJob j s).link = s.link := by
  unfold endJob; dsimp only; split <;> split <;> simp
@[simp] theorem endJob_pending (j : JobInProgress) : (endJob j s).pending = s.pending := by
  unfold endJob; dsimp only; split <;> split <;> simp

/-! ### abandonJobs -/

@[simp] theorem abandonJobs_store : (abandonJobs s).store = s.store := by
  unfold abandonJobs; dsimp only; split <;> simp
@[simp] theorem abandonJobs_policy : (abandonJobs s).policy = s.policy := by
  unfold abandonJobs; dsimp only; split <;> simp
@[simp] theorem abandonJobs_arbiter : (abandonJobs s).arbiter = s.arbiter := by
  unfold abandonJobs; dsimp only; split <;> simp
@[simp] theorem abandonJobs_clock : (abandonJobs s).clock = s.clock := by
  unfold abandonJobs; dsimp only; split <;> simp
@[simp] theorem abandonJobs_sequencer : (abandonJobs s).sequencer = s.sequencer := by
  unfold abandonJobs; dsimp only; split <;> simp
@[simp] theorem abandonJobs_run : (abandonJobs s).run = s.run := by
  unfold abandonJobs; dsimp only; split <;> simp
@[simp] theorem abandonJobs_panel : (abandonJobs s).panel = s.panel := by
  unfold abandonJobs; dsimp only; split <;> simp
@[simp] theorem abandonJobs_link : (abandonJobs s).link = s.link := by
  unfold abandonJobs; dsimp only; split <;> simp
@[simp] theorem abandonJobs_pending : (abandonJobs s).pending = s.pending := by
  unfold abandonJobs; dsimp only; split <;> simp

/-! ### clearModel -/

@[simp] theorem clearModel_policy : (clearModel s).policy = s.policy := by simp [clearModel]
@[simp] theorem clearModel_link : (clearModel s).link = s.link := by simp [clearModel]
@[simp] theorem clearModel_pending : (clearModel s).pending = s.pending := by simp [clearModel]

/-! ### answerClear -/

@[simp] theorem answerClear_store : (answerClear s).store = s.store := by unfold answerClear; split <;> simp
@[simp] theorem answerClear_policy : (answerClear s).policy = s.policy := by
  unfold answerClear; split <;> simp
@[simp] theorem answerClear_resolver : (answerClear s).resolver = s.resolver := by
  unfold answerClear; split <;> simp
@[simp] theorem answerClear_arbiter : (answerClear s).arbiter = s.arbiter := by
  unfold answerClear; split <;> simp
@[simp] theorem answerClear_clock : (answerClear s).clock = s.clock := by unfold answerClear; split <;> simp
@[simp] theorem answerClear_sequencer : (answerClear s).sequencer = s.sequencer := by
  unfold answerClear; split <;> simp
@[simp] theorem answerClear_run : (answerClear s).run = s.run := by unfold answerClear; split <;> simp
@[simp] theorem answerClear_watch : (answerClear s).watch = s.watch := by unfold answerClear; split <;> simp
@[simp] theorem answerClear_panel : (answerClear s).panel = s.panel := by unfold answerClear; split <;> simp
@[simp] theorem answerClear_pending : (answerClear s).pending = s.pending := by
  unfold answerClear; split <;> simp

/-! ### arbitrate -/

@[simp] theorem arbitrate_policy : (arbitrate s).policy = s.policy := by
  unfold arbitrate; dsimp only; split
  · split <;> simp
  · simp
@[simp] theorem arbitrate_pending : (arbitrate s).pending = s.pending := by
  unfold arbitrate; dsimp only; split
  · split <;> simp
  · simp

/-! ### commitSwitch -/

@[simp] theorem commitSwitch_policy (n : Nat) (old new : SwitchRec) (cause : Nat) : (commitSwitch n old new cause s).policy = s.policy := by
  unfold commitSwitch; dsimp only; split <;> simp
@[simp] theorem commitSwitch_arbiter (n : Nat) (old new : SwitchRec) (cause : Nat) : (commitSwitch n old new cause s).arbiter = s.arbiter := by
  unfold commitSwitch; dsimp only; split <;> simp
@[simp] theorem commitSwitch_sequencer (n : Nat) (old new : SwitchRec) (cause : Nat) : (commitSwitch n old new cause s).sequencer = s.sequencer := by
  unfold commitSwitch; dsimp only; split <;> simp
@[simp] theorem commitSwitch_run (n : Nat) (old new : SwitchRec) (cause : Nat) : (commitSwitch n old new cause s).run = s.run := by
  unfold commitSwitch; dsimp only; split <;> simp
@[simp] theorem commitSwitch_watch (n : Nat) (old new : SwitchRec) (cause : Nat) : (commitSwitch n old new cause s).watch = s.watch := by
  unfold commitSwitch; dsimp only; split <;> simp
@[simp] theorem commitSwitch_panel (n : Nat) (old new : SwitchRec) (cause : Nat) : (commitSwitch n old new cause s).panel = s.panel := by
  unfold commitSwitch; dsimp only; split <;> simp
@[simp] theorem commitSwitch_link (n : Nat) (old new : SwitchRec) (cause : Nat) : (commitSwitch n old new cause s).link = s.link := by
  unfold commitSwitch; dsimp only; split <;> simp
@[simp] theorem commitSwitch_pending (n : Nat) (old new : SwitchRec) (cause : Nat) : (commitSwitch n old new cause s).pending = s.pending := by
  unfold commitSwitch; dsimp only; split <;> simp

/-! ### changeSwitch -/

@[simp] theorem changeSwitch_policy (n : Nat) (old new : SwitchRec) : (changeSwitch n old new s).policy = s.policy := by
  unfold changeSwitch; split <;> simp
@[simp] theorem changeSwitch_arbiter (n : Nat) (old new : SwitchRec) : (changeSwitch n old new s).arbiter = s.arbiter := by
  unfold changeSwitch; split <;> simp
@[simp] theorem changeSwitch_sequencer (n : Nat) (old new : SwitchRec) : (changeSwitch n old new s).sequencer = s.sequencer := by
  unfold changeSwitch; split <;> simp
@[simp] theorem changeSwitch_run (n : Nat) (old new : SwitchRec) : (changeSwitch n old new s).run = s.run := by
  unfold changeSwitch; split <;> simp
@[simp] theorem changeSwitch_watch (n : Nat) (old new : SwitchRec) : (changeSwitch n old new s).watch = s.watch := by
  unfold changeSwitch; split <;> simp
@[simp] theorem changeSwitch_panel (n : Nat) (old new : SwitchRec) : (changeSwitch n old new s).panel = s.panel := by
  unfold changeSwitch; split <;> simp
@[simp] theorem changeSwitch_pending (n : Nat) (old new : SwitchRec) : (changeSwitch n old new s).pending = s.pending := by
  unfold changeSwitch; split <;> simp

/-! ### applyPolicy -/

@[simp] theorem applyPolicy_arbiter (p : Policy) : (applyPolicy p s).arbiter = s.arbiter := by
  unfold applyPolicy
  generalize List.filter _ _ = l
  suffices h : ∀ (l : Tab SwitchRec) (u : State), (l.foldl (fun s q => commitSwitch q.1 q.2 (q.2.underPolicy p) s.clock.time s) u).arbiter = u.arbiter by rw [h]
  intro l
  induction l with
  | nil => intro u; rfl
  | cons a l ih => intro u; rw [List.foldl_cons, ih]; simp
@[simp] theorem applyPolicy_sequencer (p : Policy) : (applyPolicy p s).sequencer = s.sequencer := by
  unfold applyPolicy
  generalize List.filter _ _ = l
  suffices h : ∀ (l : Tab SwitchRec) (u : State), (l.foldl (fun s q => commitSwitch q.1 q.2 (q.2.underPolicy p) s.clock.time s) u).sequencer = u.sequencer by rw [h]
  intro l
  induction l with
  | nil => intro u; rfl
  | cons a l ih => intro u; rw [List.foldl_cons, ih]; simp
@[simp] theorem applyPolicy_run (p : Policy) : (applyPolicy p s).run = s.run := by
  unfold applyPolicy
  generalize List.filter _ _ = l
  suffices h : ∀ (l : Tab SwitchRec) (u : State), (l.foldl (fun s q => commitSwitch q.1 q.2 (q.2.underPolicy p) s.clock.time s) u).run = u.run by rw [h]
  intro l
  induction l with
  | nil => intro u; rfl
  | cons a l ih => intro u; rw [List.foldl_cons, ih]; simp
@[simp] theorem applyPolicy_watch (p : Policy) : (applyPolicy p s).watch = s.watch := by
  unfold applyPolicy
  generalize List.filter _ _ = l
  suffices h : ∀ (l : Tab SwitchRec) (u : State), (l.foldl (fun s q => commitSwitch q.1 q.2 (q.2.underPolicy p) s.clock.time s) u).watch = u.watch by rw [h]
  intro l
  induction l with
  | nil => intro u; rfl
  | cons a l ih => intro u; rw [List.foldl_cons, ih]; simp
@[simp] theorem applyPolicy_panel (p : Policy) : (applyPolicy p s).panel = s.panel := by
  unfold applyPolicy
  generalize List.filter _ _ = l
  suffices h : ∀ (l : Tab SwitchRec) (u : State), (l.foldl (fun s q => commitSwitch q.1 q.2 (q.2.underPolicy p) s.clock.time s) u).panel = u.panel by rw [h]
  intro l
  induction l with
  | nil => intro u; rfl
  | cons a l ih => intro u; rw [List.foldl_cons, ih]; simp
@[simp] theorem applyPolicy_link (p : Policy) : (applyPolicy p s).link = s.link := by
  unfold applyPolicy
  generalize List.filter _ _ = l
  suffices h : ∀ (l : Tab SwitchRec) (u : State), (l.foldl (fun s q => commitSwitch q.1 q.2 (q.2.underPolicy p) s.clock.time s) u).link = u.link by rw [h]
  intro l
  induction l with
  | nil => intro u; rfl
  | cons a l ih => intro u; rw [List.foldl_cons, ih]; simp
@[simp] theorem applyPolicy_pending (p : Policy) : (applyPolicy p s).pending = s.pending := by
  unfold applyPolicy
  generalize List.filter _ _ = l
  suffices h : ∀ (l : Tab SwitchRec) (u : State), (l.foldl (fun s q => commitSwitch q.1 q.2 (q.2.underPolicy p) s.clock.time s) u).pending = u.pending by rw [h]
  intro l
  induction l with
  | nil => intro u; rfl
  | cons a l ih => intro u; rw [List.foldl_cons, ih]; simp

/-! ### endRun -/

@[simp] theorem endRun_store : (endRun s).store = s.store := by simp [endRun]
@[simp] theorem endRun_policy : (endRun s).policy = s.policy := by simp [endRun]
@[simp] theorem endRun_resolver : (endRun s).resolver = s.resolver := by simp [endRun]
@[simp] theorem endRun_arbiter : (endRun s).arbiter = s.arbiter := by simp [endRun]
@[simp] theorem endRun_sequencer : (endRun s).sequencer = s.sequencer := by simp [endRun]
@[simp] theorem endRun_panel : (endRun s).panel = s.panel := by simp [endRun]
@[simp] theorem endRun_link : (endRun s).link = s.link := by simp [endRun]
@[simp] theorem endRun_pending : (endRun s).pending = s.pending := by simp [endRun]

/-! ### reachBoundary -/

@[simp] theorem reachBoundary_store (b : Nat) : (reachBoundary b s).store = s.store := by
  unfold reachBoundary; dsimp only; split <;> simp
@[simp] theorem reachBoundary_policy (b : Nat) : (reachBoundary b s).policy = s.policy := by
  unfold reachBoundary; dsimp only; split <;> simp
@[simp] theorem reachBoundary_resolver (b : Nat) : (reachBoundary b s).resolver = s.resolver := by
  unfold reachBoundary; dsimp only; split <;> simp
@[simp] theorem reachBoundary_panel (b : Nat) : (reachBoundary b s).panel = s.panel := by
  unfold reachBoundary; dsimp only; split <;> simp
@[simp] theorem reachBoundary_link (b : Nat) : (reachBoundary b s).link = s.link := by
  unfold reachBoundary; dsimp only; split <;> simp
@[simp] theorem reachBoundary_pending (b : Nat) : (reachBoundary b s).pending = s.pending := by
  unfold reachBoundary; dsimp only; split <;> simp

/-! ### advanceTime -/

@[simp] theorem advanceTime_store : (advanceTime s).store = s.store := by
  unfold advanceTime; dsimp only; split
  · simp
  · split
    · split <;> simp
    · rfl
@[simp] theorem advanceTime_policy : (advanceTime s).policy = s.policy := by
  unfold advanceTime; dsimp only; split
  · simp
  · split
    · split <;> simp
    · rfl
@[simp] theorem advanceTime_resolver : (advanceTime s).resolver = s.resolver := by
  unfold advanceTime; dsimp only; split
  · simp
  · split
    · split <;> simp
    · rfl
@[simp] theorem advanceTime_panel : (advanceTime s).panel = s.panel := by
  unfold advanceTime; dsimp only; split
  · simp
  · split
    · split <;> simp
    · rfl
@[simp] theorem advanceTime_link : (advanceTime s).link = s.link := by
  unfold advanceTime; dsimp only; split
  · simp
  · split
    · split <;> simp
    · rfl
@[simp] theorem advanceTime_pending : (advanceTime s).pending = s.pending := by
  unfold advanceTime; dsimp only; split
  · simp
  · split
    · split <;> simp
    · rfl

/-! ### testMark -/

@[simp] theorem testMark_store (old : Nat) : (testMark old s).store = s.store := by
  unfold testMark; split <;> simp
@[simp] theorem testMark_policy (old : Nat) : (testMark old s).policy = s.policy := by
  unfold testMark; split <;> simp
@[simp] theorem testMark_resolver (old : Nat) : (testMark old s).resolver = s.resolver := by
  unfold testMark; split <;> simp
@[simp] theorem testMark_arbiter (old : Nat) : (testMark old s).arbiter = s.arbiter := by
  unfold testMark; split <;> simp
@[simp] theorem testMark_clock (old : Nat) : (testMark old s).clock = s.clock := by
  unfold testMark; split <;> simp
@[simp] theorem testMark_sequencer (old : Nat) : (testMark old s).sequencer = s.sequencer := by
  unfold testMark; split <;> simp
@[simp] theorem testMark_run (old : Nat) : (testMark old s).run = s.run := by
  unfold testMark; split <;> simp
@[simp] theorem testMark_panel (old : Nat) : (testMark old s).panel = s.panel := by
  unfold testMark; split <;> simp
@[simp] theorem testMark_link (old : Nat) : (testMark old s).link = s.link := by
  unfold testMark; split <;> simp
@[simp] theorem testMark_pending (old : Nat) : (testMark old s).pending = s.pending := by
  unfold testMark; split <;> simp

/-! ### pacingTick -/

@[simp] theorem pacingTick_store : (pacingTick s).store = s.store := by unfold pacingTick; split <;> simp
@[simp] theorem pacingTick_policy : (pacingTick s).policy = s.policy := by unfold pacingTick; split <;> simp
@[simp] theorem pacingTick_resolver : (pacingTick s).resolver = s.resolver := by
  unfold pacingTick; split <;> simp
@[simp] theorem pacingTick_panel : (pacingTick s).panel = s.panel := by unfold pacingTick; split <;> simp
@[simp] theorem pacingTick_link : (pacingTick s).link = s.link := by unfold pacingTick; split <;> simp
@[simp] theorem pacingTick_pending : (pacingTick s).pending = s.pending := by
  unfold pacingTick; split <;> simp

/-! ### testActiveBuffer -/

@[simp] theorem testActiveBuffer_store : (testActiveBuffer s).store = s.store := by
  unfold testActiveBuffer; split
  · split <;> simp
  · rfl
@[simp] theorem testActiveBuffer_policy : (testActiveBuffer s).policy = s.policy := by
  unfold testActiveBuffer; split
  · split <;> simp
  · rfl
@[simp] theorem testActiveBuffer_resolver : (testActiveBuffer s).resolver = s.resolver := by
  unfold testActiveBuffer; split
  · split <;> simp
  · rfl
@[simp] theorem testActiveBuffer_run : (testActiveBuffer s).run = s.run := by
  unfold testActiveBuffer; split
  · split <;> simp
  · rfl
@[simp] theorem testActiveBuffer_panel : (testActiveBuffer s).panel = s.panel := by
  unfold testActiveBuffer; split
  · split <;> simp
  · rfl
@[simp] theorem testActiveBuffer_link : (testActiveBuffer s).link = s.link := by
  unfold testActiveBuffer; split
  · split <;> simp
  · rfl
@[simp] theorem testActiveBuffer_pending : (testActiveBuffer s).pending = s.pending := by
  unfold testActiveBuffer; split
  · split <;> simp
  · rfl

/-! ### leaveEnded -/

@[simp] theorem leaveEnded_store : (leaveEnded s).store = s.store := by unfold leaveEnded; split <;> simp
@[simp] theorem leaveEnded_policy : (leaveEnded s).policy = s.policy := by unfold leaveEnded; split <;> simp
@[simp] theorem leaveEnded_resolver : (leaveEnded s).resolver = s.resolver := by
  unfold leaveEnded; split <;> simp
@[simp] theorem leaveEnded_watch : (leaveEnded s).watch = s.watch := by unfold leaveEnded; split <;> simp
@[simp] theorem leaveEnded_panel : (leaveEnded s).panel = s.panel := by unfold leaveEnded; split <;> simp
@[simp] theorem leaveEnded_link : (leaveEnded s).link = s.link := by unfold leaveEnded; split <;> simp
@[simp] theorem leaveEnded_pending : (leaveEnded s).pending = s.pending := by
  unfold leaveEnded; split <;> simp

/-! ### changeDirection -/

@[simp] theorem changeDirection_store (d : Direction) : (changeDirection d s).store = s.store := by
  simp [changeDirection]
@[simp] theorem changeDirection_policy (d : Direction) : (changeDirection d s).policy = s.policy := by
  simp [changeDirection]
@[simp] theorem changeDirection_resolver (d : Direction) : (changeDirection d s).resolver = s.resolver := by
  simp [changeDirection]
@[simp] theorem changeDirection_panel (d : Direction) : (changeDirection d s).panel = s.panel := by
  simp [changeDirection]
@[simp] theorem changeDirection_link (d : Direction) : (changeDirection d s).link = s.link := by
  simp [changeDirection]
@[simp] theorem changeDirection_pending (d : Direction) : (changeDirection d s).pending = s.pending := by
  simp [changeDirection]

/-! ### setOutcome -/

@[simp] theorem setOutcome_store (n : BufferName) (o : LoadOutcome) : (setOutcome n o s).store = s.store := by
  simp [setOutcome]
@[simp] theorem setOutcome_policy (n : BufferName) (o : LoadOutcome) : (setOutcome n o s).policy = s.policy := by
  simp [setOutcome]
@[simp] theorem setOutcome_resolver (n : BufferName) (o : LoadOutcome) : (setOutcome n o s).resolver = s.resolver := by
  simp [setOutcome]
@[simp] theorem setOutcome_arbiter (n : BufferName) (o : LoadOutcome) : (setOutcome n o s).arbiter = s.arbiter := by
  simp [setOutcome]
@[simp] theorem setOutcome_clock (n : BufferName) (o : LoadOutcome) : (setOutcome n o s).clock = s.clock := by
  simp [setOutcome]
@[simp] theorem setOutcome_run (n : BufferName) (o : LoadOutcome) : (setOutcome n o s).run = s.run := by
  simp [setOutcome]
@[simp] theorem setOutcome_watch (n : BufferName) (o : LoadOutcome) : (setOutcome n o s).watch = s.watch := by
  simp [setOutcome]
@[simp] theorem setOutcome_panel (n : BufferName) (o : LoadOutcome) : (setOutcome n o s).panel = s.panel := by
  simp [setOutcome]
@[simp] theorem setOutcome_link (n : BufferName) (o : LoadOutcome) : (setOutcome n o s).link = s.link := by
  simp [setOutcome]
@[simp] theorem setOutcome_pending (n : BufferName) (o : LoadOutcome) : (setOutcome n o s).pending = s.pending := by
  simp [setOutcome]

/-! ### countEntry -/

@[simp] theorem countEntry_store (n : BufferName) (bytes : List Byte) : (countEntry n bytes s).store = s.store := by
  simp [countEntry]
@[simp] theorem countEntry_policy (n : BufferName) (bytes : List Byte) : (countEntry n bytes s).policy = s.policy := by
  simp [countEntry]
@[simp] theorem countEntry_resolver (n : BufferName) (bytes : List Byte) : (countEntry n bytes s).resolver = s.resolver := by
  simp [countEntry]
@[simp] theorem countEntry_arbiter (n : BufferName) (bytes : List Byte) : (countEntry n bytes s).arbiter = s.arbiter := by
  simp [countEntry]
@[simp] theorem countEntry_clock (n : BufferName) (bytes : List Byte) : (countEntry n bytes s).clock = s.clock := by
  simp [countEntry]
@[simp] theorem countEntry_run (n : BufferName) (bytes : List Byte) : (countEntry n bytes s).run = s.run := by
  simp [countEntry]
@[simp] theorem countEntry_watch (n : BufferName) (bytes : List Byte) : (countEntry n bytes s).watch = s.watch := by
  simp [countEntry]
@[simp] theorem countEntry_panel (n : BufferName) (bytes : List Byte) : (countEntry n bytes s).panel = s.panel := by
  simp [countEntry]
@[simp] theorem countEntry_link (n : BufferName) (bytes : List Byte) : (countEntry n bytes s).link = s.link := by
  simp [countEntry]
@[simp] theorem countEntry_pending (n : BufferName) (bytes : List Byte) : (countEntry n bytes s).pending = s.pending := by
  simp [countEntry]

/-! ### markCheck -/

@[simp] theorem markCheck_store (n : BufferName) : (markCheck n s).store = s.store := by
  unfold markCheck; split
  · split <;> simp
  · rfl
@[simp] theorem markCheck_policy (n : BufferName) : (markCheck n s).policy = s.policy := by
  unfold markCheck; split
  · split <;> simp
  · rfl
@[simp] theorem markCheck_resolver (n : BufferName) : (markCheck n s).resolver = s.resolver := by
  unfold markCheck; split
  · split <;> simp
  · rfl
@[simp] theorem markCheck_arbiter (n : BufferName) : (markCheck n s).arbiter = s.arbiter := by
  unfold markCheck; split
  · split <;> simp
  · rfl
@[simp] theorem markCheck_clock (n : BufferName) : (markCheck n s).clock = s.clock := by
  unfold markCheck; split
  · split <;> simp
  · rfl
@[simp] theorem markCheck_run (n : BufferName) : (markCheck n s).run = s.run := by
  unfold markCheck; split
  · split <;> simp
  · rfl
@[simp] theorem markCheck_watch (n : BufferName) : (markCheck n s).watch = s.watch := by
  unfold markCheck; split
  · split <;> simp
  · rfl
@[simp] theorem markCheck_panel (n : BufferName) : (markCheck n s).panel = s.panel := by
  unfold markCheck; split
  · split <;> simp
  · rfl
@[simp] theorem markCheck_link (n : BufferName) : (markCheck n s).link = s.link := by
  unfold markCheck; split
  · split <;> simp
  · rfl
@[simp] theorem markCheck_pending (n : BufferName) : (markCheck n s).pending = s.pending := by
  unfold markCheck; split
  · split <;> simp
  · rfl

/-! ### gatherByte -/

@[simp] theorem gatherByte_store (b : Byte) : (gatherByte b s).store = s.store := by
  unfold gatherByte; repeat' split
  all_goals simp
@[simp] theorem gatherByte_policy (b : Byte) : (gatherByte b s).policy = s.policy := by
  unfold gatherByte; repeat' split
  all_goals simp
@[simp] theorem gatherByte_resolver (b : Byte) : (gatherByte b s).resolver = s.resolver := by
  unfold gatherByte; repeat' split
  all_goals simp
@[simp] theorem gatherByte_arbiter (b : Byte) : (gatherByte b s).arbiter = s.arbiter := by
  unfold gatherByte; repeat' split
  all_goals simp
@[simp] theorem gatherByte_clock (b : Byte) : (gatherByte b s).clock = s.clock := by
  unfold gatherByte; repeat' split
  all_goals simp
@[simp] theorem gatherByte_run (b : Byte) : (gatherByte b s).run = s.run := by
  unfold gatherByte; repeat' split
  all_goals simp
@[simp] theorem gatherByte_panel (b : Byte) : (gatherByte b s).panel = s.panel := by
  unfold gatherByte; repeat' split
  all_goals simp
@[simp] theorem gatherByte_pending (b : Byte) : (gatherByte b s).pending = s.pending := by
  unfold gatherByte; repeat' split
  all_goals simp

/-! ### endLoad -/

@[simp] theorem endLoad_store : (endLoad s).store = s.store := by
  unfold endLoad; split
  · split
    · rfl
    · simp
  · rfl
@[simp] theorem endLoad_policy : (endLoad s).policy = s.policy := by
  unfold endLoad; split
  · split
    · rfl
    · simp
  · rfl
@[simp] theorem endLoad_resolver : (endLoad s).resolver = s.resolver := by
  unfold endLoad; split
  · split
    · rfl
    · simp
  · rfl
@[simp] theorem endLoad_arbiter : (endLoad s).arbiter = s.arbiter := by
  unfold endLoad; split
  · split
    · rfl
    · simp
  · rfl
@[simp] theorem endLoad_clock : (endLoad s).clock = s.clock := by
  unfold endLoad; split
  · split
    · rfl
    · simp
  · rfl
@[simp] theorem endLoad_run : (endLoad s).run = s.run := by
  unfold endLoad; split
  · split
    · rfl
    · simp
  · rfl
@[simp] theorem endLoad_panel : (endLoad s).panel = s.panel := by
  unfold endLoad; split
  · split
    · rfl
    · simp
  · rfl
@[simp] theorem endLoad_link : (endLoad s).link = s.link := by
  unfold endLoad; split
  · split
    · rfl
    · simp
  · rfl
@[simp] theorem endLoad_pending : (endLoad s).pending = s.pending := by
  unfold endLoad; split
  · split
    · rfl
    · simp
  · rfl

/-! ### armBuffer -/

@[simp] theorem armBuffer_store (n : BufferName) : (armBuffer n s).store = s.store := by simp [armBuffer]
@[simp] theorem armBuffer_policy (n : BufferName) : (armBuffer n s).policy = s.policy := by simp [armBuffer]
@[simp] theorem armBuffer_resolver (n : BufferName) : (armBuffer n s).resolver = s.resolver := by
  simp [armBuffer]
@[simp] theorem armBuffer_arbiter (n : BufferName) : (armBuffer n s).arbiter = s.arbiter := by
  simp [armBuffer]
@[simp] theorem armBuffer_run (n : BufferName) : (armBuffer n s).run = s.run := by simp [armBuffer]
@[simp] theorem armBuffer_panel (n : BufferName) : (armBuffer n s).panel = s.panel := by simp [armBuffer]
@[simp] theorem armBuffer_link (n : BufferName) : (armBuffer n s).link = s.link := by simp [armBuffer]
@[simp] theorem armBuffer_pending (n : BufferName) : (armBuffer n s).pending = s.pending := by
  simp [armBuffer]

/-! ### advanceIndex -/

@[simp] theorem advanceIndex_store (n : BufferName) : (advanceIndex n s).store = s.store := by
  simp [advanceIndex]
@[simp] theorem advanceIndex_policy (n : BufferName) : (advanceIndex n s).policy = s.policy := by
  simp [advanceIndex]
@[simp] theorem advanceIndex_resolver (n : BufferName) : (advanceIndex n s).resolver = s.resolver := by
  simp [advanceIndex]
@[simp] theorem advanceIndex_arbiter (n : BufferName) : (advanceIndex n s).arbiter = s.arbiter := by
  simp [advanceIndex]
@[simp] theorem advanceIndex_clock (n : BufferName) : (advanceIndex n s).clock = s.clock := by
  simp [advanceIndex]
@[simp] theorem advanceIndex_run (n : BufferName) : (advanceIndex n s).run = s.run := by simp [advanceIndex]
@[simp] theorem advanceIndex_watch (n : BufferName) : (advanceIndex n s).watch = s.watch := by
  simp [advanceIndex]
@[simp] theorem advanceIndex_panel (n : BufferName) : (advanceIndex n s).panel = s.panel := by
  simp [advanceIndex]
@[simp] theorem advanceIndex_link (n : BufferName) : (advanceIndex n s).link = s.link := by
  simp [advanceIndex]
@[simp] theorem advanceIndex_pending (n : BufferName) : (advanceIndex n s).pending = s.pending := by
  simp [advanceIndex]

/-! ### endSpent -/

@[simp] theorem endSpent_store (n : BufferName) : (endSpent n s).store = s.store := by
  unfold endSpent; dsimp only; split <;> simp
@[simp] theorem endSpent_policy (n : BufferName) : (endSpent n s).policy = s.policy := by
  unfold endSpent; dsimp only; split <;> simp
@[simp] theorem endSpent_resolver (n : BufferName) : (endSpent n s).resolver = s.resolver := by
  unfold endSpent; dsimp only; split <;> simp
@[simp] theorem endSpent_arbiter (n : BufferName) : (endSpent n s).arbiter = s.arbiter := by
  unfold endSpent; dsimp only; split <;> simp
@[simp] theorem endSpent_run (n : BufferName) : (endSpent n s).run = s.run := by
  unfold endSpent; dsimp only; split <;> simp
@[simp] theorem endSpent_panel (n : BufferName) : (endSpent n s).panel = s.panel := by
  unfold endSpent; dsimp only; split <;> simp
@[simp] theorem endSpent_link (n : BufferName) : (endSpent n s).link = s.link := by
  unfold endSpent; dsimp only; split <;> simp
@[simp] theorem endSpent_pending (n : BufferName) : (endSpent n s).pending = s.pending := by
  unfold endSpent; dsimp only; split <;> simp

/-! ### applyCue -/

@[simp] theorem applyCue_store : (applyCue s).store = s.store := by unfold applyCue; split <;> simp
@[simp] theorem applyCue_policy : (applyCue s).policy = s.policy := by unfold applyCue; split <;> simp
@[simp] theorem applyCue_resolver : (applyCue s).resolver = s.resolver := by unfold applyCue; split <;> simp
@[simp] theorem applyCue_panel : (applyCue s).panel = s.panel := by unfold applyCue; split <;> simp
@[simp] theorem applyCue_link : (applyCue s).link = s.link := by unfold applyCue; split <;> simp
@[simp] theorem applyCue_pending : (applyCue s).pending = s.pending := by unfold applyCue; split <;> simp

/-! ### applyPlan -/

@[simp] theorem applyPlan_policy (time : Nat) (p : EntryPlan) : (applyPlan time p s).policy = s.policy := by
  unfold applyPlan; split
  · rfl
  · dsimp only; split <;> simp
  · simp
  · simp
@[simp] theorem applyPlan_panel (time : Nat) (p : EntryPlan) : (applyPlan time p s).panel = s.panel := by
  unfold applyPlan; split
  · rfl
  · dsimp only; split <;> simp
  · simp
  · simp
@[simp] theorem applyPlan_link (time : Nat) (p : EntryPlan) : (applyPlan time p s).link = s.link := by
  unfold applyPlan; split
  · rfl
  · dsimp only; split <;> simp
  · simp
  · simp
@[simp] theorem applyPlan_pending (time : Nat) (p : EntryPlan) : (applyPlan time p s).pending = s.pending := by
  unfold applyPlan; split
  · rfl
  · dsimp only; split <;> simp
  · simp
  · simp

/-! ### serveEntry -/

@[simp] theorem serveEntry_policy (n : BufferName) (e : BitVec 64) : (serveEntry n e s).policy = s.policy := by
  unfold serveEntry; dsimp only; split
  · simp
  · split
    · split <;> simp
    · simp
@[simp] theorem serveEntry_panel (n : BufferName) (e : BitVec 64) : (serveEntry n e s).panel = s.panel := by
  unfold serveEntry; dsimp only; split
  · simp
  · split
    · split <;> simp
    · simp
@[simp] theorem serveEntry_link (n : BufferName) (e : BitVec 64) : (serveEntry n e s).link = s.link := by
  unfold serveEntry; dsimp only; split
  · simp
  · split
    · split <;> simp
    · simp
@[simp] theorem serveEntry_pending (n : BufferName) (e : BitVec 64) : (serveEntry n e s).pending = s.pending := by
  unfold serveEntry; dsimp only; split
  · simp
  · split
    · split <;> simp
    · simp

/-! ### beginStep -/

@[simp] theorem beginStep_store : (beginStep s).store = s.store := by simp [beginStep]
@[simp] theorem beginStep_policy : (beginStep s).policy = s.policy := by simp [beginStep]
@[simp] theorem beginStep_resolver : (beginStep s).resolver = s.resolver := by simp [beginStep]
@[simp] theorem beginStep_arbiter : (beginStep s).arbiter = s.arbiter := by simp [beginStep]
@[simp] theorem beginStep_panel : (beginStep s).panel = s.panel := by simp [beginStep]
@[simp] theorem beginStep_link : (beginStep s).link = s.link := by simp [beginStep]
@[simp] theorem beginStep_pending : (beginStep s).pending = s.pending := by simp [beginStep]

/-! ### resumeRun -/

@[simp] theorem resumeRun_store : (resumeRun s).store = s.store := by simp [resumeRun]
@[simp] theorem resumeRun_policy : (resumeRun s).policy = s.policy := by simp [resumeRun]
@[simp] theorem resumeRun_resolver : (resumeRun s).resolver = s.resolver := by simp [resumeRun]
@[simp] theorem resumeRun_arbiter : (resumeRun s).arbiter = s.arbiter := by simp [resumeRun]
@[simp] theorem resumeRun_panel : (resumeRun s).panel = s.panel := by simp [resumeRun]
@[simp] theorem resumeRun_link : (resumeRun s).link = s.link := by simp [resumeRun]
@[simp] theorem resumeRun_pending : (resumeRun s).pending = s.pending := by simp [resumeRun]

/-! ### beginRestore -/

@[simp] theorem beginRestore_store : (beginRestore s).store = s.store := by simp [beginRestore]
@[simp] theorem beginRestore_policy : (beginRestore s).policy = s.policy := by simp [beginRestore]
@[simp] theorem beginRestore_link : (beginRestore s).link = s.link := by simp [beginRestore]
@[simp] theorem beginRestore_pending : (beginRestore s).pending = s.pending := by simp [beginRestore]

/-! ### restoreFirstStage -/

@[simp] theorem restoreFirstStage_store : (restoreFirstStage s).store = s.store := by
  simp [restoreFirstStage]
@[simp] theorem restoreFirstStage_policy : (restoreFirstStage s).policy = s.policy := by
  simp [restoreFirstStage]
@[simp] theorem restoreFirstStage_arbiter : (restoreFirstStage s).arbiter = s.arbiter := by
  simp [restoreFirstStage]
@[simp] theorem restoreFirstStage_panel : (restoreFirstStage s).panel = s.panel := by
  simp [restoreFirstStage]
@[simp] theorem restoreFirstStage_link : (restoreFirstStage s).link = s.link := by simp [restoreFirstStage]
@[simp] theorem restoreFirstStage_pending : (restoreFirstStage s).pending = s.pending := by
  simp [restoreFirstStage]

/-! ### restoreSecondStage -/

@[simp] theorem restoreSecondStage_policy : (restoreSecondStage s).policy = s.policy := by rfl
@[simp] theorem restoreSecondStage_resolver : (restoreSecondStage s).resolver = s.resolver := by rfl
@[simp] theorem restoreSecondStage_arbiter : (restoreSecondStage s).arbiter = s.arbiter := by rfl
@[simp] theorem restoreSecondStage_clock : (restoreSecondStage s).clock = s.clock := by rfl
@[simp] theorem restoreSecondStage_sequencer : (restoreSecondStage s).sequencer = s.sequencer := by rfl
@[simp] theorem restoreSecondStage_watch : (restoreSecondStage s).watch = s.watch := by rfl
@[simp] theorem restoreSecondStage_panel : (restoreSecondStage s).panel = s.panel := by rfl
@[simp] theorem restoreSecondStage_link : (restoreSecondStage s).link = s.link := by rfl
@[simp] theorem restoreSecondStage_pending : (restoreSecondStage s).pending = s.pending := by rfl

/-! ### restoreEnd -/

@[simp] theorem restoreEnd_policy : (restoreEnd s).policy = s.policy := by simp [restoreEnd]
@[simp] theorem restoreEnd_clock : (restoreEnd s).clock = s.clock := by simp [restoreEnd]
@[simp] theorem restoreEnd_sequencer : (restoreEnd s).sequencer = s.sequencer := by simp [restoreEnd]
@[simp] theorem restoreEnd_link : (restoreEnd s).link = s.link := by simp [restoreEnd]
@[simp] theorem restoreEnd_pending : (restoreEnd s).pending = s.pending := by simp [restoreEnd]

/-! ### compileIncidenceLists -/

@[simp] theorem compileIncidenceLists_policy : (compileIncidenceLists s).policy = s.policy := by rfl
@[simp] theorem compileIncidenceLists_resolver : (compileIncidenceLists s).resolver = s.resolver := by rfl
@[simp] theorem compileIncidenceLists_arbiter : (compileIncidenceLists s).arbiter = s.arbiter := by rfl
@[simp] theorem compileIncidenceLists_clock : (compileIncidenceLists s).clock = s.clock := by rfl
@[simp] theorem compileIncidenceLists_sequencer : (compileIncidenceLists s).sequencer = s.sequencer := by
  rfl
@[simp] theorem compileIncidenceLists_watch : (compileIncidenceLists s).watch = s.watch := by rfl
@[simp] theorem compileIncidenceLists_panel : (compileIncidenceLists s).panel = s.panel := by rfl
@[simp] theorem compileIncidenceLists_link : (compileIncidenceLists s).link = s.link := by rfl
@[simp] theorem compileIncidenceLists_pending : (compileIncidenceLists s).pending = s.pending := by rfl

/-! ### compileStartingValues -/

@[simp] theorem compileStartingValues_policy : (compileStartingValues s).policy = s.policy := by rfl
@[simp] theorem compileStartingValues_resolver : (compileStartingValues s).resolver = s.resolver := by rfl
@[simp] theorem compileStartingValues_arbiter : (compileStartingValues s).arbiter = s.arbiter := by rfl
@[simp] theorem compileStartingValues_clock : (compileStartingValues s).clock = s.clock := by rfl
@[simp] theorem compileStartingValues_sequencer : (compileStartingValues s).sequencer = s.sequencer := by
  rfl
@[simp] theorem compileStartingValues_watch : (compileStartingValues s).watch = s.watch := by rfl
@[simp] theorem compileStartingValues_panel : (compileStartingValues s).panel = s.panel := by rfl
@[simp] theorem compileStartingValues_link : (compileStartingValues s).link = s.link := by rfl
@[simp] theorem compileStartingValues_pending : (compileStartingValues s).pending = s.pending := by rfl

/-! ### compileEnd -/

@[simp] theorem compileEnd_policy : (compileEnd s).policy = s.policy := by simp [compileEnd]
@[simp] theorem compileEnd_clock : (compileEnd s).clock = s.clock := by simp [compileEnd]
@[simp] theorem compileEnd_sequencer : (compileEnd s).sequencer = s.sequencer := by simp [compileEnd]
@[simp] theorem compileEnd_link : (compileEnd s).link = s.link := by simp [compileEnd]
@[simp] theorem compileEnd_pending : (compileEnd s).pending = s.pending := by simp [compileEnd]

/-! ### takeFunction -/

@[simp] theorem takeFunction_store (f : CueFunction) : (takeFunction f s).store = s.store := by
  unfold takeFunction; split <;> simp
@[simp] theorem takeFunction_policy (f : CueFunction) : (takeFunction f s).policy = s.policy := by
  unfold takeFunction; split <;> simp
@[simp] theorem takeFunction_resolver (f : CueFunction) : (takeFunction f s).resolver = s.resolver := by
  unfold takeFunction; split <;> simp
@[simp] theorem takeFunction_panel (f : CueFunction) : (takeFunction f s).panel = s.panel := by
  unfold takeFunction; split <;> simp
@[simp] theorem takeFunction_link (f : CueFunction) : (takeFunction f s).link = s.link := by
  unfold takeFunction; split <;> simp
@[simp] theorem takeFunction_pending (f : CueFunction) : (takeFunction f s).pending = s.pending := by
  unfold takeFunction; split <;> simp

/-! ### assertingEdge -/

@[simp] theorem assertingEdge_policy (n : Fin 8) : (assertingEdge n s).policy = s.policy := by
  unfold assertingEdge; dsimp only; rw [arbitrate_policy, takeFunction_policy]; split <;> simp
@[simp] theorem assertingEdge_pending (n : Fin 8) : (assertingEdge n s).pending = s.pending := by
  unfold assertingEdge; dsimp only; rw [arbitrate_pending, takeFunction_pending]; split <;> simp

/-! ### sampleLine -/

@[simp] theorem sampleLine_policy (levels : Byte) (n : Fin 8) : (sampleLine levels s n).policy = s.policy := by
  unfold sampleLine; dsimp only; split <;> simp
@[simp] theorem sampleLine_pending (levels : Byte) (n : Fin 8) : (sampleLine levels s n).pending = s.pending := by
  unfold sampleLine; dsimp only; split <;> simp

/-! ### sampleEvent -/

@[simp] theorem sampleEvent_policy (levels : Byte) (order : List (Fin 8)) : (sampleEvent levels order s).policy = s.policy := by
  unfold sampleEvent
  generalize cueOrder order = l
  induction l generalizing s with
  | nil => rfl
  | cons a l ih => rw [List.foldl_cons, ih]; simp
@[simp] theorem sampleEvent_pending (levels : Byte) (order : List (Fin 8)) : (sampleEvent levels order s).pending = s.pending := by
  unfold sampleEvent
  generalize cueOrder order = l
  induction l generalizing s with
  | nil => rfl
  | cons a l ih => rw [List.foldl_cons, ih]; simp

/-! ### mergeGuard -/

@[simp] theorem mergeGuard_store (sw : Nat) (j : JobInProgress) : (mergeGuard sw j s).store = s.store := by
  unfold mergeGuard; repeat' split
  all_goals simp
@[simp] theorem mergeGuard_policy (sw : Nat) (j : JobInProgress) : (mergeGuard sw j s).policy = s.policy := by
  unfold mergeGuard; repeat' split
  all_goals simp
@[simp] theorem mergeGuard_arbiter (sw : Nat) (j : JobInProgress) : (mergeGuard sw j s).arbiter = s.arbiter := by
  unfold mergeGuard; repeat' split
  all_goals simp
@[simp] theorem mergeGuard_sequencer (sw : Nat) (j : JobInProgress) : (mergeGuard sw j s).sequencer = s.sequencer := by
  unfold mergeGuard; repeat' split
  all_goals simp
@[simp] theorem mergeGuard_run (sw : Nat) (j : JobInProgress) : (mergeGuard sw j s).run = s.run := by
  unfold mergeGuard; repeat' split
  all_goals simp
@[simp] theorem mergeGuard_link (sw : Nat) (j : JobInProgress) : (mergeGuard sw j s).link = s.link := by
  unfold mergeGuard; repeat' split
  all_goals simp
@[simp] theorem mergeGuard_pending (sw : Nat) (j : JobInProgress) : (mergeGuard sw j s).pending = s.pending := by
  unfold mergeGuard; repeat' split
  all_goals simp

/-! ### mergeRelabel -/

@[simp] theorem mergeRelabel_policy (cause : Nat) (j : JobInProgress) : (mergeRelabel cause j s).policy = s.policy := by
  unfold mergeRelabel; dsimp only; repeat' split
  all_goals simp
@[simp] theorem mergeRelabel_arbiter (cause : Nat) (j : JobInProgress) : (mergeRelabel cause j s).arbiter = s.arbiter := by
  unfold mergeRelabel; dsimp only; repeat' split
  all_goals simp
@[simp] theorem mergeRelabel_sequencer (cause : Nat) (j : JobInProgress) : (mergeRelabel cause j s).sequencer = s.sequencer := by
  unfold mergeRelabel; dsimp only; repeat' split
  all_goals simp
@[simp] theorem mergeRelabel_run (cause : Nat) (j : JobInProgress) : (mergeRelabel cause j s).run = s.run := by
  unfold mergeRelabel; dsimp only; repeat' split
  all_goals simp
@[simp] theorem mergeRelabel_link (cause : Nat) (j : JobInProgress) : (mergeRelabel cause j s).link = s.link := by
  unfold mergeRelabel; dsimp only; repeat' split
  all_goals simp
@[simp] theorem mergeRelabel_pending (cause : Nat) (j : JobInProgress) : (mergeRelabel cause j s).pending = s.pending := by
  unfold mergeRelabel; dsimp only; repeat' split
  all_goals simp

/-! ### splitTurn -/

@[simp] theorem splitTurn_store (j : JobInProgress) : (splitTurn j s).store = s.store := by
  unfold splitTurn; repeat' split
  all_goals simp
@[simp] theorem splitTurn_policy (j : JobInProgress) : (splitTurn j s).policy = s.policy := by
  unfold splitTurn; repeat' split
  all_goals simp
@[simp] theorem splitTurn_arbiter (j : JobInProgress) : (splitTurn j s).arbiter = s.arbiter := by
  unfold splitTurn; repeat' split
  all_goals simp
@[simp] theorem splitTurn_sequencer (j : JobInProgress) : (splitTurn j s).sequencer = s.sequencer := by
  unfold splitTurn; repeat' split
  all_goals simp
@[simp] theorem splitTurn_run (j : JobInProgress) : (splitTurn j s).run = s.run := by
  unfold splitTurn; repeat' split
  all_goals simp
@[simp] theorem splitTurn_link (j : JobInProgress) : (splitTurn j s).link = s.link := by
  unfold splitTurn; repeat' split
  all_goals simp
@[simp] theorem splitTurn_pending (j : JobInProgress) : (splitTurn j s).pending = s.pending := by
  unfold splitTurn; repeat' split
  all_goals simp

/-! ### splitGuard -/

@[simp] theorem splitGuard_store (sw : Nat) (j : JobInProgress) : (splitGuard sw j s).store = s.store := by
  unfold splitGuard; repeat' split
  all_goals simp
@[simp] theorem splitGuard_policy (sw : Nat) (j : JobInProgress) : (splitGuard sw j s).policy = s.policy := by
  unfold splitGuard; repeat' split
  all_goals simp
@[simp] theorem splitGuard_arbiter (sw : Nat) (j : JobInProgress) : (splitGuard sw j s).arbiter = s.arbiter := by
  unfold splitGuard; repeat' split
  all_goals simp
@[simp] theorem splitGuard_sequencer (sw : Nat) (j : JobInProgress) : (splitGuard sw j s).sequencer = s.sequencer := by
  unfold splitGuard; repeat' split
  all_goals simp
@[simp] theorem splitGuard_run (sw : Nat) (j : JobInProgress) : (splitGuard sw j s).run = s.run := by
  unfold splitGuard; repeat' split
  all_goals simp
@[simp] theorem splitGuard_link (sw : Nat) (j : JobInProgress) : (splitGuard sw j s).link = s.link := by
  unfold splitGuard; repeat' split
  all_goals simp
@[simp] theorem splitGuard_pending (sw : Nat) (j : JobInProgress) : (splitGuard sw j s).pending = s.pending := by
  unfold splitGuard; repeat' split
  all_goals simp

/-! ### splitRelabel -/

@[simp] theorem splitRelabel_policy (cause : Nat) (j : JobInProgress) : (splitRelabel cause j s).policy = s.policy := by
  unfold splitRelabel; dsimp only; repeat' split
  all_goals simp
@[simp] theorem splitRelabel_arbiter (cause : Nat) (j : JobInProgress) : (splitRelabel cause j s).arbiter = s.arbiter := by
  unfold splitRelabel; dsimp only; repeat' split
  all_goals simp
@[simp] theorem splitRelabel_sequencer (cause : Nat) (j : JobInProgress) : (splitRelabel cause j s).sequencer = s.sequencer := by
  unfold splitRelabel; dsimp only; repeat' split
  all_goals simp
@[simp] theorem splitRelabel_run (cause : Nat) (j : JobInProgress) : (splitRelabel cause j s).run = s.run := by
  unfold splitRelabel; dsimp only; repeat' split
  all_goals simp
@[simp] theorem splitRelabel_link (cause : Nat) (j : JobInProgress) : (splitRelabel cause j s).link = s.link := by
  unfold splitRelabel; dsimp only; repeat' split
  all_goals simp
@[simp] theorem splitRelabel_pending (cause : Nat) (j : JobInProgress) : (splitRelabel cause j s).pending = s.pending := by
  unfold splitRelabel; dsimp only; repeat' split
  all_goals simp

/-! ### sourceJob -/

@[simp] theorem sourceJob_policy (n : Nat) (v : Bool) (cause : Nat) (j : JobInProgress) : (sourceJob n v cause j s).policy = s.policy := by
  unfold sourceJob; dsimp only; repeat' split
  all_goals simp
@[simp] theorem sourceJob_arbiter (n : Nat) (v : Bool) (cause : Nat) (j : JobInProgress) : (sourceJob n v cause j s).arbiter = s.arbiter := by
  unfold sourceJob; dsimp only; repeat' split
  all_goals simp
@[simp] theorem sourceJob_sequencer (n : Nat) (v : Bool) (cause : Nat) (j : JobInProgress) : (sourceJob n v cause j s).sequencer = s.sequencer := by
  unfold sourceJob; dsimp only; repeat' split
  all_goals simp
@[simp] theorem sourceJob_run (n : Nat) (v : Bool) (cause : Nat) (j : JobInProgress) : (sourceJob n v cause j s).run = s.run := by
  unfold sourceJob; dsimp only; repeat' split
  all_goals simp
@[simp] theorem sourceJob_link (n : Nat) (v : Bool) (cause : Nat) (j : JobInProgress) : (sourceJob n v cause j s).link = s.link := by
  unfold sourceJob; dsimp only; repeat' split
  all_goals simp
@[simp] theorem sourceJob_pending (n : Nat) (v : Bool) (cause : Nat) (j : JobInProgress) : (sourceJob n v cause j s).pending = s.pending := by
  unfold sourceJob; dsimp only; repeat' split
  all_goals simp

/-! ### pushRecord -/

@[simp] theorem pushRecord_store (data : List Byte) : (pushRecord data s).store = s.store := by
  unfold pushRecord; dsimp only; split <;> rfl
@[simp] theorem pushRecord_policy (data : List Byte) : (pushRecord data s).policy = s.policy := by
  unfold pushRecord; dsimp only; split <;> rfl
@[simp] theorem pushRecord_resolver (data : List Byte) : (pushRecord data s).resolver = s.resolver := by
  unfold pushRecord; dsimp only; split <;> rfl
@[simp] theorem pushRecord_arbiter (data : List Byte) : (pushRecord data s).arbiter = s.arbiter := by
  unfold pushRecord; dsimp only; split <;> rfl
@[simp] theorem pushRecord_clock (data : List Byte) : (pushRecord data s).clock = s.clock := by
  unfold pushRecord; dsimp only; split <;> rfl
@[simp] theorem pushRecord_sequencer (data : List Byte) : (pushRecord data s).sequencer = s.sequencer := by
  unfold pushRecord; dsimp only; split <;> rfl
@[simp] theorem pushRecord_run (data : List Byte) : (pushRecord data s).run = s.run := by
  unfold pushRecord; dsimp only; split <;> rfl
@[simp] theorem pushRecord_watch (data : List Byte) : (pushRecord data s).watch = s.watch := by
  unfold pushRecord; dsimp only; split <;> rfl
@[simp] theorem pushRecord_panel (data : List Byte) : (pushRecord data s).panel = s.panel := by
  unfold pushRecord; dsimp only; split <;> rfl
@[simp] theorem pushRecord_pending (data : List Byte) : (pushRecord data s).pending = s.pending := by
  unfold pushRecord; dsimp only; split <;> rfl

/-! ### readRecord -/

@[simp] theorem readRecord_store (x : Stream) : (readRecord x s).store = s.store := by simp [readRecord]
@[simp] theorem readRecord_policy (x : Stream) : (readRecord x s).policy = s.policy := by simp [readRecord]
@[simp] theorem readRecord_resolver (x : Stream) : (readRecord x s).resolver = s.resolver := by
  simp [readRecord]
@[simp] theorem readRecord_arbiter (x : Stream) : (readRecord x s).arbiter = s.arbiter := by
  simp [readRecord]
@[simp] theorem readRecord_clock (x : Stream) : (readRecord x s).clock = s.clock := by simp [readRecord]
@[simp] theorem readRecord_sequencer (x : Stream) : (readRecord x s).sequencer = s.sequencer := by
  simp [readRecord]
@[simp] theorem readRecord_run (x : Stream) : (readRecord x s).run = s.run := by simp [readRecord]
@[simp] theorem readRecord_watch (x : Stream) : (readRecord x s).watch = s.watch := by simp [readRecord]
@[simp] theorem readRecord_panel (x : Stream) : (readRecord x s).panel = s.panel := by simp [readRecord]
@[simp] theorem readRecord_pending (x : Stream) : (readRecord x s).pending = s.pending := by
  simp [readRecord]

/-! ### putBackCapture -/

@[simp] theorem putBackCapture_store : (putBackCapture s).store = s.store := by
  unfold putBackCapture; split <;> rfl
@[simp] theorem putBackCapture_policy : (putBackCapture s).policy = s.policy := by
  unfold putBackCapture; split <;> rfl
@[simp] theorem putBackCapture_resolver : (putBackCapture s).resolver = s.resolver := by
  unfold putBackCapture; split <;> rfl
@[simp] theorem putBackCapture_arbiter : (putBackCapture s).arbiter = s.arbiter := by
  unfold putBackCapture; split <;> rfl
@[simp] theorem putBackCapture_clock : (putBackCapture s).clock = s.clock := by
  unfold putBackCapture; split <;> rfl
@[simp] theorem putBackCapture_sequencer : (putBackCapture s).sequencer = s.sequencer := by
  unfold putBackCapture; split <;> rfl
@[simp] theorem putBackCapture_run : (putBackCapture s).run = s.run := by
  unfold putBackCapture; split <;> rfl
@[simp] theorem putBackCapture_panel : (putBackCapture s).panel = s.panel := by
  unfold putBackCapture; split <;> rfl
@[simp] theorem putBackCapture_link : (putBackCapture s).link = s.link := by
  unfold putBackCapture; split <;> rfl
@[simp] theorem putBackCapture_pending : (putBackCapture s).pending = s.pending := by
  unfold putBackCapture; split <;> rfl

/-! ### endReply -/

@[simp] theorem endReply_store : (endReply s).store = s.store := by
  unfold endReply; split
  · rfl
  · split <;> rfl
@[simp] theorem endReply_policy : (endReply s).policy = s.policy := by
  unfold endReply; split
  · rfl
  · split <;> rfl
@[simp] theorem endReply_resolver : (endReply s).resolver = s.resolver := by
  unfold endReply; split
  · rfl
  · split <;> rfl
@[simp] theorem endReply_arbiter : (endReply s).arbiter = s.arbiter := by
  unfold endReply; split
  · rfl
  · split <;> rfl
@[simp] theorem endReply_clock : (endReply s).clock = s.clock := by
  unfold endReply; split
  · rfl
  · split <;> rfl
@[simp] theorem endReply_sequencer : (endReply s).sequencer = s.sequencer := by
  unfold endReply; split
  · rfl
  · split <;> rfl
@[simp] theorem endReply_run : (endReply s).run = s.run := by
  unfold endReply; split
  · rfl
  · split <;> rfl
@[simp] theorem endReply_watch : (endReply s).watch = s.watch := by
  unfold endReply; split
  · rfl
  · split <;> rfl
@[simp] theorem endReply_panel : (endReply s).panel = s.panel := by
  unfold endReply; split
  · rfl
  · split <;> rfl
@[simp] theorem endReply_pending : (endReply s).pending = s.pending := by
  unfold endReply; split
  · rfl
  · split <;> rfl

/-! ### lateEffect -/

@[simp] theorem lateEffect_store (r : LateRead) : (r.effect s).store = s.store := by cases r <;> rfl
@[simp] theorem lateEffect_policy (r : LateRead) : (r.effect s).policy = s.policy := by cases r <;> rfl
@[simp] theorem lateEffect_resolver (r : LateRead) : (r.effect s).resolver = s.resolver := by
  cases r <;> rfl
@[simp] theorem lateEffect_arbiter (r : LateRead) : (r.effect s).arbiter = s.arbiter := by cases r <;> rfl
@[simp] theorem lateEffect_clock (r : LateRead) : (r.effect s).clock = s.clock := by cases r <;> rfl
@[simp] theorem lateEffect_sequencer (r : LateRead) : (r.effect s).sequencer = s.sequencer := by
  cases r <;> rfl
@[simp] theorem lateEffect_run (r : LateRead) : (r.effect s).run = s.run := by cases r <;> rfl
@[simp] theorem lateEffect_panel (r : LateRead) : (r.effect s).panel = s.panel := by cases r <;> rfl
@[simp] theorem lateEffect_pending (r : LateRead) : (r.effect s).pending = s.pending := by cases r <;> rfl

/-! ### takeItems -/

@[simp] theorem takeItems_store : (takeItems s).store = s.store := by unfold takeItems; split <;> simp
@[simp] theorem takeItems_policy : (takeItems s).policy = s.policy := by unfold takeItems; split <;> simp
@[simp] theorem takeItems_resolver : (takeItems s).resolver = s.resolver := by
  unfold takeItems; split <;> simp
@[simp] theorem takeItems_arbiter : (takeItems s).arbiter = s.arbiter := by unfold takeItems; split <;> simp
@[simp] theorem takeItems_clock : (takeItems s).clock = s.clock := by unfold takeItems; split <;> simp
@[simp] theorem takeItems_sequencer : (takeItems s).sequencer = s.sequencer := by
  unfold takeItems; split <;> simp
@[simp] theorem takeItems_run : (takeItems s).run = s.run := by unfold takeItems; split <;> simp
@[simp] theorem takeItems_panel : (takeItems s).panel = s.panel := by unfold takeItems; split <;> simp
@[simp] theorem takeItems_pending : (takeItems s).pending = s.pending := by unfold takeItems; split <;> simp

/-! ### sendStatus -/

@[simp] theorem sendStatus_store : (sendStatus s).store = s.store := by
  unfold sendStatus; dsimp only; repeat' split
  all_goals simp
@[simp] theorem sendStatus_policy : (sendStatus s).policy = s.policy := by
  unfold sendStatus; dsimp only; repeat' split
  all_goals simp
@[simp] theorem sendStatus_resolver : (sendStatus s).resolver = s.resolver := by
  unfold sendStatus; dsimp only; repeat' split
  all_goals simp
@[simp] theorem sendStatus_arbiter : (sendStatus s).arbiter = s.arbiter := by
  unfold sendStatus; dsimp only; repeat' split
  all_goals simp
@[simp] theorem sendStatus_clock : (sendStatus s).clock = s.clock := by
  unfold sendStatus; dsimp only; repeat' split
  all_goals simp
@[simp] theorem sendStatus_sequencer : (sendStatus s).sequencer = s.sequencer := by
  unfold sendStatus; dsimp only; repeat' split
  all_goals simp
@[simp] theorem sendStatus_run : (sendStatus s).run = s.run := by
  unfold sendStatus; dsimp only; repeat' split
  all_goals simp
@[simp] theorem sendStatus_panel : (sendStatus s).panel = s.panel := by
  unfold sendStatus; dsimp only; repeat' split
  all_goals simp
@[simp] theorem sendStatus_pending : (sendStatus s).pending = s.pending := by
  unfold sendStatus; dsimp only; repeat' split
  all_goals simp

/-! ### endStatus -/

@[simp] theorem endStatus_store : (endStatus s).store = s.store := by unfold endStatus; split <;> simp
@[simp] theorem endStatus_policy : (endStatus s).policy = s.policy := by unfold endStatus; split <;> simp
@[simp] theorem endStatus_resolver : (endStatus s).resolver = s.resolver := by
  unfold endStatus; split <;> simp
@[simp] theorem endStatus_arbiter : (endStatus s).arbiter = s.arbiter := by unfold endStatus; split <;> simp
@[simp] theorem endStatus_clock : (endStatus s).clock = s.clock := by unfold endStatus; split <;> simp
@[simp] theorem endStatus_sequencer : (endStatus s).sequencer = s.sequencer := by
  unfold endStatus; split <;> simp
@[simp] theorem endStatus_run : (endStatus s).run = s.run := by unfold endStatus; split <;> simp
@[simp] theorem endStatus_panel : (endStatus s).panel = s.panel := by unfold endStatus; split <;> simp
@[simp] theorem endStatus_pending : (endStatus s).pending = s.pending := by unfold endStatus; split <;> simp

/-! ### beginWait -/

@[simp] theorem beginWait_store : (beginWait s).store = s.store := by unfold beginWait; split <;> rfl
@[simp] theorem beginWait_policy : (beginWait s).policy = s.policy := by unfold beginWait; split <;> rfl
@[simp] theorem beginWait_resolver : (beginWait s).resolver = s.resolver := by
  unfold beginWait; split <;> rfl
@[simp] theorem beginWait_arbiter : (beginWait s).arbiter = s.arbiter := by unfold beginWait; split <;> rfl
@[simp] theorem beginWait_clock : (beginWait s).clock = s.clock := by unfold beginWait; split <;> rfl
@[simp] theorem beginWait_sequencer : (beginWait s).sequencer = s.sequencer := by
  unfold beginWait; split <;> rfl
@[simp] theorem beginWait_run : (beginWait s).run = s.run := by unfold beginWait; split <;> rfl
@[simp] theorem beginWait_watch : (beginWait s).watch = s.watch := by unfold beginWait; split <;> rfl
@[simp] theorem beginWait_panel : (beginWait s).panel = s.panel := by unfold beginWait; split <;> rfl
@[simp] theorem beginWait_pending : (beginWait s).pending = s.pending := by unfold beginWait; split <;> rfl

/-! ### sendReply -/

@[simp] theorem sendReply_store : (sendReply s).store = s.store := by
  unfold sendReply; dsimp only; split <;> simp
@[simp] theorem sendReply_policy : (sendReply s).policy = s.policy := by
  unfold sendReply; dsimp only; split <;> simp
@[simp] theorem sendReply_resolver : (sendReply s).resolver = s.resolver := by
  unfold sendReply; dsimp only; split <;> simp
@[simp] theorem sendReply_arbiter : (sendReply s).arbiter = s.arbiter := by
  unfold sendReply; dsimp only; split <;> simp
@[simp] theorem sendReply_clock : (sendReply s).clock = s.clock := by
  unfold sendReply; dsimp only; split <;> simp
@[simp] theorem sendReply_sequencer : (sendReply s).sequencer = s.sequencer := by
  unfold sendReply; dsimp only; split <;> simp
@[simp] theorem sendReply_run : (sendReply s).run = s.run := by unfold sendReply; dsimp only; split <;> simp
@[simp] theorem sendReply_watch : (sendReply s).watch = s.watch := by
  unfold sendReply; dsimp only; split <;> simp
@[simp] theorem sendReply_panel : (sendReply s).panel = s.panel := by
  unfold sendReply; dsimp only; split <;> simp
@[simp] theorem sendReply_pending : (sendReply s).pending = s.pending := by
  unfold sendReply; dsimp only; split <;> simp

/-! ### endLinkGrant -/

@[simp] theorem endLinkGrant_store : (endLinkGrant s).store = s.store := by
  unfold endLinkGrant; split <;> rfl
@[simp] theorem endLinkGrant_policy : (endLinkGrant s).policy = s.policy := by
  unfold endLinkGrant; split <;> rfl
@[simp] theorem endLinkGrant_resolver : (endLinkGrant s).resolver = s.resolver := by
  unfold endLinkGrant; split <;> rfl
@[simp] theorem endLinkGrant_clock : (endLinkGrant s).clock = s.clock := by
  unfold endLinkGrant; split <;> rfl
@[simp] theorem endLinkGrant_sequencer : (endLinkGrant s).sequencer = s.sequencer := by
  unfold endLinkGrant; split <;> rfl
@[simp] theorem endLinkGrant_run : (endLinkGrant s).run = s.run := by unfold endLinkGrant; split <;> rfl
@[simp] theorem endLinkGrant_watch : (endLinkGrant s).watch = s.watch := by
  unfold endLinkGrant; split <;> rfl
@[simp] theorem endLinkGrant_panel : (endLinkGrant s).panel = s.panel := by
  unfold endLinkGrant; split <;> rfl
@[simp] theorem endLinkGrant_link : (endLinkGrant s).link = s.link := by unfold endLinkGrant; split <;> rfl
@[simp] theorem endLinkGrant_pending : (endLinkGrant s).pending = s.pending := by
  unfold endLinkGrant; split <;> rfl

end Sys2Proof.Machine
end

