-- ==== Sys2Proof/Laws/Tables.lean ====
section
/-! SUPPORT. The laws of the sparse tables: a read after a write gives what was written, a write leaves every other
id alone, and every operation keeps the canonical form. -/

namespace Sys2Proof.Machine

variable {α : Type}

/-! ### Reads after writes -/

@[simp] theorem Tab.get_put_same (t : Tab α) (k : Nat) (v : α) : Tab.get (Tab.put t k v) k = some v := by
  induction t with
  | nil => simp [Tab.put, Tab.get]
  | cons p t ih =>
    obtain ⟨i, w⟩ := p
    simp only [Tab.put]
    split
    · simp [Tab.get]
    · split
      · simp [Tab.get]
      · rename_i h1 h2
        simp [Tab.get, show i ≠ k from fun h => h2 h.symm, ih]

theorem Tab.get_put_other (t : Tab α) (k m : Nat) (v : α) (h : m ≠ k) :
    Tab.get (Tab.put t k v) m = Tab.get t m := by
  induction t with
  | nil => simp [Tab.put, Tab.get, h.symm]
  | cons p t ih =>
    obtain ⟨i, w⟩ := p
    simp only [Tab.put]
    split
    · simp [Tab.get, h.symm]
    · split
      · rename_i h1 h2
        subst h2
        simp [Tab.get, h.symm]
      · simp [Tab.get, ih]

theorem Tab.mem_put {t : Tab α} {k : Nat} {v : α} {p : Nat × α} (h : p ∈ Tab.put t k v) :
    p = (k, v) ∨ p ∈ t := by
  induction t with
  | nil => simp [Tab.put] at h; exact .inl h
  | cons q t ih =>
    obtain ⟨i, w⟩ := q
    simp only [Tab.put] at h
    split at h
    · simpa using h
    · split at h
      · rcases List.mem_cons.1 h with h | h
        · exact .inl h
        · exact .inr (List.mem_cons_of_mem _ h)
      · rcases List.mem_cons.1 h with h | h
        · exact .inr (h ▸ List.mem_cons_self ..)
        · exact (ih h).imp id (List.mem_cons_of_mem _)

theorem Tab.mem_del {t : Tab α} {k : Nat} {p : Nat × α} (h : p ∈ Tab.del t k) : p ∈ t := by
  induction t with
  | nil => simp [Tab.del] at h
  | cons q t ih =>
    obtain ⟨i, w⟩ := q
    simp only [Tab.del] at h
    split at h
    · exact List.mem_cons_of_mem _ h
    · rcases List.mem_cons.1 h with h | h
      · exact h ▸ List.mem_cons_self ..
      · exact List.mem_cons_of_mem _ (ih h)

theorem Tab.mem_of_get {t : Tab α} {k : Nat} {v : α} (h : Tab.get t k = some v) : (k, v) ∈ t := by
  induction t with
  | nil => simp [Tab.get] at h
  | cons q t ih =>
    obtain ⟨i, w⟩ := q
    simp only [Tab.get] at h
    split at h
    · rename_i hik
      cases h; subst hik; exact List.mem_cons_self ..
    · exact List.mem_cons_of_mem _ (ih h)

theorem Tab.mem_modify {t : Tab α} {k : Nat} {f : α → α} {p : Nat × α} (h : p ∈ Tab.modify t k f) :
    p ∈ t ∨ ∃ v, (k, v) ∈ t ∧ p = (k, f v) := by
  simp only [Tab.modify] at h
  split at h
  · rename_i v hv
    rcases Tab.mem_put h with h | h
    · exact .inr ⟨v, Tab.mem_of_get hv, h⟩
    · exact .inl h
  · exact .inl h

theorem Tab.mem_mapRecords {f : Nat → α → α} {t : Tab α} {p : Nat × α} :
    p ∈ Tab.mapRecords f t ↔ ∃ v, (p.1, v) ∈ t ∧ p.2 = f p.1 v := by
  obtain ⟨i, w⟩ := p
  simp only [Tab.mapRecords, List.mem_map, Prod.mk.injEq, Prod.exists]
  constructor
  · rintro ⟨a, b, h, rfl, rfl⟩; exact ⟨b, h, rfl⟩
  · rintro ⟨v, h, rfl⟩; exact ⟨i, v, h, rfl, rfl⟩

/-! ### The ids rise strictly -/

/-- Rising says that the list of ids is sorted strictly. -/
theorem Tab.rising_iff (t : Tab α) : Tab.Rising t = true ↔ t.Pairwise (fun p q => p.1 < q.1) := by
  induction t with
  | nil => simp [Tab.Rising]
  | cons p t ih =>
    obtain ⟨i, v⟩ := p
    cases t with
    | nil => simp [Tab.Rising]
    | cons q t =>
      obtain ⟨j, w⟩ := q
      rw [Tab.Rising, Bool.and_eq_true, ih, decide_eq_true_eq]
      constructor
      · rintro ⟨hij, hp⟩
        refine List.Pairwise.cons ?_ hp
        rintro r hr
        rcases List.mem_cons.1 hr with rfl | hr
        · exact hij
        · exact lt_trans hij (List.rel_of_pairwise_cons hp hr)
      · intro h
        exact ⟨List.rel_of_pairwise_cons h (List.mem_cons_self ..), h.of_cons⟩

theorem Tab.put_rising {t : Tab α} (k : Nat) (v : α) (h : Tab.Rising t = true) :
    Tab.Rising (Tab.put t k v) = true := by
  rw [Tab.rising_iff] at h ⊢
  induction t with
  | nil => simp [Tab.put]
  | cons p t ih =>
    obtain ⟨i, w⟩ := p
    simp only [Tab.put]
    split
    · rename_i hki
      refine List.Pairwise.cons ?_ h
      intro r hr
      rcases List.mem_cons.1 hr with rfl | hr
      · exact hki
      · exact lt_trans hki (List.rel_of_pairwise_cons h hr)
    · split
      · rename_i hik
        subst hik
        exact List.Pairwise.cons (fun r hr => List.rel_of_pairwise_cons h hr) h.of_cons
      · rename_i h1 h2
        refine List.Pairwise.cons ?_ (ih h.of_cons)
        intro r hr
        rcases Tab.mem_put hr with rfl | hr
        · show i < k
          omega
        · exact List.rel_of_pairwise_cons h hr

theorem Tab.del_rising {t : Tab α} (k : Nat) (h : Tab.Rising t = true) : Tab.Rising (Tab.del t k) = true := by
  rw [Tab.rising_iff] at h ⊢
  induction t with
  | nil => simp [Tab.del]
  | cons p t ih =>
    obtain ⟨i, w⟩ := p
    simp only [Tab.del]
    split
    · exact h.of_cons
    · exact List.Pairwise.cons (fun r hr => List.rel_of_pairwise_cons h (Tab.mem_del hr)) (ih h.of_cons)

theorem Tab.modify_rising {t : Tab α} (k : Nat) (f : α → α) (h : Tab.Rising t = true) :
    Tab.Rising (Tab.modify t k f) = true := by
  simp only [Tab.modify]
  split
  · exact Tab.put_rising _ _ h
  · exact h

theorem Tab.mapRecords_rising {t : Tab α} (f : Nat → α → α) (h : Tab.Rising t = true) :
    Tab.Rising (Tab.mapRecords f t) = true := by
  rw [Tab.rising_iff] at h ⊢
  simpa [Tab.mapRecords, List.pairwise_map] using h

/-- In a rising table a listed record is what its id reads. -/
theorem Tab.get_of_mem {t : Tab α} (hr : Tab.Rising t = true) {k : Nat} {v : α} (h : (k, v) ∈ t) :
    Tab.get t k = some v := by
  rw [Tab.rising_iff] at hr
  induction t with
  | nil => simp at h
  | cons p t ih =>
    obtain ⟨i, w⟩ := p
    rcases List.mem_cons.1 h with h | h
    · cases h; simp [Tab.get]
    · have : i < k := List.rel_of_pairwise_cons hr h
      simp [Tab.get, Nat.ne_of_lt this, ih hr.of_cons h]

/-- A rising table with every id below `b` lists at most `b` records. -/
theorem Tab.length_le {t : Tab α} (hr : Tab.Rising t = true) {b : Nat} (hb : ∀ p ∈ t, p.1 < b) :
    t.length ≤ b := by
  rw [Tab.rising_iff] at hr
  have hnd : (t.map (·.1)).Nodup := by
    rw [List.Nodup, List.pairwise_map]
    exact hr.imp fun h => Nat.ne_of_lt h
  have hsub : t.map (·.1) ⊆ List.range b := by
    intro i hi
    obtain ⟨p, hp, rfl⟩ := List.mem_map.1 hi
    exact List.mem_range.2 (hb p hp)
  simpa using (hnd.subperm hsub).length_le

/-! ### The canonical form of the three tables -/

/-- The canonical form, clause by clause. -/
theorem Store.canonical_iff (st : Store) : st.canonical = true ↔
    Tab.Rising st.nodes = true ∧ Tab.Rising st.switches = true ∧ Tab.Rising st.islands = true ∧
    (∀ p ∈ st.nodes, p.1 < Config.nodeCapacity) ∧ (∀ p ∈ st.switches, p.1 < Config.switchCapacity) ∧
    (∀ p ∈ st.islands, p.1 < Config.islandCapacity ∧ p.2 ≠ .absent) := by
  simp only [Store.canonical, Bool.and_eq_true, List.all_eq_true, decide_eq_true_eq, bne_iff_ne, and_assoc]

theorem reset_canonical : State.reset.store.canonical = true := by decide

theorem Store.putNode_canonical {st : Store} (h : st.canonical = true) {n : Nat} (r : NodeRec)
    (hn : n < Config.nodeCapacity) : ({ st with nodes := Tab.put st.nodes n r } : Store).canonical = true := by
  rw [Store.canonical_iff] at h ⊢
  obtain ⟨h1, h2, h3, h4, h5, h6⟩ := h
  refine ⟨Tab.put_rising _ _ h1, h2, h3, ?_, h5, h6⟩
  intro p hp
  rcases Tab.mem_put hp with rfl | hp
  · exact hn
  · exact h4 p hp

theorem Store.putSwitch_canonical {st : Store} (h : st.canonical = true) {n : Nat} (r : SwitchRec)
    (hn : n < Config.switchCapacity) :
    ({ st with switches := Tab.put st.switches n r } : Store).canonical = true := by
  rw [Store.canonical_iff] at h ⊢
  obtain ⟨h1, h2, h3, h4, h5, h6⟩ := h
  refine ⟨h1, Tab.put_rising _ _ h2, h3, h4, ?_, h6⟩
  intro p hp
  rcases Tab.mem_put hp with rfl | hp
  · exact hn
  · exact h5 p hp

theorem Store.modifyNode_canonical {st : Store} (h : st.canonical = true) (n : Nat) (f : NodeRec → NodeRec) :
    (st.modifyNode n f).canonical = true := by
  rw [Store.canonical_iff] at h ⊢
  obtain ⟨h1, h2, h3, h4, h5, h6⟩ := h
  refine ⟨Tab.modify_rising _ _ h1, h2, h3, ?_, h5, h6⟩
  intro p hp
  rcases Tab.mem_modify hp with hp | ⟨v, hv, rfl⟩
  · exact h4 p hp
  · exact h4 (n, v) hv

theorem Store.mapNodes_canonical {st : Store} (h : st.canonical = true) (f : Nat → NodeRec → NodeRec) :
    ({ st with nodes := Tab.mapRecords f st.nodes } : Store).canonical = true := by
  rw [Store.canonical_iff] at h ⊢
  obtain ⟨h1, h2, h3, h4, h5, h6⟩ := h
  refine ⟨Tab.mapRecords_rising _ h1, h2, h3, ?_, h5, h6⟩
  intro p hp
  obtain ⟨v, hv, -⟩ := Tab.mem_mapRecords.1 hp
  exact h4 (p.1, v) hv

theorem Store.mapSwitches_canonical {st : Store} (h : st.canonical = true) (f : Nat → SwitchRec → SwitchRec) :
    ({ st with switches := Tab.mapRecords f st.switches } : Store).canonical = true := by
  rw [Store.canonical_iff] at h ⊢
  obtain ⟨h1, h2, h3, h4, h5, h6⟩ := h
  refine ⟨h1, Tab.mapRecords_rising _ h2, h3, h4, ?_, h6⟩
  intro p hp
  obtain ⟨v, hv, -⟩ := Tab.mem_mapRecords.1 hp
  exact h5 (p.1, v) hv

theorem Store.setIslandRec_canonical {st : Store} (h : st.canonical = true) {k : Nat} (r : IslandRec)
    (hk : k < Config.islandCapacity) : (st.setIslandRec k r).canonical = true := by
  rw [Store.canonical_iff] at h ⊢
  obtain ⟨h1, h2, h3, h4, h5, h6⟩ := h
  by_cases hr : r = .absent
  · refine ⟨h1, h2, ?_, h4, h5, ?_⟩
    · simpa [Store.setIslandRec, hr] using Tab.del_rising k h3
    · intro p hp
      simp only [Store.setIslandRec, hr, if_true] at hp
      exact h6 p (Tab.mem_del hp)
  · refine ⟨h1, h2, ?_, h4, h5, ?_⟩
    · simpa [Store.setIslandRec, hr] using Tab.put_rising k r h3
    · intro p hp
      simp only [Store.setIslandRec, hr, if_false] at hp
      rcases Tab.mem_put hp with rfl | hp
      · exact ⟨hk, hr⟩
      · exact h6 p hp

/-- An existing island is listed, so its id is in range. -/
theorem Store.island_lt {st : Store} (h : st.canonical = true) {k : Nat} {b : Island} (hb : st.island k = some b) :
    k < Config.islandCapacity := by
  rw [Store.canonical_iff] at h
  simp only [Store.island, Store.islandRec] at hb
  cases hg : Tab.get st.islands k with
  | none => simp [hg, IslandRec.absent] at hb
  | some r => exact (h.2.2.2.2.2 _ (Tab.mem_of_get hg)).1

theorem Store.modifyIsland_canonical {st : Store} (h : st.canonical = true) (k : Nat) (f : Island → Island) :
    (st.modifyIsland k f).canonical = true := by
  simp only [Store.modifyIsland]
  split
  · rename_i b hb
    exact Store.setIslandRec_canonical h _ (Store.island_lt h hb)
  · exact h

theorem Store.createIsland_canonical {st : Store} (h : st.canonical = true) {k : Nat} (n since : Nat)
    (hk : k < Config.islandCapacity) : (st.createIsland k n since).canonical = true :=
  Store.setIslandRec_canonical h _ hk

theorem Store.appendMember_canonical {st : Store} (h : st.canonical = true) (k n : Nat) :
    (st.appendMember k n).canonical = true := by
  simp only [Store.appendMember]
  split
  · refine Store.modifyIsland_canonical (Store.modifyNode_canonical ?_ _ _) _ _
    split
    · exact h
    · exact Store.modifyNode_canonical h _ _
  · exact h

theorem Store.unlinkMember_canonical {st : Store} (h : st.canonical = true) (n : Nat) :
    (st.unlinkMember n).canonical = true := by
  simp only [Store.unlinkMember]
  split
  · split
    · refine Store.modifyIsland_canonical (Store.modifyNode_canonical ?_ _ _) _ _
      split
      · refine Store.modifyNode_canonical ?_ _ _
        split
        · exact Store.modifyNode_canonical h _ _
        · exact h
      · split
        · exact Store.modifyNode_canonical h _ _
        · exact h
    · exact h
  · exact h

theorem Store.refreshFeed_canonical {st : Store} (h : st.canonical = true) (k cause : Nat) :
    (st.refreshFeed k cause).canonical = true := Store.modifyIsland_canonical h _ _

theorem Store.retireIsland_canonical {st : Store} (h : st.canonical = true) {k : Nat}
    (hk : k < Config.islandCapacity) : (st.retireIsland k).canonical = true :=
  Store.setIslandRec_canonical h _ hk

theorem Store.retireIfEmpty_canonical {st : Store} (h : st.canonical = true) (k : Nat) :
    (st.retireIfEmpty k).canonical = true := by
  simp only [Store.retireIfEmpty]
  split
  · rename_i b hb
    split
    · exact Store.retireIsland_canonical h (Store.island_lt h hb)
    · exact h
  · exact h

theorem Store.moveNode_canonical {st : Store} (h : st.canonical = true) (n dst cause : Nat) :
    (st.moveNode n dst cause).canonical = true := by
  simp only [Store.moveNode]
  split
  · exact Store.retireIfEmpty_canonical
      (Store.refreshFeed_canonical (Store.refreshFeed_canonical
        (Store.appendMember_canonical (Store.unlinkMember_canonical h _) _ _) _ _) _ _) _
  · exact Store.retireIfEmpty_canonical h _

theorem Store.retireAll_canonical {st : Store} (h : st.canonical = true) : st.retireAll.canonical = true := by
  have step : ∀ (l : Tab IslandRec) (st : Store), st.canonical = true →
      (∀ p ∈ l, p.1 < Config.islandCapacity) →
      (l.foldl (fun st p => st.retireIsland p.1) st).canonical = true := by
    intro l
    induction l with
    | nil => intro st h _; exact h
    | cons p l ih =>
      intro st h hl
      exact ih _ (Store.retireIsland_canonical h (hl p (List.mem_cons_self ..)))
        fun q hq => hl q (List.mem_cons_of_mem _ hq)
  refine step _ _ h fun p hp => ?_
  rw [Store.canonical_iff] at h
  exact (h.2.2.2.2.2 p (List.mem_of_mem_filter hp)).1

theorem Store.setOnline_canonical {st : Store} (h : st.canonical = true) (n k : Nat) (v : Bool) (cause : Nat) :
    (st.setOnline n k v cause).canonical = true :=
  Store.refreshFeed_canonical (Store.modifyIsland_canonical (Store.modifyNode_canonical h _ _) _ _) _ _

theorem Store.labelVisit_canonical (k n : Nat) (sws : List Nat) :
    ∀ (queue : List Nat) {st : Store}, st.canonical = true →
      (Store.labelVisit k n sws queue st).2.canonical = true := by
  induction sws with
  | nil => intro queue st h; exact h
  | cons sw rest ih =>
    intro queue st h
    simp only [Store.labelVisit]
    split
    · split
      · split
        · split
          · exact ih _ (Store.appendMember_canonical h _ _)
          · exact ih _ h
        · exact ih _ h
      · exact ih _ h
    · exact ih _ h

theorem Store.labelSearch_canonical (k fuel : Nat) :
    ∀ (queue : List Nat) {st : Store}, st.canonical = true →
      (Store.labelSearch k fuel queue st).canonical = true := by
  induction fuel with
  | zero => intro queue st h; exact h
  | succ fuel ih =>
    intro queue st h
    cases queue with
    | nil => exact h
    | cons n queue =>
      simp only [Store.labelSearch]
      split
      · exact ih _ (Store.labelVisit_canonical _ _ _ _ h)
      · exact ih _ h

theorem Store.labelFrom_canonical (now fuel : Nat) :
    ∀ (k : Nat) {st : Store}, st.canonical = true → k + fuel ≤ Config.islandCapacity →
      (Store.labelFrom now fuel k st).canonical = true := by
  induction fuel with
  | zero => intro k st h _; exact h
  | succ fuel ih =>
    intro k st h hk
    simp only [Store.labelFrom]
    split
    · refine ih _ (Store.refreshFeed_canonical (Store.labelSearch_canonical _ _ _
        (Store.appendMember_canonical (Store.createIsland_canonical h _ _ ?_) _ _)) _ _) ?_ <;> omega
    · exact h

theorem Store.labelAll_canonical {st : Store} (h : st.canonical = true) (now : Nat) :
    (st.labelAll now).canonical = true := by
  refine Store.labelFrom_canonical now _ 0 h ?_
  have h' := (Store.canonical_iff st).1 h
  have := Tab.length_le h'.1 h'.2.2.2.1
  simpa [Config.islandCapacity, Config.nodeCapacity] using this

theorem Store.lowestFree_lt {st : Store} {k : Nat} (h : st.lowestFree = some k) : k < Config.islandCapacity := by
  have step : ∀ fuel id, st.freeFrom fuel id = some k → k < id + fuel := by
    intro fuel
    induction fuel with
    | zero => intro id h; simp [Store.freeFrom] at h
    | succ fuel ih =>
      intro id h
      simp only [Store.freeFrom] at h
      split at h
      · cases h; omega
      · have := ih _ h; omega
  simpa using step _ _ h

end Sys2Proof.Machine
end

