-- ==== Sys2Proof/Laws/Link.lean ====
section
/-! SUPPORT. What the shared operations of the arbiter and of the Link Port can do: the arbitration at the end of a
step, the answer of a command of R78, and the claim and grant of a claim-taking command on a free store. -/

namespace Sys2Proof.Machine

/-! ### Arbitration -/

/-- With no CLEAR MODEL waiting, arbitration writes the arbiter and nothing else. -/
theorem arbitrate_eq (s : State) (h : s.arbiter.clearPending = false) :
    arbitrate s = { s with arbiter := (arbitrate s).arbiter } := by
  unfold arbitrate
  simp only [refreshClaims_grant, refreshClaims_clearPending, h]
  split <;> rfl

/-- While a grant is in progress, arbitration only refreshes the claims. -/
theorem arbitrate_busy (s : State) (h : s.arbiter.grant ≠ .none) : arbitrate s = refreshClaims s := by
  simp [arbitrate, h]

/-- On a free store with no LINK claim, the arbiter chooses as `Arbiter.next` says. -/
theorem arbitrate_free (s : State) (h : s.arbiter = .free) :
    arbitrate s = { s with arbiter := Arbiter.next s } := by
  cases hr : s.resolver.current.isSome <;> cases hq : s.sequencerReady <;>
    simp [arbitrate, refreshClaims, Arbiter.next, Arbiter.choose, Arbiter.free, Arbiter.grantResolver,
      Arbiter.grantSequencer, Config.sequencerTurn, Config.linkTurn, h, hr, hq]

/-- The choice of the arbiter grants a claim that waits, and counts it for the claims that go on waiting. -/
theorem choose_cases (streaming : Bool) (a : Arbiter) :
    a.choose streaming = a.grantLink streaming ∧ a.linkClaim = true ∨
    a.choose streaming = a.grantSequencer ∧ a.sequencerClaim = true ∨
    a.choose streaming = a.grantResolver ∧ a.resolverClaim = true ∨
    a.choose streaming = a ∧ a.resolverClaim = false ∧ a.sequencerClaim = false ∧ a.linkClaim = false := by
  unfold Arbiter.choose
  split
  · rename_i h; exact .inl ⟨rfl, h.2⟩
  · split
    · rename_i h; exact .inr (.inl ⟨rfl, h.2⟩)
    · split
      · rename_i h; exact .inr (.inr (.inl ⟨rfl, h⟩))
      · split
        · rename_i h; exact .inr (.inl ⟨rfl, h⟩)
        · split
          · rename_i h; exact .inl ⟨rfl, h⟩
          · simp_all

/-- Claims that stand as the claimants have them are not refreshed. -/
theorem refreshClaims_self {s : State}
    (hr : s.arbiter.resolverClaim = (s.resolver.current.isSome && decide (s.arbiter.grant ≠ .resolver) &&
      decide (s.arbiter.grant ≠ .compileRestore)))
    (hq : s.arbiter.sequencerClaim = (s.sequencerReady && decide (s.arbiter.grant ≠ .sequencer) &&
      decide (s.arbiter.grant ≠ .compileRestore)))
    (hw : s.arbiter.sequencerClaim = false → s.arbiter.sequencerWait = 0)
    (hl : s.arbiter.linkClaim = false → s.arbiter.linkWait = 0) : refreshClaims s = s := by
  have e1 : (if s.arbiter.sequencerClaim = true then s.arbiter.sequencerWait else 0) = s.arbiter.sequencerWait := by
    cases h : s.arbiter.sequencerClaim <;> simp_all
  have e2 : (if s.arbiter.linkClaim = true then s.arbiter.linkWait else 0) = s.arbiter.linkWait := by
    cases h : s.arbiter.linkClaim <;> simp_all
  unfold refreshClaims
  dsimp only
  rw [← hr, ← hq, e1, e2]

/-- A second refresh finds the claims as they stand. -/
theorem refreshClaims_idem (s : State) : refreshClaims (refreshClaims s) = refreshClaims s := by
  refine refreshClaims_self rfl rfl (fun h => ?_) (fun h => ?_)
  · exact if_neg fun e => Bool.false_ne_true (h.symm.trans e)
  · exact if_neg fun e => Bool.false_ne_true (h.symm.trans e)

/-- A free store with no CLEAR MODEL waiting: the claims are refreshed and the arbiter chooses. -/
theorem arbitrate_none {s : State} (hg : s.arbiter.grant = .none) (h : s.arbiter.clearPending = false) :
    arbitrate s =
      { refreshClaims s with arbiter := (refreshClaims s).arbiter.choose s.link.stream.isSome } := by
  simp [arbitrate, hg, h]

/-- With no CLEAR MODEL waiting, a second arbitration finds nothing to choose. -/
theorem arbitrate_idem (s : State) (h : s.arbiter.clearPending = false) : arbitrate (arbitrate s) = arbitrate s := by
  have ready : ∀ (u : State) a, State.sequencerReady { u with arbiter := a } = u.sequencerReady := fun _ _ => rfl
  by_cases hg : s.arbiter.grant = .none
  · have hc := choose_cases s.link.stream.isSome (refreshClaims s).arbiter
    rw [arbitrate_none hg h]
    obtain ⟨e, w⟩ | ⟨e, w⟩ | ⟨e, w⟩ | ⟨e, w⟩ := hc <;> rw [e]
    · rw [arbitrate_busy _ (by simp [Arbiter.grantLink])]
      refine refreshClaims_self ?_ ?_ ?_ ?_ <;>
        simp [Arbiter.grantLink, refreshClaims, hg, ready]
      intro hq; simp [hq]
    · rw [arbitrate_busy _ (by simp [Arbiter.grantSequencer])]
      refine refreshClaims_self ?_ ?_ ?_ ?_ <;>
        simp [Arbiter.grantSequencer, refreshClaims, hg]
    · rw [arbitrate_busy _ (by simp [Arbiter.grantResolver])]
      refine refreshClaims_self ?_ ?_ ?_ ?_ <;>
        simp [Arbiter.grantResolver, refreshClaims, hg, ready]
    · have same : { refreshClaims s with arbiter := (refreshClaims s).arbiter } = refreshClaims s := rfl
      rw [same, arbitrate_none (by simpa using hg) (by simpa using h), refreshClaims_idem, refreshClaims_link, e]
  · rw [arbitrate_busy s hg, arbitrate_busy _ (by simpa using hg), refreshClaims_idem]

/-- Arbitration keeps the absence of a waiting CLEAR MODEL. -/
theorem arbitrate_clearPending (s : State) (h : s.arbiter.clearPending = false) :
    (arbitrate s).arbiter.clearPending = false := by
  by_cases hg : s.arbiter.grant = .none
  · rw [arbitrate_none hg h]
    obtain ⟨e, -⟩ | ⟨e, -⟩ | ⟨e, -⟩ | ⟨e, -⟩ := choose_cases s.link.stream.isSome (refreshClaims s).arbiter <;>
      rw [e] <;> exact h
  · rw [arbitrate_busy s hg]
    exact h

/-! ### The status position -/

/-- With no items outstanding the status position takes none. -/
theorem takeItems_none {s : State} (h : s.link.late = none) : takeItems s = s := by simp [takeItems, h]

/-- The status position of a reading command takes its items of the state as it stands then. -/
theorem takeItems_some {s : State} {r : LateRead} (h : s.link.late = some r) :
    takeItems s =
      { r.effect s with
        link.reply := replyBytes s.link.frameCheck .ok (r.items s)
        link.late := none } := by
  simp [takeItems, h]

/-- Where the status position leads: to the entries of a load, to a refused load, to the end of the reply, or to its
next byte. -/
theorem sendStatus_cases (s : State) :
    ∃ u, u = { takeItems s with
        link.waitBegun := false
        link.reply := (takeItems s).link.reply.tail
        link.checkMode := (takeItems s).link.checkNext.getD (takeItems s).link.checkMode
        link.checkNext := none } ∧
      (u.link.load.isSome = true ∧ sendStatus s = { u with link.frame := .entries } ∨
        u.link.load = none ∧ u.link.refusal.isSome = true ∧ sendStatus s = { u with link.frame := .refusedLoad } ∨
        u.link.load = none ∧ u.link.refusal = none ∧ u.link.reply = [] ∧ sendStatus s = endReply u ∨
        u.link.load = none ∧ u.link.refusal = none ∧ u.link.reply ≠ [] ∧
          sendStatus s = { u with link.frame := .reply }) := by
  refine ⟨_, rfl, ?_⟩
  unfold sendStatus
  dsimp only
  repeat' split
  all_goals simp_all

/-- The status position ends, unless a position begun in WAITING has ended in its place. -/
theorem endStatus_of_not_begun {s : State} (h : s.link.waitBegun = false) : endStatus s = sendStatus s := by
  simp [endStatus, h]

/-- A position that began in WAITING leaves the status unsent. -/
theorem endStatus_of_begun {s : State} (h : s.link.waitBegun = true) :
    endStatus s = { s with link.waitBegun := false } := by
  simp [endStatus, h]

/-! ### Positions that begin in WAITING -/

/-- A frame in WAITING has its next position begun exactly with LMODE1 low. -/
theorem beginWait_cases (s : State) :
    beginWait s = { s with link.waitBegun := true } ∧ s.link.frame = .waiting ∧ s.link.lmode1 = false ∨
    beginWait s = s ∧ ¬(s.link.frame = .waiting ∧ s.link.lmode1 = false) := by
  unfold beginWait
  split
  · rename_i h; exact .inl ⟨rfl, h⟩
  · rename_i h; exact .inr ⟨rfl, h⟩

/-- A frame that is not in WAITING has no position begun in it. -/
theorem beginWait_of_ne {s : State} (h : s.link.frame ≠ .waiting) : beginWait s = s := by simp [beginWait, h]

/-- With LMODE1 high a position begins when it is clocked. -/
theorem beginWait_of_high {s : State} (h : s.link.lmode1 = true) : beginWait s = s := by simp [beginWait, h]

/-! ### Commands -/

/-- The row of a link command runs the command. -/
theorem exec_toInstr (c : Command) (check : Option Byte) (s : State) :
    exec (c.toInstr check) s = .next (hostCommand c check s) := by
  cases c <;> rfl

/-- A command sent as its mode asks comes to its decision with its bytes latched. -/
theorem hostCommand_taken {c : Command} {check : Option Byte} {s : State} (h : Taken c check s) :
    hostCommand c check s =
      decideCommand c
        { s with
          link.code := some c.code
          link.args := c.argBytes
          link.xor := xorBytes c.argBytes
          link.waitBegun := false
          link.frameCheck := s.link.checkMode } := by
  obtain ⟨hf, hc⟩ := h
  unfold GoodCheck at hc
  subst hc
  cases hm : s.link.checkMode <;> simp [hostCommand, hf, hm, testCheck]

/-- A command of R78 is carried out at its decision. -/
theorem hostCommand_direct {c : Command} {check : Option Byte} {s : State} (h : Taken c check s)
    (ha : accessOf c = .direct) :
    hostCommand c check s = carryOut c { s with link := s.link.waits c } := by
  rw [hostCommand_taken h]
  simp only [decideCommand, ha]
  rfl

/-- The state in which a command meets its grant when the store is free. -/
def State.inGrant (c : Command) (s : State) : State :=
  { s with link := s.link.waits c, arbiter.grant := .link }

/-- A claim placed on a free store is granted at once (R70, R75). -/
theorem placeClaim_free {u : State} (hfree : u.arbiter = .free) (hcur : u.resolver.current = none)
    (hseq : u.sequencerReady = false) (hstr : u.link.stream = none) :
    placeClaim u = finishLinkGrant { u with arbiter.grant := .link } := by
  have hseq' : ∀ a, State.sequencerReady { u with arbiter := a } = false := fun _ => hseq
  have : arbitrate { u with arbiter.linkClaim := true } = { u with arbiter.grant := .link } := by
    unfold arbitrate refreshClaims
    simp only [hseq', hfree, hcur, Arbiter.free]
    simp [Arbiter.choose, Arbiter.grantLink, hstr, Config.linkTurn]
  rw [placeClaim, this]

/-- A claim-taking command on a free store is granted and carried out at once (R75). -/
theorem hostCommand_claim {c : Command} {check : Option Byte} {s : State} (h : Taken c check s)
    (ha : accessOf c = .claim) (hq : Quiet s) :
    hostCommand c check s = beginWait (arbitrate (endLinkGrant (carryOut c (s.inGrant c)))) := by
  obtain ⟨hfree, hqueue, hcur, hback, hseq, hstr⟩ := hq
  rw [hostCommand_taken h]
  have hg : s.arbiter.grant = .none := by rw [hfree]; rfl
  simp only [decideCommand, ha, hg, reduceCtorEq, if_false]
  rw [placeClaim_free]
  · simp only [finishLinkGrant]
    rfl
  · exact hfree
  · exact hcur
  · exact hseq
  · exact hstr

/-- A claim-taking command that its grant answers on a free store: the grant ends and the arbiter chooses anew. -/
theorem hostCommand_answered {c : Command} {check : Option Byte} {s u : State} {st : Status} {data : List Byte}
    (h : Taken c check s) (ha : accessOf c = .claim) (hq : Quiet s)
    (hu : carryOut c (s.inGrant c) = answer st data u)
    (hl : u.link = s.link.waits c) (hr : u.arbiter = { Arbiter.free with grant := .link }) :
    hostCommand c check s =
      { u with link := s.link.replied c st data, arbiter := Arbiter.next u } := by
  have hstr : s.link.stream = none := hq.2.2.2.2.2
  rw [hostCommand_claim h ha hq, hu]
  have hend : endLinkGrant (answer st data u) =
      { u with link := s.link.replied c st data, arbiter := .free } := by
    simp [endLinkGrant, answer, hr, hl, Link.waits, Link.replied, hstr, releaseGrant, Arbiter.free]
  rw [hend, arbitrate_free _ rfl]
  exact beginWait_of_ne (by simp [Link.replied])

/-- When the grant only answers, nothing but the link changes. -/
theorem hostCommand_refused {c : Command} {check : Option Byte} {s : State} {st : Status} {data : List Byte}
    (h : Taken c check s) (ha : accessOf c = .claim) (hq : Quiet s)
    (hu : carryOut c (s.inGrant c) = answer st data (s.inGrant c)) :
    hostCommand c check s = s.replied c st data := by
  rw [hostCommand_answered h ha hq hu rfl (by rw [State.inGrant, hq.1])]
  have hseq : State.sequencerReady (s.inGrant c) = false := hq.2.2.2.2.1
  have hcur : (s.inGrant c).resolver.current = none := hq.2.2.1
  have : Arbiter.next (s.inGrant c) = s.arbiter := by
    simp [Arbiter.next, hseq, hcur, hq.1, Arbiter.free]
  rw [this]
  rfl

end Sys2Proof.Machine
end

