-- ==== Sys2Proof/Laws/Commands.lean ====
section
/-! SUPPORT. What the commands of the link, the host's bytes and the steps of the engines leave alone. -/

namespace Sys2Proof.Machine

variable (s : State)

/-! ### The sample event -/

@[simp] theorem takeFunction_clearPending (f : CueFunction) :
    (takeFunction f s).arbiter.clearPending = s.arbiter.clearPending := by
  unfold takeFunction
  split <;>
    simp [beginStep, resumeRun, extendStep, enterPaused, withdrawSequencer, enterMoving]

/-- What an act of the cue lines leaves alone while no CLEAR MODEL waits: the store, the resolver, the link, and that
none waits. -/
def CueActKeeps (s t : State) : Prop :=
  t.store = s.store ∧ t.resolver = s.resolver ∧ t.link = s.link ∧ t.arbiter.clearPending = false

theorem CueActKeeps.trans {s t u : State} (h : CueActKeeps s t) (k : CueActKeeps t u) : CueActKeeps s u :=
  ⟨k.1.trans h.1, k.2.1.trans h.2.1, k.2.2.1.trans h.2.2.1, k.2.2.2⟩

theorem arbitrate_keeps (h : s.arbiter.clearPending = false) : CueActKeeps s (arbitrate s) := by
  have e := arbitrate_eq s h
  exact ⟨by rw [e], by rw [e], by rw [e], arbitrate_clearPending s h⟩

theorem takeFunction_keeps (f : CueFunction) (h : s.arbiter.clearPending = false) :
    CueActKeeps s (takeFunction f s) := ⟨by simp, by simp, by simp, by simpa using h⟩

/-- An edge with the grant that follows it. -/
theorem assertingEdge_keeps (n : Fin 8) (h : s.arbiter.clearPending = false) :
    CueActKeeps s (assertingEdge n s) := by
  unfold assertingEdge
  dsimp only
  generalize s.panel.cues.get n = c
  have hu : CueActKeeps s (if c.intEnable = true then raise .cueLine (setCue n { c with flag := true } s)
      else setCue n { c with flag := true } s) := by split <;> exact ⟨rfl, rfl, rfl, h⟩
  have hf := takeFunction_keeps _ c.function hu.2.2.2
  exact (hu.trans hf).trans (arbitrate_keeps _ hf.2.2.2)

/-- One line's sample. -/
theorem sampleLine_keeps (levels : Byte) (n : Fin 8) (h : s.arbiter.clearPending = false) :
    CueActKeeps s (sampleLine levels s n) := by
  unfold sampleLine
  dsimp only
  have hu : CueActKeeps s (refreshHold (setCue n ((s.panel.cues.get n).sampled (levels.getLsbD n.val)) s)) :=
    ⟨rfl, rfl, rfl, h⟩
  split
  · exact hu.trans (assertingEdge_keeps _ n hu.2.2.2)
  · exact hu

/-- The sample event, with its edges and the grants that follow them. -/
theorem sampleEvent_keeps (levels : Byte) (order : List (Fin 8)) (h : s.arbiter.clearPending = false) :
    CueActKeeps s (sampleEvent levels order s) := by
  unfold sampleEvent
  generalize cueOrder order = l
  induction l generalizing s with
  | nil => exact ⟨rfl, rfl, rfl, h⟩
  | cons a l ih =>
    have hl := sampleLine_keeps s levels a h
    exact hl.trans (ih (sampleLine levels s a) hl.2.2.2)

/-! ### The queue -/

@[simp] theorem carryOut_pending (c : Command) : (carryOut c s).pending = s.pending := by
  cases c <;> simp only [carryOut]
  case setEnd => unfold grantSetEnd grantSetEnd.leaveEndedForward; repeat' split
                 all_goals simp
  case discardBatch => unfold grantDiscardBatch grantDiscardBatch.discard; repeat' split
                       all_goals simp
  case clearModel => simp [takeClear]
  case loadBatch => unfold directLoadBatch acceptLoad; split <;> simp
  case setWatch => unfold grantSetWatch rewriteWatch; repeat' split
                   all_goals simp
  case clearWatch => unfold grantClearWatch rewriteWatch; dsimp only; repeat' split
                     all_goals simp
  all_goals
    first
    | (unfold grantDefineNode; repeat' split) | (unfold grantDefineSwitch; repeat' split)
    | (unfold grantBuildEnd; repeat' split) | (unfold grantSetPolicy; repeat' split)
    | (unfold grantOverrideSwitch; repeat' split) | (unfold grantRetireSwitch; repeat' split)
    | (unfold grantLookupSwitch; repeat' split) | (unfold grantLookupNode; repeat' split)
    | (unfold grantLookupIsland; repeat' split) | (unfold grantWalkSet; repeat' split)
    | (unfold grantWalkMove; repeat' split) | (unfold grantReadTable; repeat' split)
    | unfold grantReadClock | (unfold grantSetPacing; repeat' split)
    | (unfold grantSetMark; repeat' split) | (unfold grantSetStepSpan; repeat' split)
    | (unfold grantArmBatch; repeat' split) | (unfold grantReadBatch; repeat' split)
    | (unfold grantStart; repeat' split) | (unfold grantPause; repeat' split)
    | (unfold grantResume; repeat' split) | (unfold grantStep; repeat' split)
    | (unfold grantRestore; repeat' split) | unfold directReadStatus
    | (unfold grantReadWatch; repeat' split) | unfold directReadEvents
    | unfold directSetEventEnables | (unfold directSetInterruptLine; repeat' split)
    | unfold directReadInterrupt | (unfold directSetCueLine; repeat' split)
    | unfold directClearLineFlags | (unfold directReadCueLine; repeat' split)
    | (unfold directSetIndicator; repeat' split) | (unfold directReadIndicator; repeat' split)
    | (unfold grantRefreshIndicators; repeat' split) | unfold directReadLines
    | (unfold directSetCheckMode; repeat' split)
  all_goals first | rfl | (simp; done) | (dsimp only; split <;> simp)

@[simp] theorem finishLinkGrant_pending : (finishLinkGrant s).pending = s.pending := by
  unfold finishLinkGrant
  repeat' split
  all_goals simp

/-- A frame that waits for no record in progress is left alone; another has its record read, and the grant ends. -/
theorem readAwaited_cases :
    readAwaited s = s ∨
    ∃ x, s.link.frame = .waiting ∧ s.arbiter.grant = .link ∧ s.link.taken = none ∧ s.link.stream = some x ∧
      readAwaited s = endUnit (readRecord x s) := by
  unfold readAwaited
  split
  · rename_i hf
    unfold streamWork
    split
    · rename_i x hg ht hx
      exact .inr ⟨x, hf, hg, ht, hx, rfl⟩
    · exact .inl rfl
  · exact .inl rfl

@[simp] theorem readAwaited_pending : (readAwaited s).pending = s.pending := by
  obtain h | ⟨x, -, -, -, -, h⟩ := readAwaited_cases s
  · rw [h]
  · rw [h]; simp [endUnit, releaseGrant]

@[simp] theorem finishLink_pending : (finishLink s).pending = s.pending := by simp [finishLink]

@[simp] theorem placeClaim_pending : (placeClaim s).pending = s.pending := by simp [placeClaim]

@[simp] theorem decideCommand_pending (c : Command) : (decideCommand c s).pending = s.pending := by
  unfold decideCommand
  dsimp only
  repeat' split
  all_goals simp

@[simp] theorem refuseCheck_pending (c : Command) : (refuseCheck c s).pending = s.pending := by
  unfold refuseCheck
  dsimp only
  split <;> simp

@[simp] theorem hostByte_pending (byte : Byte) : (hostByte s byte).pending = s.pending := by
  unfold hostByte commandByte argumentByte checkByte endArguments testCheck
  repeat' split
  all_goals simp
  all_goals (repeat' split) <;> simp

@[simp] theorem hostBytes_pending (bytes : List Byte) : (hostBytes bytes s).pending = s.pending := by
  unfold hostBytes
  induction bytes generalizing s with
  | nil => rfl
  | cons b l ih => rw [List.foldl_cons, ih]; simp

@[simp] theorem hostCommand_pending (c : Command) (check : Option Byte) :
    (hostCommand c check s).pending = s.pending := by
  unfold hostCommand testCheck
  dsimp only
  repeat' split
  all_goals simp

@[simp] theorem selRelease_pending (bytes : List Byte) : (selRelease bytes s).pending = s.pending := by
  unfold selRelease endFrame
  split <;> simp

end Sys2Proof.Machine
end

