-- ==== Sys2Proof/Machine/Wire.lean ====
section
/-! DEFINITION. The wires of the link (R175, R176): how the levels of SCK and SDI make the host's bytes, and the
levels that the part drives on SDO at the edges of SCK. The rows of the table carry whole bytes; this file says
which bytes a run of levels is (log 24). -/

namespace Sys2Proof.Machine

/-- The level at which SCK rests, HIGH with LMODE0 high (R175). -/
def Link.sckRestsHigh (l : Link) : Bool := l.lmode0

/-- A change of SCK from `old` to `new` is an edge on which a bit is sampled: with LMODE1 low the first edge of a
clock period, which leaves the resting level, and with LMODE1 high the second, which returns to it (R175). -/
def Link.samplesAt (l : Link) (old new : Bool) : Bool := old != new && ((old == l.sckRestsHigh) != l.lmode1)

/-- The bits sampled from levels of SCK and SDI, one pair at each change, SCK at `old` before them (R175). -/
def Link.sampledBits (l : Link) : Bool → List (Bool × Bool) → List Bool
  | _, [] => []
  | old, (sck, sdi) :: rest =>
    if l.samplesAt old sck then sdi :: l.sampledBits sck rest else l.sampledBits sck rest

/-- Eight bits as a byte, the most significant first (R175). -/
def byteOfBits (bits : List Bool) : Byte :=
  bits.foldl (fun acc b => (acc <<< 1) ||| (if b then 1 else 0)) 0

/-- The whole bytes that sampled bits make after the bits `held` of a byte begun; a byte cut short by the release of
SEL is not taken (R176). -/
def wholeBytes (held : List Bool) : List Bool → List Byte
  | [] => []
  | b :: rest =>
    if held.length = 7 then byteOfBits (held ++ [b]) :: wholeBytes [] rest else wholeBytes (held ++ [b]) rest

/-- The part follows levels of SCK and SDI while SEL is low; SCK starts at its resting level (R175, R176). -/
def hostWire (levels : List (Bool × Bool)) (s : State) : State :=
  hostBytes (wholeBytes [] (s.link.sampledBits s.link.sckRestsHigh levels)) s

/-- The level of SDO at bit `k` of the position, bit 0 its first and most significant (R175, R176). -/
def State.sdoBit (s : State) (k : Nat) : PinLevel :=
  match s.sdoByte with
  | some b => PinLevel.ofBool (b.getLsbD (7 - k))
  | none => .highZ

/-- A change of SCK from `old` to `new` is an edge on which SDO changes: with LMODE1 low the second edge of a clock
period, and with LMODE1 high the first (R175). -/
def Link.changesAt (l : Link) (old new : Bool) : Bool := old != new && ((old == l.sckRestsHigh) == l.lmode1)

/-- SDO when SEL has been asserted: with LMODE1 low the first bit of the first position; with LMODE1 high no bit has
been placed, and the level that is driven is a free value (R175; log 28). -/
def State.sdoAtSelect (s : State) : PinLevel :=
  if s.link.lmode1 = true ∧ s.sdoByte.isSome = true then PinLevel.ofBool Config.sdoBeforeFirstBit
  else s.sdoBit 0

/-- SDO after each of the changes that `levels` gives of SCK and SDI, from SCK at `sck`, SDO at `sdo` and the bits
`held` of the byte begun: it changes on one edge of a clock period, to the bit of the position that comes next
(R175, R176). -/
def sdoAlong : Bool → PinLevel → List Bool → List (Bool × Bool) → State → List PinLevel
  | _, _, _, [], _ => []
  | old, sdo, held, (sck, sdi) :: rest, s =>
    if s.link.changesAt old sck then
      s.sdoBit held.length :: sdoAlong sck (s.sdoBit held.length) held rest s
    else if s.link.samplesAt old sck then
      if held.length = 7 then sdo :: sdoAlong sck sdo [] rest (hostByte s (byteOfBits (held ++ [sdi])))
      else sdo :: sdoAlong sck sdo (held ++ [sdi]) rest s
    else sdo :: sdoAlong sck sdo held rest s

/-- SDO while SEL is low: its level at the assertion, and after each change of the wires (R175). -/
def State.sdoLevels (s : State) (levels : List (Bool × Bool)) : List PinLevel :=
  s.sdoAtSelect :: sdoAlong s.link.sckRestsHigh s.sdoAtSelect [] levels s

end Sys2Proof.Machine
end

