-- ==== Sys2Proof/WellFormed.lean ====
section
/-! DEFINITION. The checks an instruction's operands meet beyond their widths. A byte outside its field's
codes is NOT ill-formed: the command is answered RANGE (R193). -/

namespace Sys2Proof

/-- The checks of each row. UNKNOWN_COMMAND carries a byte that names no command (R179); BATCH_ENTRY
carries the bytes of one entry: eight, nine with its check byte, fewer when it is cut short (R101, R103);
the order of SAMPLE_EVENT names each line at most once (R163). -/
def Instr.WellFormed : Instr → Bool
  | .unknownCommand code => argCount code == none
  | .batchEntry bytes => 1 ≤ bytes.length && bytes.length ≤ 9
  | .sampleEvent _ order => order.Nodup
  | .hardwareReset _ _ _ _ => true
  | .selAssert => true
  | .selRelease _ => true
  | .defineNode _ _ _ _ => true
  | .defineSwitch _ _ _ _ _ => true
  | .buildEnd _ => true
  | .compileIncidenceLists => true
  | .compileStartingValues => true
  | .compileEnd => true
  | .clearModel _ => true
  | .setPolicy _ _ => true
  | .overrideSwitch _ _ _ => true
  | .retireSwitch _ _ => true
  | .lookupSwitch _ _ => true
  | .lookupNode _ _ => true
  | .lookupIsland _ _ _ => true
  | .walkSet _ _ _ _ => true
  | .walkMove _ _ => true
  | .readTable _ _ _ => true
  | .readTableRecord => true
  | .readClock _ => true
  | .setPacing _ _ _ => true
  | .setEnd _ _ => true
  | .setMark _ _ _ => true
  | .setStepSpan _ _ => true
  | .loadBatch _ _ _ => true
  | .armBatch _ _ => true
  | .discardBatch _ _ => true
  | .readBatch _ _ => true
  | .start _ => true
  | .pause _ => true
  | .resume _ => true
  | .step _ => true
  | .restore _ => true
  | .restoreFirstStage => true
  | .restoreSecondStage => true
  | .restoreEnd => true
  | .readStatus _ => true
  | .setWatch _ _ _ _ _ _ => true
  | .clearWatch _ _ => true
  | .readWatch _ _ => true
  | .readEvents _ => true
  | .setEventEnables _ _ => true
  | .setInterruptLine _ _ _ _ => true
  | .readInterrupt _ => true
  | .setCueLine _ _ _ _ _ => true
  | .clearLineFlags _ _ => true
  | .readCueLine _ _ => true
  | .setIndicator _ _ _ _ _ _ _ => true
  | .readIndicator _ _ => true
  | .refreshIndicators _ => true
  | .readLines _ => true
  | .setCheckMode _ _ => true
  | .pacingTick => true
  | .applyEntry => true
  | .mergeGuard => true
  | .mergeRelabel => true
  | .splitGuard => true
  | .splitVisit => true
  | .splitRelabel => true
  | .sourceJob => true
  | .flashPhaseTurn => true

end Sys2Proof
end

