-- ==== Sys2Proof/Tests/Slice0.lean ====
section
/-! SUPPORT. Tests: the well-formedness checks, commands and formats written out from the spec, single steps, and for
every statement with hypotheses a concrete state and operands that meet them. -/

namespace Sys2Proof.Tests

open Sys2Proof Sys2Proof.Machine

/-! ### Small states -/

/-- A frame is open for a command; check mode as given. -/
def opened (checked : Bool) (s : State) : State := { s with link.frame := .command, link.checkMode := checked }

/-- Right after reset, with a frame open. -/
def fresh : State := opened false State.reset

/-- Node 0, an online SOURCE, and node 1, a BUS, joined by the CLOSED switch 0; node 2, a LOAD, behind the OPEN
switch 1. -/
def net : Store :=
  { nodes :=
      [(0, { kind := .source, initialOnline := some true, online := some true, island := some 0, prev := none,
             next := some 1, incidence := [0] }),
       (1, { kind := .bus, initialOnline := none, online := none, island := some 0, prev := some 0, next := none,
             incidence := [0, 1] }),
       (2, { kind := .load, initialOnline := none, online := none, island := some 1, prev := none, next := none,
             incidence := [1] })]
    switches :=
      [(0, { endA := 0, endB := 1, initial := .closed, archived := .closed, held := .closed, override := none,
             effective := .closed, retired := false, discrepancy := false, changeCount := 0, lastChange := none }),
       (1, { endA := 1, endB := 2, initial := .opened, archived := .opened, held := .opened, override := none,
             effective := .opened, retired := false, discrepancy := false, changeCount := 0, lastChange := none })]
    islands :=
      [(0, { generation := 0, body := some { feed := .live, memberCount := 2, sourceCount := 1, loadCount := 0,
                                             first := 0, last := 1, since := 0 } }),
       (1, { generation := 0, body := some { feed := .dead, memberCount := 1, sourceCount := 0, loadCount := 1,
                                             first := 2, last := 2, since := 0 } })] }

/-- The small network compiled, in run state `r`, with a frame open. -/
def live (r : RunState) : State :=
  { fresh with
    store := net
    resolver.counts := { live := 1, deadNodes := 1, deadLoads := 1 }
    run.state := r
    clock.pausedState := r == .paused
    clock.boundary := if r = .stepping then some 100 else none }

/-- The grant `g` is in progress and the resolver works job `j`. -/
def working (g : Grant) (j : Job) (stage : JobStage) : State :=
  { live .running with
    arbiter.grant := g
    resolver.current := some { JobInProgress.begin j { live := 1, deadNodes := 1, deadLoads := 1 } with stage := stage } }

/-- The job in progress of `working`. -/
def workingJob (j : Job) (stage : JobStage) : JobInProgress :=
  { JobInProgress.begin j { live := 1, deadNodes := 1, deadLoads := 1 } with stage := stage }

/-- Buffer A is ACTIVE with the entries `es` and the Sequencer has the grant, in run state `r`. -/
def playing (r : RunState) (es : List (BitVec 64)) : State :=
  { live r with
    arbiter.grant := .sequencer
    clock.time := 1020
    sequencer.bufferA := { state := .active, tag := some .forward, entries := es, index := 0, lastLoad := none } }

/-- Compile or restore holds the store at the stage given. -/
def staged (r : RunState) (c : Option CompileStage) (x : Option RestoreStage) : State :=
  { live r with
    arbiter.grant := .compileRestore
    run := { state := r, compileStage := c, restoreStage := x } }

/-- `fresh` answered with the two bytes 05 01. -/
def answered : State := { fresh with link.frame := .status, link.reply := [0x05, 0x01] }

/-- The state of a step that answers one. -/
def after (o : Host.Outcome State Fault Refusal) : Option State :=
  match o with
  | .next t => some t
  | _ => none

theorem taken_opened (c : Command) (s : State) : Taken c none (opened false s) := ⟨rfl, rfl⟩
theorem taken_fresh (c : Command) : Taken c none fresh := ⟨rfl, rfl⟩
theorem taken_live (c : Command) (r : RunState) : Taken c none (live r) := ⟨rfl, rfl⟩
theorem quiet_fresh : Quiet fresh := ⟨rfl, rfl, rfl, rfl, rfl, rfl⟩
theorem quiet_live (r : RunState) : Quiet (live r) := by cases r <;> exact ⟨rfl, rfl, rfl, rfl, rfl, rfl⟩

/-- In check mode the commands carry the XOR of their arguments, and are taken the same way. -/
theorem taken_checked : Taken (.setEnd 40000) (some 0xDC) (opened true (live .paused)) := ⟨rfl, by unfold GoodCheck; decide⟩

/-! ### Well-formedness, and the bytes of commands (R178, R186, R191) -/

theorem test_wf_unknown_command : (Instr.unknownCommand 0x10).WellFormed = false := by decide
theorem test_wf_batch_entry_empty : (Instr.batchEntry []).WellFormed = false := by decide
theorem test_wf_batch_entry_long : (Instr.batchEntry (List.replicate 10 0)).WellFormed = false := by decide
theorem test_wf_sample_event : (Instr.sampleEvent 0 [3, 3]).WellFormed = false := by decide
theorem test_wf_accepts : (Instr.unknownCommand 0xFF).WellFormed = true ∧
    (Instr.batchEntry (List.replicate 9 0)).WellFormed = true := by decide

/-- One command of each family, its bytes as R178 and R193 spell them. -/
theorem test_decode_families :
    decodeCommand 0x10 [0x00, 0x07, 0x01, 0x01] = some (.defineNode 7 1 1) ∧
    decodeCommand 0x11 [0x00, 0x28, 0x00, 0x64, 0x00, 0x65, 0x01] = some (.defineSwitch 40 100 101 1) ∧
    decodeCommand 0x13 [] = some .clearModel ∧
    decodeCommand 0x21 [0x1F, 0xFF, 0x02] = some (.overrideSwitch 8191 2) ∧
    decodeCommand 0x32 [0x00, 0x03, 0x01, 0x08] = some (.walkSet 3 1 8) ∧
    decodeCommand 0x41 [0x01, 0x00, 0x02] = some (.setPacing 256 2) ∧
    decodeCommand 0x50 [0x41, 0x01] = some (.loadBatch 0x41 1) ∧
    decodeCommand 0x63 [] = some .step ∧
    decodeCommand 0x70 [0x00, 0x02, 0x00, 0x00, 0x02, 0x01] = some (.setWatch 0 2 0 2 1) ∧
    decodeCommand 0x74 [0x00, 0x60, 0x10] = some (.setEventEnables 0x006010) ∧
    decodeCommand 0x83 [0x0F, 0x02, 0x00, 0x66, 0x00, 0x01, 0x00] = some (.setIndicator 15 2 102 0 1 0) ∧
    decodeCommand 0x90 [0x01] = some (.setCheckMode 1) := by decide

/-- The frame of SET END 40,000 (chapter 10's worked frame). -/
theorem test_set_end_bytes :
    (Command.setEnd 40000).frameBytes = [0x42, 0x00, 0x00, 0x9C, 0x40] ∧
    xorBytes (Command.setEnd 40000).argBytes = 0xDC := by decide

/-- 0x00, 0xA7 and 0xFF name no command (R179, and frame 3 of chapter 10's second example). -/
theorem test_unknown_codes : argCount 0x00 = none ∧ argCount 0xA7 = none ∧ argCount 0xFF = none := by decide

theorem test_decode_table_word : decodeTableWord 8 0x42 = none := rfl

/-- The layouts of R191: SWITCH 43 CLOSED to OPEN, SOURCE 103 online no, CUE, and a kind code that names none. -/
theorem test_entries :
    readEntry 0x01002B10000004B0 = .switch 43 (some .closed) (some .opened) ∧
    entryTime 0x01002B10000004B0 = 1200 ∧
    readEntry 0x02006700000003F4 = .source 103 (some false) ∧
    readEntry 0x03FFFFFF000003FC = .cue ∧ readEntry 0x0400000000000000 = .bad := by decide

/-! ### Single steps -/

/-- Chapter 10's frame: in check mode SET END 40,000 in PAUSED is answered 01 00 00 9C 40 DD. -/
theorem test_set_end_reply :
    (after (exec (.setEnd 40000 (some 0xDC)) (opened true (live .paused)))).map (·.link.reply) =
      some [0x01, 0x00, 0x00, 0x9C, 0x40, 0xDD] := by decide

/-- The same frame with 0xDD in place of the check byte: CHECK, twice, and E stays. -/
theorem test_set_end_mismatch :
    (after (exec (.setEnd 40000 (some 0xDD)) (opened true (live .paused)))).map
      (fun t => (t.link.reply, t.clock.endTime, t.flag .linkCheck)) = some ([0x06, 0x06], 4294967295, true) := by
  decide

/-- Frame 1 of chapter 10's second example: LOOKUP NODE 7 in RESTORING is answered BUSY. -/
theorem test_lookup_busy :
    (after (exec (.lookupNode 7 none) (staged .restoring none (some .first)))).map (·.link.reply) = some [0x02] := by
  decide

/-- LOOKUP NODE 1 of the small network (R192). -/
theorem test_lookup_node :
    (after (exec (.lookupNode 1 none) (live .ready))).map (·.link.reply) =
      some [0x01, 0x00, 0x01, 0x01, 0x00, 0xFF, 0x00, 0x00, 0x00, 0x01, 0x01] := by decide

/-- LOOKUP ISLAND 1 of the small network: dead, one load, node 2 (R192). -/
theorem test_lookup_island :
    (after (exec (.lookupIsland 1 0 none) (live .ready))).map (·.link.reply) =
      some [0x01, 0x00, 0x01, 0x01, 0x00, 0x00, 0x00, 0x01, 0x00, 0x00, 0x00, 0x01, 0x00, 0x02, 0x00, 0x02,
            0x00, 0x00, 0x00, 0x00, 0x01] := by decide

/-- A handle with another generation is answered STALE (R61). -/
theorem test_lookup_stale :
    (after (exec (.lookupIsland 1 1 none) (live .ready))).map (·.link.reply) = some [0x05, 0x01, 0x00] := by decide

/-- A tick of 256 moves T by one unit and leaves F (R84). -/
theorem test_tick_one_unit :
    (after (exec .pacingTick (live .running))).map (fun t => (t.clock.time, t.clock.frac)) = some (1, 0) := by decide

/-- A tick of 384 leaves the fraction 128 (R84). -/
theorem test_tick_fraction :
    (after (exec .pacingTick { live .running with clock.rate := 384 })).map
      (fun t => (t.clock.time, t.clock.frac)) = some (1, 128) := by decide

/-- OVERRIDE SWITCH 1 to CLOSED starts the MERGE at once and the resolver is granted (R33, R45). -/
theorem test_override_merges :
    (after (exec (.overrideSwitch 1 1 none) (live .ready))).map
      (fun t => (t.arbiter.grant, t.resolver.current.map (·.job))) = some (.resolver, some (.merge 1 0)) := by decide

/-- The MERGE keeps island 0, which has more members (R49). -/
theorem test_merge_survivor :
    (after (exec .mergeGuard
      { working .resolver (.merge 1 0) .guard with
        store.switches := net.switches.map fun p => (p.1, { p.2 with effective := .closed }) })).map
      (fun t => t.resolver.current.map fun j => (j.survivor, j.absorbed)) =
      some (some (some 0, some 1)) := by decide

/-- The worked cascade's entry 69: a CUE pauses the run, and BATCH_DONE follows the last entry (R115, R110). -/
theorem test_cue_entry :
    (after (exec .applyEntry (playing .running [0x03000000000003FC]))).map
      (fun t => (t.run.state, t.flag .cue, t.flag .batchDone, t.sequencer.bufferA.state)) =
      some (.paused, true, true, .empty) := by decide

/-- A SWITCH entry that finds another archived position is a discrepancy, applied all the same (R29, R30). -/
theorem test_switch_entry_discrepancy :
    (after (exec .applyEntry (playing .running [0x01000121000003EE, 0x03000000000003FC]))).map
      (fun t => (t.sequencer.stats.discrepancies, (t.store.switch 1).bind (·.lastChange),
        (t.store.switch 1).map (·.changeCount))) = some (1, some 1006, some 1) := by decide

/-- A SOURCE entry in reverse takes the other value (R114). -/
theorem test_source_entry_reverse :
    (after (exec .applyEntry
      { playing .running [0x0200000000000500, 0x03000000000003FC] with
        clock.direction := .reverse, sequencer.bufferA.tag := some .reverse })).map
      (fun t => t.resolver.current.map (·.job)) = some (some (.source 0 true 1280)) := by decide

/-- `fresh` with cue line 0 last sampled HIGH and its taken level as given. -/
def lineHigh (taken : Option Bool) : State :=
  { fresh with
    panel.cues := fresh.panel.cues.set 0 ({ CueLine.initial with lastSample := some true, taken := taken }) }

/-- The first level a line takes is no edge; a later move into the asserted level is one (R162, R163). -/
theorem test_sample_edge :
    (after (exec (.sampleEvent 1 []) (lineHigh none))).map (fun t => (t.panel.cues.get 0).flag) = some false ∧
    (after (exec (.sampleEvent 1 []) (lineHigh (some false)))).map (fun t => (t.panel.cues.get 0).flag) =
      some true := by decide

/-- An event word: flags 2 and 18, most significant byte first, taken with the status position (R154, R194). -/
theorem test_event_word :
    (after (exec (.readEvents (some 0)) { fresh with watch.flags := 0x40004 })).map
      (fun t => (t.link.reply, t.watch.flags)) = some ([0x04, 0x00, 0x04], 0) := by decide

/-- An event raised between READ EVENTS and its status byte is in the word (R154, R181). -/
theorem test_event_before_status :
    (after (exec (.readEvents none) fresh)).map
      (fun t => ((hostByte (raise .cue t) 0).link.reply, (hostByte (raise .cue t) 0).watch.flags)) =
      some ([0x00, 0x02, 0x00], 0) := by decide

/-- SCK high and low again for each bit. -/
def clocked (bits : List Bool) : List (Bool × Bool) := bits.flatMap fun b => [(true, b), (false, b)]

/-- 0x65 READ STATUS, most significant bit first, in both sampling modes; a byte cut short is not taken (R175,
R176). -/
theorem test_wire :
    wholeBytes [] (fresh.link.sampledBits false
      (clocked [false, true, true, false, false, true, false, true, true])) = [0x65] ∧
    wholeBytes [] ({ fresh.link with lmode1 := true }.sampledBits false
      (clocked [false, true, true, false, false, true, false, true, true])) = [0x65] ∧
    hostWire (clocked [false]) fresh = fresh := ⟨by decide, by decide, by decide⟩

/-- SDO while the status 0x05 is clocked: with LMODE1 low the first bit stands at the assertion and each second edge
brings the next; with LMODE1 high each first edge does (R175). -/
theorem test_sdo :
    answered.sdoLevels (clocked (List.replicate 8 false)) =
      [.low, .low, .low, .low, .low, .low, .low, .low, .low, .low, .high, .high, .low, .low, .high, .high, .low] ∧
    (({ answered with link.lmode1 := true } : State).sdoLevels (clocked (List.replicate 8 false))).tail =
      [.low, .low, .low, .low, .low, .low, .low, .low, .low, .low, .high, .high, .low, .low, .high, .high] := by
  decide

/-- A step of an engine that holds no grant does nothing (log 5). -/
theorem test_step_not_due : exec .splitVisit (live .running) = .next (live .running) := rfl

/-! ### For each statement with hypotheses, a state and operands that meet them -/

/-- The LINK grant is in progress for command `c`. -/
def granted (c : Command) : State :=
  { live .ready with arbiter.grant := .link, link.frame := .waiting, link.taken := some c }

/-- A frame is in state `f`. -/
def framed (f : FrameState) (s : State) : State := { s with link.frame := f }

/-- An accepted load of buffer A with the entry bytes `gathered`, and `entries` already counted. -/
def loading (f : FrameState) (checked : Bool) (entries : List (BitVec 64)) (gathered : List Byte) : State :=
  { live .ready with
    link.frame := f
    link.load := some .a
    link.gathered := gathered
    link.frameCheck := checked
    sequencer.bufferA :=
      { state := .loading, tag := some .forward, entries := entries, index := 0,
        lastLoad := some { outcome := .ok, counted := 0, torn := false } } }

/-- `live` with buffer A in state `x`, tagged FORWARD, with one entry. -/
def buffered (r : RunState) (x : BufferState) : State :=
  { live r with
    sequencer.bufferA :=
      { state := x, tag := some .forward, entries := [0x03000000000003FC], index := 0, lastLoad := none } }

/-- RESTORE that waited: at the hand-over the job, the queue and the buffer are gone, with SETTLED (R73, R58). -/
theorem test_restore_hand_over :
    (after (step { buffered .ready .armed with
        arbiter.grant := .link, link.frame := .waiting, link.taken := some .restore,
        resolver.queue := [.merge 1 0], resolver.current := some (workingJob (.merge 1 0) .guard) })).map
      (fun t => (t.run.state, t.resolver.queue, t.settled, t.flag .settled, t.sequencer.bufferA.state)) =
      some (.restoring, [], true, true, .empty) := by decide

/-- A PAUSE_TOGGLE line about to be taken HIGH. -/
def toggle : CueLine :=
  { CueLine.initial with function := .pauseToggle, taken := some false, lastSample := some true }

/-- Two PAUSE_TOGGLE edges of one sample in RUNNING pass through PAUSED: the waiting claim of the Sequencer is
withdrawn, and the one placed anew has waited for no grant (R163, R128, R72). -/
theorem test_two_toggles :
    (after (exec (.sampleEvent 3 [])
      { playing .running [0x03000000000003EC] with
        arbiter.grant := .resolver, arbiter.sequencerClaim := true, arbiter.sequencerWait := 3
        resolver.current := some (workingJob (.merge 1 0) .guard)
        panel.cues := (fresh.panel.cues.set 0 toggle).set 1 toggle })).map
      (fun t => (t.run.state, t.arbiter.sequencerClaim, t.arbiter.sequencerWait)) = some (.running, true, 0) := by
  decide

/-- PAUSED with buffer A ACTIVE, an entry due, the store free, and two PAUSE_TOGGLE lines about to be taken HIGH. -/
def toggling : State :=
  { playing .paused [0x03000000000003EC] with
    arbiter.grant := .none
    panel.cues := (fresh.panel.cues.set 0 toggle).set 1 toggle }

/-- The claim that the first of two PAUSE_TOGGLE edges places on a free store is granted at once; the second edge
finds the grant in progress and pauses the run (R70, R111, R127, R134). -/
theorem test_edge_claim_is_granted :
    (after (exec (.sampleEvent 3 []) toggling)).map
      (fun t => (t.run.state, t.arbiter.grant, t.arbiter.sequencerClaim)) = some (.paused, .sequencer, false) := by
  decide

theorem witness_EmptyQueueIdlesOrEndsTheGrant :
    (State.reset.pending = [] ∧ State.reset.arbiter.grant ≠ .link) ∧
    ((granted .readClock).pending = [] ∧ (granted .readClock).arbiter.grant = .link ∧
      (granted .readClock).link.taken = some .readClock) ∧
    (live .running).arbiter.grant = .none := by decide

theorem witness_ExecKeepsTheQueue : exec .flashPhaseTurn State.reset = .next (flashPhaseTurn State.reset) := rfl

theorem witness_SelectOpensAndEndsFrames :
    (State.reset.link.frame = .idle ∧ State.reset.arbiter.grant ≠ .link) ∧ fresh.link.frame ≠ .idle ∧
    (accessOf (.setEnd 7) = .claim ∧ (granted (.setEnd 7)).link.frame = .waiting ∧
      (granted (.setEnd 7)).arbiter.grant = .link ∧ (granted (.setEnd 7)).link.taken = some (.setEnd 7) ∧
      (granted (.setEnd 7)).link.stream = none ∧ (granted (.setEnd 7)).link.load = none ∧
      (granted (.setEnd 7)).link.captured = none) := by decide

/-- The state of `UndecidedCommandIsNotCarriedOut`: the frame in `f` while the grant `g` is in progress. -/
def undecided (f : FrameState) (g : Grant) : State := framed f { live .running with arbiter.grant := g }

theorem witness_UndecidedCommandIsNotCarriedOut :
    (∀ g ∈ [Grant.resolver, .sequencer],
      (undecided .waiting g).link.frame = .waiting ∧ (undecided .waiting g).arbiter.grant = g ∧
        (undecided .waiting g).link.load = none ∧ (undecided .waiting g).link.captured = none) ∧
    ∀ f ∈ [FrameState.command, .arguments, .check], ∀ g ∈ [Grant.none, .compileRestore, .resolver, .sequencer],
      (undecided f g).link.frame = f ∧ (undecided f g).arbiter.grant = g ∧ (undecided f g).arbiter.grant ≠ .link ∧
        (undecided f g).link.load = none ∧ (undecided f g).link.captured = none := by decide

theorem witness_SelReleaseSettlesCapturesAndLoads :
    (∀ f ∈ [FrameState.status, .reply],
      ({ framed f fresh with link.captured := some 0x40004 } : State).link.frame = f ∧
        (framed f fresh).link.load = none ∧ (framed f fresh).arbiter.grant ≠ .link ∧
        (framed f fresh).arbiter.clearPending = false) ∧
    ∀ gathered ∈ [[], [(1 : Byte)]],
      (loading .entries false [] gathered).link.frame = .entries ∧
        (loading .entries false [] gathered).link.load = some .a ∧
        (loading .entries false [] gathered).link.captured = none ∧
        (loading .entries false [] gathered).arbiter.grant ≠ .link ∧
        (loading .entries false [] gathered).arbiter.clearPending = false := by decide

theorem witness_CommandCodingIsExact : decodeCommand 0x13 [] = some .clearModel := by decide

theorem witness_CommandRowsAreTheirBytes : fresh.link.frame = .command := rfl

theorem witness_UnknownAndBadlySentCommands :
    (fresh.link.frame = .command ∧ argCount 0xFF = none ∧ fresh.arbiter.grant ≠ .link) ∧
    ((opened true State.reset).link.frame = .command ∧ (opened true State.reset).link.checkMode = true ∧
      (0xDD : Byte) ≠ xorBytes (Command.setEnd 40000).argBytes ∧
      (0 : Byte) ≠ xorBytes (Command.loadBatch 0x41 1).argBytes) := by decide

theorem witness_ClaimsMeetTheGrant :
    (Taken .readClock none (staged .restoring none (some .first)) ∧
      (staged .restoring none (some .first)).arbiter.grant = .compileRestore) ∧
    (Taken .readClock none (working .resolver (.merge 1 0) .guard) ∧
      (working .resolver (.merge 1 0) .guard).arbiter.grant = .resolver) ∧
    (Taken .readClock none (playing .running []) ∧ (playing .running []).arbiter.grant = .sequencer) ∧
    accessOf .readClock = .claim := ⟨⟨⟨rfl, rfl⟩, rfl⟩, ⟨⟨rfl, rfl⟩, rfl⟩, ⟨⟨rfl, rfl⟩, rfl⟩, rfl⟩

theorem witness_RefusedCommandsChangeNothing :
    (Taken .start none fresh ∧ fresh.arbiter.clearPending = false ∧
      (after (exec (.start none) fresh)).map (fun t => (t.link.frame, t.link.reply.head?)) =
        some (.status, some 0x03)) ∧
    (Taken (.discardBatch 0x41) none (buffered .ready .active) ∧
      (buffered .ready .active).arbiter.clearPending = false ∧
      (after (exec (.discardBatch 0x41 none) (buffered .ready .active))).map
        (fun t => (t.link.frame, t.link.reply.head?)) = some (.status, some 0x02)) ∧
    (Taken (.discardBatch 0x43) none fresh ∧
      (after (exec (.discardBatch 0x43 none) fresh)).map (fun t => (t.link.frame, t.link.reply.head?)) =
        some (.status, some 0x04)) :=
  ⟨⟨taken_fresh _, by decide⟩, ⟨⟨rfl, rfl⟩, by decide⟩, taken_fresh _, by decide⟩

theorem witness_RepliesAreClockedOut :
    answered.link.frame = .status ∧ answered.link.reply = [0x05, 0x01] ∧ answered.link.load = none ∧
      answered.link.refusal = none ∧ answered.link.late = none ∧ answered.link.ready = [] ∧ answered.link.stream = none ∧
      answered.link.waitBegun = false ∧ ([] : List Byte).length < 2 ∧ [(0 : Byte), 0].length = 2 := by decide

/-- SET END 7 with its grant in progress, LMODE1 as given, and the next position begun or not. -/
def waitingFor (high begun : Bool) : State :=
  { granted (.setEnd 7) with link.lmode1 := high, link.waitBegun := begun }

/-- READY, with a RESOLVER grant in progress that ends its job: the ends of switch 0 stand in one island. -/
def endingGuard : State :=
  { live .ready with arbiter.grant := .resolver, resolver.current := some (workingJob (.merge 0 9) .guard) }

/-- For RepliesAreClockedOut: a frame in WAITING in both sampling modes, a status behind a wait byte that has begun, and
a LINK grant that ends between two rows, with the next position begun and not. -/
theorem witness_RepliesAreClockedOut_waits :
    (∀ high, (waitingFor high true).link.frame = .waiting ∧ (waitingFor high true).link.lmode1 = high) ∧
    ({ answered with link.waitBegun := true } : State).link.frame = .status ∧
    accessOf (.setEnd 7) = .claim ∧
    ∀ begun, (waitingFor false begun).pending = [] ∧ (waitingFor false begun).link.frame = .waiting ∧
      (waitingFor false begun).link.taken = some (.setEnd 7) ∧ (waitingFor false begun).arbiter.grant = .link ∧
      (waitingFor false begun).arbiter.clearPending = false ∧ (waitingFor false begun).link.waitBegun = begun := by
  decide

/-- SET END 7 behind a RESOLVER grant that ends between two rows: with LMODE1 low the position after the argument bytes
began while the claim waited, and the status 0x01 follows its wait byte; with LMODE1 high the status comes first
(R175, R176). -/
theorem test_begun_position_keeps_its_wait_byte :
    ∀ high : Bool,
      (after (exec (.setEnd 7 none) { endingGuard with link.lmode1 := high })).bind (fun t =>
        (after (exec .mergeGuard t)).bind fun u => (after (step { u with pending := [] })).map fun v =>
          (t.sdoByte, v.link.frame, v.sdoByte, (hostByte v 0).sdoByte)) =
      some (some 0, .status, some (if high then 1 else 0), some (if high then 0 else 1)) := by decide

/-- The items of a reading command are still to be taken, with its status byte. -/
def unread (r : LateRead) : State := { fresh with link.frame := .status, link.reply := [0x01], link.late := some r }

theorem witness_DirectReadsReply :
    (∀ r ∈ [LateRead.status, .events, .interrupt, .lines],
      (unread r).link.frame = .status ∧ (unread r).link.late = some r ∧ (unread r).link.load = none ∧
        (unread r).link.refusal = none ∧ (unread r).link.checkNext = none ∧ (unread r).link.waitBegun = false ∧
        (unread r).link.captured = none ∧
        (unread r).arbiter.grant ≠ .link ∧ (unread r).arbiter.clearPending = false) ∧
    Taken .readEvents none fresh ∧ fresh.link.checkMode = false ∧ fresh.link.load = none ∧
    fresh.link.refusal = none ∧ fresh.link.checkNext = none := ⟨by decide, taken_fresh _, rfl, rfl, rfl, rfl⟩

/-- For DirectReadsReply, InterruptSettingsAreWritten, ClearLineFlagsClearsTheMask and
SetCheckModeActsWithItsStatus: the last line in range and the first out of range. -/
theorem witness_direct_commands :
    (Taken .readStatus none fresh ∧ Taken .readInterrupt none fresh ∧ Taken (.readCueLine 7) none fresh ∧
      Taken (.readCueLine 8) none fresh ∧ Taken (.readIndicator 15) none fresh ∧
      Taken (.readIndicator 16) none fresh ∧ Taken .readLines none fresh) ∧
    Taken .readEvents none fresh ∧ Taken (.setEventEnables 0xFFFFFF) none fresh ∧
    Taken (.setInterruptLine 1 1 1) none fresh ∧ Taken (.clearLineFlags 0xFF) none fresh ∧
    Taken (.setCheckMode 1) none fresh ∧ answered.link.frame = .status ∧ answered.link.waitBegun = false :=
  ⟨⟨taken_fresh _, taken_fresh _, taken_fresh _, taken_fresh _, taken_fresh _, taken_fresh _, taken_fresh _⟩,
    taken_fresh _, taken_fresh _, taken_fresh _, taken_fresh _, taken_fresh _, rfl, rfl⟩

/-- An OPEN_DRAIN and a PUSH_PULL line, enabled, and one not enabled. -/
theorem witness_InterruptLineFollowsTheRequest :
    fresh.watch.intEnabled = false ∧
    (({ fresh with watch.intEnabled := true } : State).watch.intEnabled = true ∧
      ({ fresh with watch.intEnabled := true } : State).watch.intPushPull = false) ∧
    ({ fresh with watch.intEnabled := true, watch.intPushPull := true } : State).watch.intPushPull = true := by
  decide

theorem witness_PanelLinesAreConfigured :
    Taken (.setCueLine 7 3 1 1) none fresh ∧ (7 : Byte).toNat < 8 ∧ (3 : Byte).toNat < 4 ∧ (1 : Byte).toNat < 2 ∧
    Taken (.setCueLine 8 0 0 0) none fresh ∧ ¬(8 : Byte).toNat < 8 ∧
    Taken (.setIndicator 15 2 4095 1 1 1) none fresh ∧ (15 : Byte).toNat < 16 ∧ (2 : Byte).toNat < 3 ∧
    (4095 : U16).toNat < 4096 ∧ Taken (.setIndicator 0 0 4096 0 0 0) none fresh ∧ ¬(4096 : U16).toNat < 4096 :=
  ⟨taken_fresh _, by decide, by decide, by decide, taken_fresh _, by decide, taken_fresh _, by decide, by decide,
    by decide, taken_fresh _, by decide⟩

theorem witness_LoadBatchIsDecided :
    ([(0x55 : Byte)] ≠ [] ∧ (live .ready).link.late = none) ∧
    (Taken (.loadBatch 0x41 1) none (live .ready) ∧ parseBuffer 0x41 = some .a ∧
      parseDirection 1 = some .forward ∧ (live .ready).sequencer.bufferA.state = .empty ∧
      (buffered .ready .loading).sequencer.bufferA.state = .loading ∧
      (buffered .ready .loading).sequencer.bufferA.tag = some .forward) ∧
    fresh.run.state = .build ∧
    (parseBuffer 0x43 = none ∧ parseDirection 3 = none ∧ parseDirection 2 = some .reverse ∧
      (buffered .ready .armed).sequencer.bufferA.state = .armed ∧
      (buffered .running .active).sequencer.bufferA.state = .active) :=
  ⟨by decide, ⟨taken_live _ _, by decide⟩, by decide, by decide⟩

/-- A buffer with room for one more entry, and a full one. -/
theorem witness_EntriesAreCounted :
    (∀ checked n, (loading .entries checked (List.replicate n 0) []).link.frame = .entries ∧
      (loading .entries checked (List.replicate n 0) []).link.load = some .a ∧
      (loading .entries checked (List.replicate n 0) []).link.gathered = [] ∧
      (loading .entries checked (List.replicate n 0) []).arbiter.grant = .none ∧
      (loading .entries checked (List.replicate n 0) []).link.frameCheck = checked ∧
      (loading .entries checked (List.replicate n 0) []).sequencer.bufferA.lastLoad =
        some { outcome := .ok, counted := 0, torn := false } ∧
      (loading .entries checked (List.replicate n 0) []).sequencer.bufferA.entries.length = n) ∧
    ((loading .status false [] []).link.frame = .status ∧ (loading .status false [] []).link.load = some .a ∧
      (loading .status false [] []).link.late = none ∧ (loading .status false [] []).link.checkNext = none ∧
      (loading .status false [] []).arbiter.grant ≠ .link) ∧
    255 < 256 ∧ 256 ≤ 256 ∧ [(1 : Byte), 0, 43, 0x10, 0, 0, 4, 0xB0].length = 8 ∧
    (0 : Byte) ≠ xorBytes [1, 0, 43, 0x10, 0, 0, 4, 0xB0] :=
  ⟨fun _ n => ⟨rfl, rfl, rfl, rfl, rfl, rfl, List.length_replicate (n := n)⟩, by decide, by decide⟩

/-- `fresh` with nodes 0 and 1 defined. -/
def defined : State :=
  { fresh with
    store.nodes :=
      [(0, { kind := .bus, initialOnline := none, online := none, island := none, prev := none, next := none,
             incidence := [] }),
       (1, { kind := .bus, initialOnline := none, online := none, island := none, prev := none, next := none,
             incidence := [] })] }

theorem quiet_defined : Quiet defined := ⟨rfl, rfl, rfl, rfl, rfl, rfl⟩

theorem witness_DefinesWriteTheRecords :
    (Taken (.defineNode 4095 1 1) none fresh ∧ Quiet fresh ∧ fresh.run.state = .build ∧
      (4095 : U16).toNat < 4096 ∧ (1 : Byte).toNat < 3 ∧ (1 : Byte).toNat < 2) ∧
    (Taken (.defineNode 4096 3 2) none fresh ∧ 4096 ≤ (4096 : U16).toNat ∧ 3 ≤ (3 : Byte).toNat) ∧
    (Taken (.defineSwitch 8191 0 1 1) none defined ∧ Quiet defined ∧ defined.run.state = .build ∧
      (8191 : U16).toNat < 8192 ∧ (defined.store.node 0).isSome = true ∧ (defined.store.node 1).isSome = true) ∧
    (Taken (.defineSwitch 8192 0 0 2) none defined ∧ 8192 ≤ (8192 : U16).toNat) ∧
    (Taken (.defineNode 0 0 0) none (live .ready) ∧ Quiet (live .ready) ∧ (live .ready).run.state ≠ .build) :=
  ⟨⟨taken_fresh _, quiet_fresh, by decide⟩, ⟨taken_fresh _, by decide⟩,
    ⟨⟨rfl, rfl⟩, quiet_defined, by decide⟩, ⟨⟨rfl, rfl⟩, by decide⟩, taken_live _ _, quiet_live _, by decide⟩

theorem storeInv_net : net.canonical = true := by decide

theorem witness_CompileBuildsTheModel :
    (Taken .buildEnd none defined ∧ Quiet defined ∧ defined.run.state = .build ∧ defined.store.nodes ≠ []) ∧
    (Taken .buildEnd none fresh ∧ Quiet fresh ∧ fresh.store.nodes = []) ∧
    (Taken .buildEnd none (live .ready) ∧ Quiet (live .ready)) ∧
    (∀ c ∈ [CompileStage.incidence, .starting, .labelling],
      (staged .compiling (some c) none).arbiter.grant = .compileRestore ∧
      (staged .compiling (some c) none).run.state = .compiling ∧
      (staged .compiling (some c) none).run.compileStage = some c ∧
      (staged .compiling (some c) none).arbiter.clearPending = false) ∧
    StoreInv (staged .compiling (some .incidence) none) :=
  ⟨⟨⟨rfl, rfl⟩, quiet_defined, by decide⟩, ⟨taken_fresh _, quiet_fresh, by decide⟩,
    ⟨taken_live _ _, quiet_live _⟩, by decide, storeInv_net⟩

/-- The small network as the second stage of compile leaves it. -/
def unlabelled : Store :=
  { net with nodes := net.nodes.map fun p => (p.1, p.2.unlinked), islands := [] }

/-- Switches 0 and 1 lead from node 0 to 3 and to 1, switch 2 from 3 to 2, all CLOSED; nothing is labelled. -/
def branching : Store :=
  { nodes := [(0, bus [0, 1]), (1, bus [1]), (2, bus [2]), (3, bus [0, 2])]
    switches := [(0, closed 0 3), (1, closed 0 1), (2, closed 3 2)]
    islands := [] }
where
  /-- A BUS with an incidence list. -/
  bus (l : List Nat) : NodeRec :=
    { kind := .bus, initialOnline := none, online := none, island := none, prev := none, next := none, incidence := l }
  /-- A CLOSED switch between two nodes. -/
  closed (a b : Nat) : SwitchRec :=
    { endA := a, endB := b, initial := .closed, archived := .closed, held := .closed, override := none,
      effective := .closed, retired := false, discrepancy := false, changeCount := 0, lastChange := none }

/-- The search takes switches in ascending order and reaches 3 before 1, and both before 2 (R12). -/
theorem test_labelling_order :
    [0, 3, 1, 2].map (fun n => ((branching.labelAll 0).node n).map (·.next)) =
      [some (some 3), some (some 1), some (some 2), some none] := by decide

theorem witness_LabellingJoinsClosedSwitches :
    unlabelled.canonical = true ∧ unlabelled.islands = [] ∧ (∀ p ∈ unlabelled.nodes, p.2.island = none) ∧
    (∀ p ∈ unlabelled.nodes, ∀ q ∈ unlabelled.switches,
      (q.2.endA = p.1 ∨ q.2.endB = p.1) → q.1 ∈ p.2.incidence) ∧
    (∀ q ∈ unlabelled.switches, (unlabelled.node q.2.endA).isSome = true ∧
      (unlabelled.node q.2.endB).isSome = true) ∧
    (∀ p ∈ unlabelled.nodes, ∀ k ∈ p.2.incidence,
      (unlabelled.switch k).any (fun x => x.endA = p.1 ∨ x.endB = p.1) = true) ∧
    ((unlabelled.labelAll 0).node 0).map (·.island) = some (some 0) ∧
    ((unlabelled.labelAll 0).node 1).map (·.island) = some (some 0) ∧
    ((unlabelled.labelAll 0).node 2).map (·.island) = some (some 1) ∧
    (unlabelled.labelAll 0).island 0 ≠ none := by decide

theorem witness_ClearModelEmptiesTheModel :
    (Taken .clearModel none (live .running) ∧ StoreInv (live .running) ∧ (live .running).arbiter.grant = .none) ∧
    (Taken .clearModel none (staged .restoring none (some .second)) ∧
      StoreInv (staged .restoring none (some .second)) ∧
      (staged .restoring none (some .second)).arbiter.grant = .compileRestore) :=
  ⟨⟨taken_live _ _, storeInv_net, rfl⟩, ⟨rfl, rfl⟩, storeInv_net, rfl⟩

/-- The LINK grant for `c` is in progress while the resolver has a job in progress. -/
def behind (c : Command) : State :=
  { working .link (.merge 1 0) .guard with link.frame := .waiting, link.taken := some c }

theorem witness_OverrideAndRetireChangeTheSwitch :
    (∀ c ∈ [Command.overrideSwitch 1 1, .retireSwitch 0],
      (behind c).pending = [] ∧ (behind c).arbiter.grant = .link ∧ (behind c).link.taken = some c ∧
      (behind c).link.stream = none ∧ (behind c).arbiter.clearPending = false ∧
      (behind c).run.state.hasModel = true ∧ ((behind c).store.switch 1).isSome = true ∧
      (behind c).resolver.current ≠ none ∧ (behind c).resolver.queue.length < 64) ∧
    Taken (.overrideSwitch 1 1) none (live .ready) ∧ Taken (.retireSwitch 0) none (live .ready) ∧
    Quiet (live .ready) ∧ (live .ready).run.state.hasModel = true ∧ (1 : U16).toNat < 8192 ∧
    ((live .ready).store.switch 1).map (·.retired) = some false ∧
    ((live .ready).store.switch 0).map (·.retired) = some false :=
  ⟨by decide, taken_live _ _, taken_live _ _, quiet_live _, by decide⟩

/-- A LINK grant finds the queue full. -/
def full (c : Command) : State := { granted c with resolver.queue := List.replicate 64 (.merge 1 0) }

/-- Switch 0 retired. -/
def retired0 : State :=
  { live .ready with
    store.switches := net.switches.map fun p =>
      if p.1 = 0 then (p.1, { p.2 with retired := true, effective := .opened }) else p }

theorem witness_OverrideAndRetireAreRefused :
    (Taken (.overrideSwitch 0 0) none fresh ∧ Quiet fresh ∧ fresh.run.state = .build) ∧
    (Taken (.overrideSwitch 8192 3) none (live .ready) ∧ Quiet (live .ready) ∧
      (live .ready).run.state.hasModel = true ∧ 8192 ≤ (8192 : U16).toNat ∧ 2 < (3 : Byte).toNat) ∧
    (Taken (.retireSwitch 0) none retired0 ∧ Quiet retired0 ∧
      (retired0.store.switch 0).map (·.retired) = some true) ∧
    (∀ c ∈ [Command.overrideSwitch 0 0, .overrideSwitch 1 1, .retireSwitch 0],
      (full c).pending = [] ∧ (full c).arbiter.grant = .link ∧ (full c).link.taken = some c ∧
      (full c).link.stream = none ∧ (full c).arbiter.clearPending = false ∧
      (full c).run.state.hasModel = true ∧ 64 ≤ (full c).resolver.queue.length) ∧
    (net.switch 0).map (·.effective) = some .closed ∧ (net.switch 1).map (·.effective) = some .opened :=
  ⟨⟨taken_fresh _, quiet_fresh, rfl⟩, ⟨taken_live _ _, quiet_live _, by decide⟩,
    ⟨⟨rfl, rfl⟩, ⟨rfl, rfl, rfl, rfl, rfl, rfl⟩, by decide⟩, by decide, by decide, by decide⟩

theorem queueInv_live (r : RunState) : QueueInv (live r) := by
  cases r <;> (unfold QueueInv; decide)

/-- The LINK grant of SET POLICY is in progress behind a job in progress and `n` queued. -/
def policyBehind (n : Nat) : State :=
  { behind (.setPolicy 2) with run.state := .paused, resolver.queue := List.replicate n (.merge 1 0) }

theorem witness_SetPolicyDerivesInvalidSwitches :
    (∀ n ∈ [0, 64], (policyBehind n).pending = [] ∧ (policyBehind n).arbiter.grant = .link ∧
      (policyBehind n).link.taken = some (.setPolicy 2) ∧ (policyBehind n).arbiter.clearPending = false ∧
      (policyBehind n).run.state = .paused ∧ (policyBehind n).resolver.current ≠ none) ∧
    StoreInv (policyBehind 64) ∧ QueueInv (policyBehind 0) ∧ QueueInv (policyBehind 64) ∧
    (Taken (.setPolicy 2) none (live .paused) ∧ Quiet (live .paused) ∧ (live .paused).run.state = .paused ∧
      StoreInv (live .paused) ∧ QueueInv (live .paused)) ∧
    (Taken (.setPolicy 0) none (live .running) ∧ Quiet (live .running)) ∧
    (Taken (.setPolicy 3) none (live .ready) ∧ Quiet (live .ready) ∧ 2 < (3 : Byte).toNat) :=
  ⟨by decide, storeInv_net, by unfold QueueInv; decide, by unfold QueueInv; decide,
    ⟨taken_live _ _, quiet_live _, rfl, storeInv_net, queueInv_live _⟩, ⟨taken_live _ _, quiet_live _⟩,
    taken_live _ _, quiet_live _, by decide⟩

theorem witness_LookupsReply :
    Taken (.lookupSwitch 8191) none (live .ready) ∧ Taken (.lookupNode 4096) none (live .ready) ∧
    Taken (.lookupIsland 1 1) none (live .ready) ∧ Taken .readClock none (live .ready) ∧
    Taken (.readWatch 3) none (live .ready) ∧ Taken (.readBatch 0x42) none (live .ready) ∧
    Quiet (live .ready) ∧ parseBuffer 0x42 = some .b ∧ parseBuffer 0x43 = none ∧
    ((net.node 1).map (·.island) = some (some 0) ∧ net.node 3 = none ∧
      (defined.store.node 1).map (·.island) = some none) ∧
    ((net.switch 1).isSome = true ∧ net.switch 2 = none ∧ (net.island 1).isSome = true ∧ net.island 2 = none) :=
  ⟨taken_live _ _, taken_live _ _, taken_live _ _, taken_live _ _, taken_live _ _, taken_live _ _, quiet_live _,
    by decide⟩

/-- Buffer A ARMED at the head of the arm order, with the tag `d`. -/
def armed (d : Direction) : State :=
  { buffered .ready .armed with sequencer.armOrder := [.a], sequencer.bufferA.tag := some d }

/-- Buffers A and B ARMED in that order, A with a tag that is not the direction of play, B with the tag `d`. -/
def bothArmed (d : Direction) : State :=
  { armed .reverse with
    sequencer.armOrder := [.a, .b], sequencer.bufferB := { (armed d).sequencer.bufferA with tag := some d } }

/-- `s` in run state `r`. -/
def inState (r : RunState) (s : State) : State := { s with run.state := r }

/-- READ BATCH of two ARMED buffers, B first, and of an ACTIVE one at its second entry, a CUE at 1020 (R107, R191). -/
theorem test_read_batch_order_and_head :
    (after (exec (.readBatch 0x41 none) { bothArmed .forward with sequencer.armOrder := [.b, .a] })).map
      (fun t => t.link.reply.getD 7 0) = some 2 ∧
    (after (exec (.readBatch 0x42 none) { bothArmed .forward with sequencer.armOrder := [.b, .a] })).map
      (fun t => t.link.reply.getD 7 0) = some 1 ∧
    (after (exec (.readBatch 0x41 none)
        { playing .paused [0, 0x03000000000003FC] with arbiter := .free, sequencer.bufferA.index := 1 })).map
      (fun t => t.link.reply.drop 13) = some [1, 3, 0, 0, 0, 0, 0, 3, 0xFC] := by decide

/-- The walk cursor on node 1 of island 0. -/
def walking : State :=
  { live .ready with
    resolver.cursor := { island := 0, generation := 0, current := some 1, stride := 1, valid := true } }

theorem witness_WalkCommandsMoveTheCursor :
    (Taken (.walkSet 0 0 8) none (live .ready) ∧ Quiet (live .ready) ∧ ((live .ready).store.island 0).isSome = true ∧
      ((live .ready).store.islandRec 0).generation = 0) ∧
    (Taken (.walkSet 4095 0 1) none (live .ready) ∧ (live .ready).store.island 4095 = none) ∧
    (Taken (.walkSet 4096 0 3) none (live .ready) ∧ 4096 ≤ (4096 : U16).toNat) ∧
    (Taken (.walkMove 3) none walking ∧ Quiet walking ∧ walking.resolver.cursor.valid = true ∧
      (walking.store.island 0).isSome = true ∧ (walking.store.node 1).map (·.island) = some (some 0) ∧
      walking.store.backward 1 1 = some 0 ∧ walking.store.forward 1 1 = none) ∧
    (Taken (.walkMove 0) none (live .ready) ∧ (live .ready).resolver.cursor.valid = false) ∧
    (Taken (.walkMove 4) none walking ∧ 4 ≤ (4 : Byte).toNat) :=
  ⟨⟨taken_live _ _, quiet_live _, by decide⟩, ⟨taken_live _ _, by decide⟩, ⟨taken_live _ _, by decide⟩,
    ⟨⟨rfl, rfl⟩, ⟨rfl, rfl, rfl, rfl, rfl, rfl⟩, by decide⟩, ⟨taken_live _ _, by decide⟩, ⟨rfl, rfl⟩, by decide⟩

/-- The grant of a streamed record. -/
def streaming : State :=
  { live .ready with
    arbiter.grant := .link, link.frame := .waiting, link.stream := some { table := .nodes, index := 4095 } }

/-- READ TABLE on a free store: the status comes first with no wait byte, and after the ten bytes of each node
record the status of the next (R75, R182, R192). -/
theorem test_read_table_has_no_wait_bytes :
    (after (exec (.readTable 0 0 none) (live .ready))).map
      (fun t => (t.sdoByte, (hostBytes (List.replicate 11 0) t).sdoByte, (hostBytes (List.replicate 22 0) t).sdoByte)) =
      some (some 1, some 1, some 1) := by decide

/-- The last byte of a record is being sent, with the grant `g` in progress and the replies `ready` behind it. -/
def lastByte (g : Grant) (ready : List (List Byte)) : State :=
  { streaming with arbiter.grant := g, link.frame := .reply, link.reply := [0x01], link.ready := ready }

theorem witness_TableStreamsSendRecords :
    (∀ g ∈ [Grant.link, .resolver], ∀ l ∈ [[], [[(1 : Byte)]]],
      (lastByte g l).link.frame = .reply ∧ (lastByte g l).link.reply = [0x01] ∧ (lastByte g l).link.ready = l ∧
      (lastByte g l).link.stream.isSome = true ∧ (lastByte g l).arbiter.grant = g ∧
      (lastByte g l).link.taken = none ∧ (lastByte g l).link.waitBegun = false ∧
      (lastByte g l).arbiter.clearPending = false) ∧
    (Taken (.readTable 0 4095) none (live .ready) ∧ Quiet (live .ready) ∧ parseTable 0 = some .nodes ∧
      (4095 : U16).toNat < tableSize .nodes) ∧
    (Taken (.readTable 3 0) none (live .ready) ∧ parseTable 3 = none ∧ tableSize .nodes ≤ (4096 : U16).toNat) ∧
    (streaming.arbiter.grant = .link ∧ streaming.link.taken = none ∧
      streaming.link.stream = some { table := .nodes, index := 4095 } ∧
      streaming.arbiter.clearPending = false) :=
  ⟨by decide, ⟨taken_live _ _, quiet_live _, by decide⟩, ⟨taken_live _ _, by decide⟩, by decide⟩

theorem witness_ClockSettingsAreStored :
    (Taken (.setPacing 0 1) none (live .running) ∧ Quiet (live .running) ∧
      parseDirection 1 = some (live .running).clock.direction) ∧
    (Taken (.setPacing 0xFFFF 2) none (live .ended) ∧ Quiet (live .ended) ∧ parseDirection 2 = some .reverse ∧
      .reverse ≠ (live .ended).clock.direction) ∧
    (Taken (.setPacing 1 2) none (live .running) ∧ (live .running).run.state ≠ .ready) ∧
    (Taken (.setPacing 1 3) none (live .ready) ∧ Quiet (live .ready) ∧ parseDirection 3 = none) ∧
    (Taken (.setEnd 0) none (live .ended) ∧ (live .ended).run.state = .ended) ∧
    Taken (.setEnd 0xFFFFFFFF) none (live .running) :=
  ⟨⟨taken_live _ _, quiet_live _, by decide⟩, ⟨taken_live _ _, quiet_live _, by decide⟩,
    ⟨taken_live _ _, by decide⟩, ⟨taken_live _ _, quiet_live _, by decide⟩, ⟨taken_live _ _, rfl⟩, taken_live _ _⟩

/-- For ClockSettingsAreStored: the mark and the span. -/
theorem witness_ClockSettingsAreStored_marks :
    Taken (.setMark 1 5) none (live .ready) ∧ Taken (.setMark 2 5) none (live .ready) ∧
    Taken (.setStepSpan 0) none (live .ready) ∧ Taken (.setStepSpan 1) none fresh ∧ Quiet (live .ready) ∧
    Quiet fresh :=
  ⟨taken_live _ _, taken_live _ _, taken_live _ _, taken_fresh _, quiet_live _, quiet_fresh⟩

theorem witness_ArmAndDiscardBatches :
    (Taken (.armBatch 0x41) none (buffered .ready .loading) ∧ Quiet (buffered .ready .loading) ∧
      (buffered .ready .loading).sequencer.bufferA.state = .loading ∧
      1 ≤ (buffered .ready .loading).sequencer.bufferA.entries.length ∧
      (buffered .ready .loading).run.state.appliesEntries = false) ∧
    (Taken (.armBatch 0x42) none (buffered .ready .loading) ∧
      (buffered .ready .loading).sequencer.bufferB.state ≠ .loading ∧ parseBuffer 0x43 = none) ∧
    (∀ x ∈ [BufferState.loading, .armed, .active, .spent], (buffered .ready x).sequencer.bufferA.state = x) ∧
    (Taken (.discardBatch 0x41) none (buffered .ready .armed) ∧ Quiet (buffered .ready .armed) ∧
      Taken (.discardBatch 0x41) none (buffered .ready .active) ∧ Quiet (buffered .ready .active) ∧
      Taken (.discardBatch 0x41) none (live .ready) ∧ (live .ready).sequencer.bufferA.state = .empty) :=
  ⟨⟨⟨rfl, rfl⟩, ⟨rfl, rfl, rfl, rfl, rfl, rfl⟩, by decide⟩, ⟨⟨rfl, rfl⟩, by decide⟩, by decide,
    ⟨⟨rfl, rfl⟩, ⟨rfl, rfl, rfl, rfl, rfl, rfl⟩, ⟨rfl, rfl⟩, ⟨rfl, rfl, rfl, rfl, rfl, rfl⟩, taken_live _ _, rfl⟩⟩

/-- In each run state in which the test of activation acts: an ACTIVE buffer, one ARMED with either tag, both ARMED, and
none, with STARVE clear and set. -/
theorem witness_EnteringAMovingRun :
    ∀ r ∈ [RunState.running, .stepping, .ended],
      (r = .running ∨ r = .stepping ∨ r = .ended) ∧ (inState r (bothArmed .forward)).run.state = r ∧
      (∀ m ∈ [BufferName.b], m ≠ .a ∧ ((inState r (armed .reverse)).sequencer.buffer m).state ≠ .armed) ∧
      (∀ d ∈ [Direction.forward, .reverse],
        (inState r (bothArmed d)).sequencer.armOrder = [.a, .b] ∧ BufferName.a ≠ .b ∧
        ((inState r (bothArmed d)).sequencer.buffer .a).tag ≠ some (inState r (bothArmed d)).clock.direction ∧
        ((inState r (bothArmed d)).sequencer.buffer .b).tag = some d ∧
        (inState r (bothArmed d)).clock.direction = .forward ∧
        (inState r (bothArmed d)).sequencer.bufferA.state ≠ .active ∧
        (inState r (bothArmed d)).sequencer.bufferB.state ≠ .active ∧
        (inState r (armed d)).sequencer.armOrder = [.a] ∧ (inState r (armed d)).sequencer.bufferA.tag = some d ∧
        (inState r (armed d)).sequencer.bufferA.state ≠ .active ∧
        (inState r (armed d)).sequencer.bufferB.state ≠ .active) ∧
      (buffered r .active).sequencer.bufferA.state = .active ∧
      ∀ starved : Bool, (∀ n, (({ live r with clock.starve := starved } : State).sequencer.buffer n).state = .empty) ∧
        ({ live r with clock.starve := starved } : State).sequencer.armOrder = [] := by
  intro r hr
  simp only [List.mem_cons, List.not_mem_nil, or_false] at hr
  rcases hr with rfl | rfl | rfl <;> refine ⟨by decide, by decide, by decide, by decide, by decide, ?_⟩ <;>
    (intro b; refine ⟨?_, rfl⟩; intro n; cases n <;> rfl)

/-- A buffer armed in ENDED activates, one of another tag is rejected, and STARVE stays clear (R108, R109, R116). -/
theorem test_arming_in_ended :
    (after (exec (.armBatch 0x41 none) (buffered .ended .loading))).map
      (fun t => (t.sequencer.bufferA.state, t.clock.starve)) = some (.active, false) ∧
    (after (exec (.armBatch 0x41 none)
        { buffered .ended .loading with sequencer.bufferA.tag := some .reverse })).map
      (fun t => (t.sequencer.bufferA.state, t.flag .batchRejected, t.clock.starve, t.flag .starved)) =
      some (.empty, true, false, false) := by decide

theorem witness_RunCommandsMoveTheRun :
    (∀ r, Taken .start none (live r) ∧ Taken .resume none (live r) ∧ Taken .step none (live r) ∧
      Taken .pause none (live r) ∧ Quiet (live r) ∧ (live r).run.state = r) ∧
    (live .stepping).clock.boundary = some 100 :=
  ⟨fun r => ⟨taken_live _ r, taken_live _ r, taken_live _ r, taken_live _ r, quiet_live r, rfl⟩, rfl⟩

theorem witness_RestoreRunsItsStages :
    (Taken .restore none (live .ended) ∧ Quiet (live .ended) ∧ (live .ended).run.state.hasModel = true) ∧
    (Taken .restore none fresh ∧ Quiet fresh ∧ fresh.run.state = .build) ∧
    ((granted .restore).pending = [] ∧ (granted .restore).arbiter.grant = .link ∧
      (granted .restore).link.taken = some .restore ∧ (granted .restore).arbiter.clearPending = false ∧
      (granted .restore).run.state.hasModel = true) ∧
    (∀ x ∈ [RestoreStage.first, .second, .labelling],
      (staged .restoring none (some x)).arbiter.grant = .compileRestore ∧
      (staged .restoring none (some x)).run.state = .restoring ∧
      (staged .restoring none (some x)).run.restoreStage = some x ∧
      (staged .restoring none (some x)).arbiter.clearPending = false) ∧
    StoreInv (staged .restoring none (some .second)) :=
  ⟨⟨taken_live _ _, quiet_live _, by decide⟩, ⟨taken_fresh _, quiet_fresh, rfl⟩, by decide, by decide, storeInv_net⟩

/-- Condition 3 TRIPPED on the dead loads. -/
def tripped : State :=
  { live .ready with
    watch.conditions := (live .ready).watch.conditions.set 3
      ({ quantity := .deadLoads, relation := .atLeast, threshold := 1, state := .tripped, tripTime := some 7 }) }

theorem witness_WatchCommandsEvaluateAtOnce :
    (Taken (.setWatch 3 2 0 1 1) none (live .ready) ∧ Quiet (live .ready) ∧ parseCondition 3 = some 3 ∧
      parseQuantity 2 = some .deadLoads ∧ parseRelation 0 = some .atLeast ∧ parseWatchState 1 = some .armed) ∧
    (Taken (.setWatch 4 0 0 0 2) none (live .ready) ∧ parseCondition 4 = none ∧ parseWatchState 2 = none) ∧
    (Taken (.clearWatch 3) none tripped ∧ Quiet tripped ∧ (tripped.watch.conditions.get 3).state = .tripped ∧
      (tripped.watch.conditions.get 2).state ≠ .tripped) ∧
    Taken (.clearWatch 4) none tripped :=
  ⟨⟨taken_live _ _, quiet_live _, by decide⟩, ⟨taken_live _ _, by decide⟩,
    ⟨⟨rfl, rfl⟩, ⟨rfl, rfl, rfl, rfl, rfl, rfl⟩, by decide⟩, rfl, rfl⟩

/-- For RefreshIndicators and the outputs: a line that drives and one that does not. -/
theorem witness_IndicatorsAndSettleFollow :
    (Taken .refreshIndicators none (live .ready) ∧ Quiet (live .ready) ∧
      (live .ready).run.state.hasModel = true) ∧
    (Taken .refreshIndicators none fresh ∧ Quiet fresh ∧ fresh.run.state = .build) ∧
    Indicator.initial.highZ = true ∧ ({ Indicator.initial with highZ := false } : Indicator).highZ = false :=
  ⟨⟨taken_live _ _, quiet_live _, rfl⟩, ⟨taken_fresh _, quiet_fresh, rfl⟩, rfl, rfl⟩

/-- Condition 0 ARMED on the live islands, which the job in progress found at 0. -/
def watching (s : State) : State :=
  { s with
    watch.conditions := s.watch.conditions.set 0
      ({ quantity := .liveIslands, relation := .atMost, threshold := 1, state := .armed, tripTime := none }) }

/-- For ChangedQuantitiesAreHanded: compile's last stage, CLEAR MODEL and an entry with a condition ARMED. -/
theorem witness_ChangedQuantitiesAreHanded :
    (∀ e, e = Event.mark → ∀ n, e ≠ watchEvent n) ∧
    ((watching (staged .compiling (some .labelling) none)).arbiter.grant = .compileRestore ∧
      (watching (staged .compiling (some .labelling) none)).run.state = .compiling ∧
      (watching (staged .compiling (some .labelling) none)).run.compileStage = some .labelling ∧
      (watching (staged .compiling (some .labelling) none)).arbiter.clearPending = false) ∧
    (Taken .clearModel none (watching (live .ready)) ∧ (watching (live .ready)).arbiter.grant = .none ∧
      (after (exec (.clearModel none) (watching (live .ready)))).map
        (fun t => (t.flag .watch0, (t.watch.conditions.get 0).tripTime)) = some (true, some 0)) ∧
    ((playing .running [0x03000000000003EC]).arbiter.grant = .sequencer ∧
      (playing .running [0x03000000000003EC]).sequencer.head = some (.a, 0x03000000000003EC) ∧
      (playing .running [0x03000000000003EC]).arbiter.clearPending = false) :=
  ⟨fun e h n => by subst h; revert n; decide, by decide, ⟨⟨rfl, rfl⟩, by decide⟩, by decide⟩

theorem witness_JobsEnd :
    (live .ready).resolver.queue = [] ∧ (full .readClock).resolver.queue.head? = some (.merge 1 0) ∧
    (workingJob (.merge 1 0) .guard).touched = false ∧
    (workingJob (.merge 1 0) .guard).atTake = (live .ready).resolver.counts := by decide

/-- The MERGE of switch 1, CLOSED, at its RELABEL stage. -/
def merging : State :=
  { live .running with
    arbiter.grant := .resolver
    resolver.current :=
      some { workingJob (.merge 1 9) .relabel with survivor := some 0, absorbed := some 1 } }

theorem witness_MergeJobsRelabel :
    ((working .resolver (.merge 1 9) .guard).arbiter.grant = .resolver ∧
      (working .resolver (.merge 1 9) .guard).resolver.current = some (workingJob (.merge 1 9) .guard) ∧
      (working .resolver (.merge 1 9) .guard).arbiter.clearPending = false ∧
      (net.switch 1).bind (net.endIslands ·) = some (0, 1) ∧ (net.island 0).isSome = true ∧
      (net.island 1).isSome = true) ∧
    (merging.arbiter.grant = .resolver ∧
      merging.resolver.current.map (fun j => (j.job, j.stage)) = some (.merge 1 9, .relabel) ∧
      merging.arbiter.clearPending = false ∧ merging.resolver.current.bind (·.survivor) = some 0 ∧
      merging.resolver.current.bind (·.absorbed) = some 1 ∧ (merging.store.island 1).isSome = true) := by decide

/-- Node 1 leaves island 0 for island 1; node 2, alone in island 1, leaves it for island 0; node 1 opens the new and
empty island 2. -/
theorem witness_MovedNodesKeepTheLists :
    (net.canonical = true ∧ (net.node 1).map (fun r => (r.island, r.prev, r.next)) = some (some 0, some 0, none) ∧
      (net.island 0).map (fun b => (b.memberCount, b.last)) = some (2, 1) ∧
      (net.island 1).map (fun b => (b.memberCount, b.last)) = some (1, 2) ∧ (net.node 2).isSome = true) ∧
    ((net.node 2).map (fun r => (r.island, r.prev, r.next)) = some (some 1, none, none) ∧
      (net.node 1).isSome = true) ∧
    ((net.createIsland 2 1 9).canonical = true ∧
      ((net.createIsland 2 1 9).island 2).map (·.memberCount) = some 0 ∧
      ((net.createIsland 2 1 9).node 1).map (·.island) = some (some 0)) := by decide

/-- A SPLIT of switch 0, OPEN in effect, with the two sides as given. -/
def splitting (stage : JobStage) (turn : SideName) (a b : Side) (relabel : List Nat) : State :=
  { live .running with
    arbiter.grant := .resolver
    store.switches := net.switches.map fun p => (p.1, { p.2 with effective := .opened })
    resolver.current :=
      some { workingJob (.split 0 9) stage with turn := turn, sideA := a, sideB := b, toRelabel := relabel } }

theorem witness_SplitSearchesBothSides :
    ((splitting .guard .a ⟨[], []⟩ ⟨[], []⟩ []).resolver.current.map (fun j => (j.job, j.stage)) =
        some (.split 0 9, .guard) ∧
      ((splitting .guard .a ⟨[], []⟩ ⟨[], []⟩ []).store.switch 0).map (·.effective) = some .opened ∧
      ((splitting .guard .a ⟨[], []⟩ ⟨[], []⟩ []).store.switch 0).bind
        ((splitting .guard .a ⟨[], []⟩ ⟨[], []⟩ []).store.endIslands ·) = some (0, 0)) ∧
    ((splitting .search .a ⟨[0], [0]⟩ ⟨[1], [1]⟩ []).resolver.current.map (fun j => (j.turn, j.sideA.queue)) =
      some (.a, [0])) ∧
    ((splitting .search .b ⟨[], [0]⟩ ⟨[1], [1]⟩ []).resolver.current.map (fun j => (j.turn, j.sideB.queue)) =
      some (.b, [1])) ∧
    (splitting .search .b ⟨[], [0]⟩ ⟨[1], [1]⟩ []).arbiter.grant = .resolver ∧
    (splitting .search .b ⟨[], [0]⟩ ⟨[1], [1]⟩ []).arbiter.clearPending = false := by decide

theorem witness_VisitsFollowClosedSwitches :
    searchVisit net [] 0 [0] ⟨[], [0]⟩ = some ⟨[1], [0, 1]⟩ ∧ searchVisit net [1] 0 [0] ⟨[], [0]⟩ = none := by decide

theorem witness_SplitRelabelMovesOneNode :
    (splitting .relabel .b ⟨[], [0]⟩ ⟨[1], [1]⟩ [0]).resolver.current.map
      (fun j => (j.job, j.stage)) = some (.split 0 9, .relabel) ∧
    (splitting .relabel .b ⟨[], [0]⟩ ⟨[1], [1]⟩ [0]).resolver.current.map
      (fun j => (j.toRelabel, j.newIsland)) = some ([0], none) ∧
    (splitting .relabel .b ⟨[], [0]⟩ ⟨[1], [1]⟩ [0]).arbiter.clearPending = false ∧
    net.island 2 = none ∧ (∀ i < 2, net.island i ≠ none) := by decide

/-- For SplitRelabelMovesOneNode: the tables are canonical and node 0 has an island of two members. -/
theorem witness_SplitRelabelMovesOneNode_created :
    StoreInv (splitting .relabel .b ⟨[], [0]⟩ ⟨[1], [1]⟩ [0]) ∧
    (net.node 0).map (·.island) = some (some 0) ∧ (net.island 0).map (·.memberCount) = some 2 ∧
    (net.node 0).map (fun r => (r.prev, r.next)) = some (none, some 1) := ⟨by unfold StoreInv; decide, by decide⟩

/-- The first RELABEL claim of a SPLIT with cause time 9 moves node 1, no source, into the new island 2: DEAD, one
member, state-since 9 and the generation of the free record (R40, R55). -/
theorem test_created_island :
    (after (exec .splitRelabel (splitting .relabel .a ⟨[0], [0]⟩ ⟨[], [1]⟩ [1]))).map
      (fun t => (t.store.islandRec 2).generation) = some 0 ∧
    (after (exec .splitRelabel (splitting .relabel .a ⟨[0], [0]⟩ ⟨[], [1]⟩ [1]))).map
      (fun t => (t.store.island 2).map fun b => (b.feed, b.memberCount, b.since)) = some (some (.dead, 1, 9)) := by
  decide

theorem witness_SourceJobSetsOnline :
    StoreInv (working .resolver (.source 0 false 9) .guard) ∧
    ((working .resolver (.source 0 false 9) .guard).resolver.current =
        some (workingJob (.source 0 false 9) .guard) ∧
      (working .resolver (.source 0 false 9) .guard).arbiter.grant = .resolver ∧
      (working .resolver (.source 0 false 9) .guard).arbiter.clearPending = false ∧
      (net.node 0).map (fun r => (r.kind, r.online, r.island)) = some (.source, some true, some 0) ∧
      (net.island 0).isSome = true) := ⟨storeInv_net, by decide⟩

/-- A Sequencer grant with 64 jobs in the queue. -/
def crowded (es : List (BitVec 64)) : State :=
  { playing .running es with
    resolver.queue := List.replicate 64 (.merge 1 0)
    resolver.current := some (workingJob (.merge 1 0) .guard) }

theorem witness_EntriesAreSkippedOrHandedBack :
    (playing .running [0x04000000000003FC]).sequencer.head = some (.a, 0x04000000000003FC) ∧
    ((entryByte 0x00000000000003FC 0).toNat = 0 ∧ 3 < (entryByte 0x04000000000003FC 0).toNat) ∧
    (playing .running [0x01200040000003FC]).sequencer.head = some (.a, 0x01200040000003FC) ∧
    (net.switch (entryId 0x01200040000003FC) = none ∧ 64 ≤ (entryByte 0x01200040000003FC 3).toNat) ∧
    (2 ≤ (entryByte 0x02000002000003FC 3).toNat ∧ (entryByte 0x02000002000003FC 0).toNat = 2) ∧
    ((playing .running []).arbiter.grant = .sequencer ∧ (playing .running []).arbiter.clearPending = false) ∧
    ((crowded [0x02000000000003FC]).sequencer.head = some (.a, 0x02000000000003FC) ∧
      64 ≤ (crowded [0x02000000000003FC]).resolver.queue.length ∧
      (planEntry (crowded [0x02000000000003FC]) 0x02000000000003FC).needsRoom = true) :=
  ⟨by decide, by decide, by decide, by decide, by decide, by decide, by decide⟩

theorem witness_SwitchEntriesAreApplied :
    ((playing .running [0x01000101000003EE, 0]).arbiter.grant = .sequencer ∧
      (playing .running [0x01000101000003EE, 0]).sequencer.head = some (.a, 0x01000101000003EE) ∧
      (playing .running [0x01000101000003EE, 0]).arbiter.clearPending = false ∧
      readEntry 0x01000101000003EE = .switch 1 (some .opened) (some .closed) ∧ (net.switch 1).isSome = true ∧
      (playing .running [0x01000101000003EE, 0]).resolver.queue.length < 64 ∧
      (playing .running [0x01000101000003EE, 0]).sequencer.bufferA.index + 1 <
        (playing .running [0x01000101000003EE, 0]).sequencer.bufferA.entries.length) ∧
    StoreInv (playing .running [0x01000101000003EE, 0]) := ⟨by decide, storeInv_net⟩

theorem witness_OtherEntriesAreApplied :
    StoreInv (playing .ended [0x02000000000003EC, 0]) ∧
    ((playing .ended [0x02000000000003EC, 0]).sequencer.head = some (.a, 0x02000000000003EC) ∧
      readEntry 0x02000000000003EC = .source 0 (some false) ∧ (net.node 0).map (·.kind) = some .source ∧
      (playing .ended [0x02000000000003EC, 0]).resolver.current = none ∧
      (playing .ended [0x02000000000003EC, 0]).resolver.queue = []) ∧
    (readEntry 0x03000000000003FC = .cue ∧
      (playing .running [0x03000000000003FC, 0]).sequencer.head = some (.a, 0x03000000000003FC)) ∧
    (.a ∉ (playing .running [0x03000000000003FC]).sequencer.armOrder ∧
      (playing .running [0x03000000000003FC]).sequencer.bufferA.index + 1 =
        (playing .running [0x03000000000003FC]).sequencer.bufferA.entries.length ∧
      (planEntry (playing .running [0x03000000000003FC]) 0x03000000000003FC).needsRoom = false) ∧
    ({ playing .running [0x02000000000003EC, 0] with
        resolver.current := some (workingJob (.merge 1 0) .guard) } : State).resolver.queue.length < 64 :=
  ⟨storeInv_net, by decide⟩

/-- The last entry of buffer A, a CUE, in run state `r`, with buffer B in state `x` with the tag `d`, in the arm order
where it is ARMED. -/
def lastEntry (r : RunState) (x : BufferState) (d : Direction) : State :=
  { playing r [0x03000000000003FC] with
    sequencer.bufferB := { state := x, tag := some d, entries := [0x03000000000003FC], index := 0, lastLoad := none }
    sequencer.armOrder := if x = .armed then [.b] else [] }

/-- For OtherEntriesAreApplied: the last entry of a buffer with the other one ARMED with either tag, and not ARMED. -/
theorem witness_OtherEntriesAreApplied_last :
    ∀ r ∈ [RunState.running, .stepping, .ended, .ready], ∀ d ∈ [Direction.forward, .reverse],
      ∀ x ∈ [BufferState.armed, .loading],
        (lastEntry r x d).arbiter.grant = .sequencer ∧
        (lastEntry r x d).sequencer.head = some (.a, 0x03000000000003FC) ∧
        (lastEntry r x d).arbiter.clearPending = false ∧ .a ∉ (lastEntry r x d).sequencer.armOrder ∧
        (lastEntry r x d).sequencer.bufferA.index + 1 = (lastEntry r x d).sequencer.bufferA.entries.length ∧
        (planEntry (lastEntry r x d) 0x03000000000003FC).needsRoom = false ∧ BufferName.b ≠ .a ∧
        ((lastEntry r x d).sequencer.buffer .b).state ≠ .active ∧
        (lastEntry r x d).sequencer.armOrder = (if x = .armed then [.b] else []) ∧
        ((lastEntry r x d).sequencer.buffer .b).tag = some d ∧ (lastEntry r x d).clock.direction = .forward := by
  decide

/-- The last entry of A, an entry fault, with B ARMED, ARMED in the other direction, and only LOADING: B activates; B is
rejected and the run starves; the run starves. A CUE as the last entry pauses the run, and nothing activates (R110,
R115, R118). -/
theorem test_last_entry :
    (∀ d ∈ [Direction.forward, .reverse], ∀ x ∈ [BufferState.armed, .loading],
      (after (exec .applyEntry
        { lastEntry .running x d with sequencer.bufferA.entries := [0x04000000000003FC] })).map (fun t =>
          (t.sequencer.bufferA.state, t.sequencer.bufferB.state, t.flag .batchDone, t.flag .batchRejected,
            t.clock.starve, t.flag .starved)) =
      some (match x, d with
        | .armed, .forward => (.empty, .active, true, false, false, false)
        | .armed, .reverse => (.empty, .empty, true, true, true, true)
        | _, _ => (.empty, .loading, true, false, true, true))) ∧
    (after (exec .applyEntry (lastEntry .running .armed .forward))).map (fun t =>
      (t.run.state, t.sequencer.bufferB.state, t.clock.starve)) = some (.paused, .armed, false) := by decide

/-- A tick short of the end, at the end, at zero in reverse, at a boundary, and one that is held. -/
theorem witness_PacingTickAdvancesTheClock :
    (live .running).arbiter.clearPending = false ∧ (live .paused).clock.pausedState = true ∧
    ((live .running).run.state = .running ∧ (live .running).clock.starve = false ∧
      (live .running).clock.backlog = false ∧ (live .running).clock.holdLine = false ∧
      (live .running).clock.pausedState = false ∧
      ((live .running).clock.frac + (live .running).clock.rate) / 256 = 1 ∧
      1 < (live .running).clock.endTime - (live .running).clock.time) ∧
    (({ live .running with clock.endTime := 1 } : State).clock.endTime - 0 ≤ 1) ∧
    ({ live .running with clock.direction := .reverse } : State).clock.time ≤ 1 ∧
    ((live .stepping).clock.boundary = some 100 ∧
      ({ live .stepping with clock.time := 99 } : State).clock.time + 1 = 100) := by decide

theorem witness_SampleEventsMoveTheRun :
    (live .running).arbiter.clearPending = false ∧
    (lineHigh (some false)).panel.cues.get 0 =
      { CueLine.initial with lastSample := some true, taken := some false } ∧
    (∀ n : Fin 8, (fresh.panel.cues.get n).assertsAt ((0 : Byte).getLsbD n.val) = false) ∧
    (lineHigh (some false)).arbiter.clearPending = false ∧
    (∀ n : Fin 8, ((lineHigh (some false)).panel.cues.get n).assertsAt ((1 : Byte).getLsbD n.val) = true ↔ n = 0) ∧
    [(3 : Fin 8), 1].Nodup ∧
    ((cueOrder []).filter (fun n => (toggling.panel.cues.get n).assertsAt ((3 : Byte).getLsbD n.val)) = [0, 1] ∧
      (toggling.panel.cues.get 0).function = .pauseToggle ∧ (toggling.panel.cues.get 1).function = .pauseToggle ∧
      toggling.run.state = .paused ∧ toggling.arbiter = .free ∧ toggling.resolver.current = none ∧
      toggling.arbiter.clearPending = false ∧ (enterMoving .running toggling).sequencerReady = true) := by decide

/-- A CLEAR MODEL waits for the grant `g` to end. -/
def waitingClear (g : Grant) : State :=
  { working g (.merge 1 0) .guard with
    arbiter.grant := g, arbiter.clearPending := true, link.frame := .waiting, link.taken := some .clearModel }

/-- For ArbiterChoosesTheNextGrant: a free store, a grant in progress, an engine that is due, a CLEAR MODEL that comes
behind each grant, and one that waits. -/
theorem witness_ArbiterChoosesTheNextGrant :
    (¬((playing .running [0x03000000000003EC]).sequencer.bufferA.state = .active ∧
        (playing .running [0x03000000000003EC]).sequencer.bufferB.state = .active) ∧
      entryTime 0x03000000000003EC = 1004 ∧ (playing .running [0x03000000000003EC]).clock.time = 1020) ∧
    ((live .running).arbiter.grant = .none ∧ (live .running).arbiter.clearPending = false) ∧
    (working .resolver (.merge 1 0) .guard).arbiter.grant = .resolver ∧
    ((playing .running [0x03000000000003EC]).arbiter.grant = .sequencer ∧
      (playing .running [0x03000000000003EC]).sequencer.head = some (.a, 0x03000000000003EC)) ∧
    (∀ g ∈ [Grant.resolver, .sequencer, .link], Taken .clearModel none (working g (.merge 1 0) .guard) ∧
      (working g (.merge 1 0) .guard).arbiter.grant = g) ∧
    (after (exec .mergeGuard (waitingClear .resolver))).map (fun t => (t.run.state, t.link.reply)) =
      some (.build, [0x01]) ∧
    ((waitingClear .sequencer).arbiter.clearPending = true ∧
      (waitingClear .sequencer).link.taken = some .clearModel ∧ (waitingClear .sequencer).arbiter.grant = .sequencer) ∧
    StoreInv (waitingClear .resolver) ∧ StoreInv (waitingClear .sequencer) := by
  refine ⟨by decide, by decide, rfl, by decide, ?_, by decide, by decide, storeInv_net, storeInv_net⟩
  intro g _
  exact ⟨⟨rfl, rfl⟩, rfl⟩

/-- The claim of the Sequencer stands from the timestamp on going FORWARD and up to it in REVERSE, not under BACKLOG,
the cue stop or in PAUSED (R111). -/
theorem test_sequencer_claim :
    (∀ d ∈ [Direction.forward, .reverse], ∀ t ∈ [1003, 1004, 1005],
      ({ playing .running [0x03000000000003EC] with clock.time := t, clock.direction := d } : State).sequencerReady =
        match d with
        | .forward => decide (1004 ≤ t)
        | .reverse => decide (t ≤ 1004)) ∧
    ({ playing .running [0x03000000000003EC] with clock.backlog := true } : State).sequencerReady = false ∧
    ({ playing .ended [0x03000000000003EC] with sequencer.cueStop := true } : State).sequencerReady = false ∧
    (playing .ended [0x03000000000003EC]).sequencerReady = true ∧
    (playing .paused [0x03000000000003EC]).sequencerReady = false := by decide

/-- The two member lists of the small network. -/
theorem listInv_net : ListInv (live .running) := by
  have nodes : ∀ n r, net.node n = some r → n = 0 ∨ n = 1 ∨ n = 2 := by
    intro n r h
    by_contra hn
    simp only [not_or] at hn
    simp [net, Store.node, Tab.get, Ne.symm hn.1, Ne.symm hn.2.1, Ne.symm hn.2.2] at h
  refine ⟨?_, ?_, ?_⟩
  · intro k b h
    have hk : k = 0 ∨ k = 1 := by
      by_contra hn
      simp only [not_or] at hn
      simp [live, net, Store.island, Store.islandRec, Tab.get, IslandRec.absent, Ne.symm hn.1, Ne.symm hn.2] at h
    have lists : ∀ (k : Nat) (b : Island) (l : List Nat), l.length ≤ 2 → (∀ n, n ∈ l → n < 3) →
        (∀ n < 3, n ∈ l ↔ ((net.node n).bind (·.island)) = some k) →
        (l.Nodup ∧ l.length = b.memberCount ∧ l.head? = some b.first ∧ l.getLast? = some b.last) →
        (∀ i < 2, ∀ n, l[i]? = some n → (net.node n).map (·.prev) = some (if i = 0 then none else l[i - 1]?) ∧
          (net.node n).map (·.next) = some l[i + 1]?) →
        b.sourceCount = (l.filter fun n => decide ((net.node n).bind (·.online) = some true)).length →
        b.loadCount = (l.filter fun n => decide ((net.node n).map (·.kind) = some .load)).length →
        net.IsMemberList k b l := by
      intro k b l hlen hlt hmem hl hlink hs hd
      refine ⟨hl.1, hl.2.1, hl.2.2.1, hl.2.2.2, ?_, ?_, hs, hd⟩
      · intro n
        constructor
        · intro hn
          have := (hmem n (hlt n hn)).1 hn
          simpa [Option.bind_eq_some_iff] using this
        · rintro ⟨r, hr, hi⟩
          refine (hmem n ?_).2 (by simp [hr, hi])
          rcases nodes n r hr with rfl | rfl | rfl <;> decide
      · intro i n r hi hr
        have hi2 : i < 2 := by
          have := (List.getElem?_eq_some_iff.1 hi).1
          omega
        have := hlink i hi2 n hi
        simp only [hr, Option.map_some, Option.some.injEq] at this
        exact this
    rcases hk with rfl | rfl
    · refine ⟨[0, 1], lists 0 b _ (by decide) (by decide) (by decide) ?_ ?_ ?_ ?_⟩
      all_goals (obtain rfl := Option.some.inj h; decide)
    · refine ⟨[2], lists 1 b _ (by decide) (by decide) (by decide) ?_ ?_ ?_ ?_⟩
      all_goals (obtain rfl := Option.some.inj h; decide)
  · intro n r h
    rcases nodes n r h with rfl | rfl | rfl <;>
      (obtain rfl := Option.some.inj h; refine ⟨?_, ?_, ?_, ?_, ?_⟩ <;> decide)
  · intro h
    simp [live] at h

/-- The device counts of the small network: one live island, and one DEAD island of one member, a LOAD (R42). -/
theorem test_tally : net.canonical = true ∧ net.tally = { live := 1, deadNodes := 1, deadLoads := 1 } := by decide

/-- For the StepsKeep… statements: a step from a state that meets every invariant. -/
theorem witness_steps_keep_invariants :
    ClockInv State.reset ∧ ArbiterInv State.reset ∧ WatchInv State.reset ∧ QueueInv State.reset ∧
    FeedInv State.reset ∧ CountsInv State.reset ∧ BufferInv State.reset ∧ ListInv State.reset ∧
    step { State.reset with pending := [.pacingTick] } = .next State.reset := by
  refine ⟨?_, ?_, ?_, ?_, ?_, ?_, ?_, ?_, rfl⟩
  · unfold ClockInv; decide
  · unfold ArbiterInv; decide
  · unfold WatchInv; decide
  · unfold QueueInv; decide
  · unfold FeedInv StoreInv; decide
  · unfold CountsInv StoreInv; decide
  · unfold BufferInv FrameInv RestInv BufferGood; decide
  · refine ⟨?_, ?_, ?_⟩
    · intro k b h; simp [State.reset, State.afterReset, Store.island, Store.islandRec, Tab.get, IslandRec.absent] at h
    · intro n r h; simp [State.reset, State.afterReset, Store.node, Tab.get] at h
    · intro _
      refine ⟨?_, ?_⟩
      · intro k; simp [State.reset, State.afterReset, Store.island, Store.islandRec, Tab.get, IslandRec.absent]
      · intro n r h; simp [State.reset, State.afterReset, Store.node, Tab.get] at h

end Sys2Proof.Tests
end

section
/-! SUPPORT. What each operation of the Table Store makes of every record: one law per operation, read by id. -/

namespace Sys2Proof.Machine

variable {α : Type}

/-! ### Reads of the sparse tables -/

theorem Tab.get_modify (t : Tab α) (k m : Nat) (f : α → α) :
    Tab.get (Tab.modify t k f) m = if m = k then (Tab.get t k).map f else Tab.get t m := by
  unfold Tab.modify
  cases hk : Tab.get t k with
  | none => split <;> simp_all
  | some v =>
    by_cases hm : m = k
    · subst hm; simp
    · simp [hm, Tab.get_put_other _ _ _ _ hm]

theorem Tab.get_mapRecords (f : Nat → α → α) (t : Tab α) (k : Nat) :
    Tab.get (Tab.mapRecords f t) k = (Tab.get t k).map (f k) := by
  induction t with
  | nil => rfl
  | cons p t ih =>
    obtain ⟨i, v⟩ := p
    simp only [Tab.mapRecords, List.map_cons, Tab.get] at ih ⊢
    split
    · rename_i h; subst h; rfl
    · exact ih

theorem Tab.get_del_other (t : Tab α) {k m : Nat} (h : m ≠ k) : Tab.get (Tab.del t k) m = Tab.get t m := by
  induction t with
  | nil => rfl
  | cons p t ih =>
    obtain ⟨i, v⟩ := p
    simp only [Tab.del]
    split
    · rename_i hik; subst hik; simp [Tab.get, h.symm]
    · simp [Tab.get, ih]

/-- An id below every listed id is not listed. -/
theorem Tab.get_eq_none {t : Tab α} {k : Nat} (h : ∀ p ∈ t, p.1 ≠ k) : Tab.get t k = none := by
  cases hg : Tab.get t k with
  | none => rfl
  | some v => exact absurd rfl (h _ (Tab.mem_of_get hg))

theorem Tab.get_del_same {t : Tab α} (hr : Tab.Rising t = true) (k : Nat) : Tab.get (Tab.del t k) k = none := by
  rw [Tab.rising_iff] at hr
  induction t with
  | nil => rfl
  | cons p t ih =>
    obtain ⟨i, v⟩ := p
    simp only [Tab.del]
    split
    · rename_i hik
      subst hik
      exact Tab.get_eq_none fun q hq => (Nat.ne_of_lt (List.rel_of_pairwise_cons hr hq)).symm
    · rename_i hik
      simpa [Tab.get, hik] using ih hr.of_cons

/-! ### The island table -/

theorem Store.islands_rising {st : Store} (h : st.canonical = true) : Tab.Rising st.islands = true :=
  ((Store.canonical_iff st).1 h).2.2.1

theorem Store.nodes_rising {st : Store} (h : st.canonical = true) : Tab.Rising st.nodes = true :=
  ((Store.canonical_iff st).1 h).1

theorem Store.switches_rising {st : Store} (h : st.canonical = true) : Tab.Rising st.switches = true :=
  ((Store.canonical_iff st).1 h).2.1

@[simp] theorem Store.setIslandRec_nodes (st : Store) (k : Nat) (r : IslandRec) :
    (st.setIslandRec k r).nodes = st.nodes := rfl
@[simp] theorem Store.setIslandRec_switches (st : Store) (k : Nat) (r : IslandRec) :
    (st.setIslandRec k r).switches = st.switches := rfl

theorem Store.setIslandRec_islandRec {st : Store} (h : st.canonical = true) (k j : Nat) (r : IslandRec) :
    (st.setIslandRec k r).islandRec j = if j = k then r else st.islandRec j := by
  unfold Store.setIslandRec Store.islandRec
  by_cases hr : r = .absent <;> by_cases hj : j = k
  · subst hj; simp [hr, Tab.get_del_same (Store.islands_rising h)]
  · simp [hr, hj, Tab.get_del_other _ hj]
  · subst hj; simp [hr]
  · simp [hr, hj, Tab.get_put_other _ _ _ _ hj]

@[simp] theorem Store.modifyIsland_nodes (st : Store) (k : Nat) (f : Island → Island) :
    (st.modifyIsland k f).nodes = st.nodes := by unfold Store.modifyIsland; split <;> rfl
@[simp] theorem Store.modifyIsland_switches (st : Store) (k : Nat) (f : Island → Island) :
    (st.modifyIsland k f).switches = st.switches := by unfold Store.modifyIsland; split <;> rfl

/-- Writing an island's fields keeps its generation, and every other record. -/
theorem Store.modifyIsland_islandRec {st : Store} (h : st.canonical = true) (k j : Nat) (f : Island → Island) :
    (st.modifyIsland k f).islandRec j =
      if j = k then { st.islandRec k with body := (st.island k).map f } else st.islandRec j := by
  unfold Store.modifyIsland
  cases hb : st.island k with
  | some b => simp [Store.setIslandRec_islandRec h]
  | none =>
    by_cases hj : j = k
    · subst hj
      cases hr : st.islandRec j
      simp_all [Store.island]
    · simp [hj]

theorem Store.modifyIsland_island {st : Store} (h : st.canonical = true) (k j : Nat) (f : Island → Island) :
    (st.modifyIsland k f).island j = if j = k then (st.island k).map f else st.island j := by
  unfold Store.island
  rw [Store.modifyIsland_islandRec h]
  split <;> rfl

theorem Store.modifyIsland_generation {st : Store} (h : st.canonical = true) (k j : Nat) (f : Island → Island) :
    ((st.modifyIsland k f).islandRec j).generation = (st.islandRec j).generation := by
  rw [Store.modifyIsland_islandRec h]
  split
  · rename_i hj; rw [hj]
  · rfl

theorem Store.createIsland_island {st : Store} (h : st.canonical = true) (k n since j : Nat) :
    (st.createIsland k n since).island j =
      if j = k then
        some { feed := .dead, memberCount := 0, sourceCount := 0, loadCount := 0, first := n, last := n,
               since := since }
      else st.island j := by
  unfold Store.island Store.createIsland
  rw [Store.setIslandRec_islandRec h]
  split <;> rfl

theorem Store.createIsland_generation {st : Store} (h : st.canonical = true) (k n since j : Nat) :
    ((st.createIsland k n since).islandRec j).generation = (st.islandRec j).generation := by
  unfold Store.createIsland
  rw [Store.setIslandRec_islandRec h]
  split
  · rename_i hj; rw [hj]
  · rfl

@[simp] theorem Store.createIsland_nodes (st : Store) (k n since : Nat) :
    (st.createIsland k n since).nodes = st.nodes := rfl
@[simp] theorem Store.createIsland_switches (st : Store) (k n since : Nat) :
    (st.createIsland k n since).switches = st.switches := rfl

@[simp] theorem Store.refreshFeed_nodes (st : Store) (k cause : Nat) :
    (st.refreshFeed k cause).nodes = st.nodes := by simp [Store.refreshFeed]
@[simp] theorem Store.refreshFeed_switches (st : Store) (k cause : Nat) :
    (st.refreshFeed k cause).switches = st.switches := by simp [Store.refreshFeed]

/-- The fields of an island when its state has been recomputed (R40). -/
def Island.refreshed (cause : Nat) (b : Island) : Island :=
  if b.feed = feedOf b.sourceCount then b else { b with feed := feedOf b.sourceCount, since := cause }

theorem Store.refreshFeed_island {st : Store} (h : st.canonical = true) (k cause j : Nat) :
    (st.refreshFeed k cause).island j =
      if j = k then (st.island k).map (Island.refreshed cause) else st.island j :=
  Store.modifyIsland_island h k j _

theorem Store.refreshFeed_generation {st : Store} (h : st.canonical = true) (k cause j : Nat) :
    ((st.refreshFeed k cause).islandRec j).generation = (st.islandRec j).generation :=
  Store.modifyIsland_generation h k j _

/-- Recomputing the state writes nothing but the state and its time. -/
theorem Island.refreshed_eq (cause : Nat) (b : Island) :
    b.refreshed cause = { b with feed := feedOf b.sourceCount, since := (b.refreshed cause).since } := by
  unfold Island.refreshed
  split
  · rename_i h; rw [← h]
  · rfl

theorem Store.retireIsland_islandRec {st : Store} (h : st.canonical = true) (k j : Nat) :
    (st.retireIsland k).islandRec j =
      if j = k then { generation := (st.islandRec k).generation + 1, body := none } else st.islandRec j :=
  Store.setIslandRec_islandRec h k j _

theorem Store.retireIsland_island {st : Store} (h : st.canonical = true) (k j : Nat) :
    (st.retireIsland k).island j = if j = k then none else st.island j := by
  unfold Store.island
  rw [Store.retireIsland_islandRec h]
  split <;> rfl

@[simp] theorem Store.retireIsland_nodes (st : Store) (k : Nat) : (st.retireIsland k).nodes = st.nodes := rfl
@[simp] theorem Store.retireIsland_switches (st : Store) (k : Nat) : (st.retireIsland k).switches = st.switches := rfl

@[simp] theorem Store.retireIfEmpty_nodes (st : Store) (k : Nat) : (st.retireIfEmpty k).nodes = st.nodes := by
  unfold Store.retireIfEmpty; repeat' split
  all_goals rfl
@[simp] theorem Store.retireIfEmpty_switches (st : Store) (k : Nat) :
    (st.retireIfEmpty k).switches = st.switches := by
  unfold Store.retireIfEmpty; repeat' split
  all_goals rfl

theorem Store.retireIfEmpty_island {st : Store} (h : st.canonical = true) (k j : Nat) :
    (st.retireIfEmpty k).island j =
      if j = k then (st.island k).filter fun b => decide (b.memberCount ≠ 0) else st.island j := by
  unfold Store.retireIfEmpty
  cases hb : st.island k with
  | none =>
    dsimp only
    split <;> simp_all
  | some b =>
    dsimp only
    by_cases h0 : b.memberCount = 0
    · rw [if_pos h0, Store.retireIsland_island h]
      simp [h0, Option.filter]
    · rw [if_neg h0]
      split <;> simp_all [Option.filter]

/-! ### The node table -/

@[simp] theorem Store.modifyNode_switches (st : Store) (n : Nat) (f : NodeRec → NodeRec) :
    (st.modifyNode n f).switches = st.switches := rfl
@[simp] theorem Store.modifyNode_islands (st : Store) (n : Nat) (f : NodeRec → NodeRec) :
    (st.modifyNode n f).islands = st.islands := rfl
@[simp] theorem Store.modifyNode_islandRec (st : Store) (n k : Nat) (f : NodeRec → NodeRec) :
    (st.modifyNode n f).islandRec k = st.islandRec k := rfl
@[simp] theorem Store.modifyNode_island (st : Store) (n k : Nat) (f : NodeRec → NodeRec) :
    (st.modifyNode n f).island k = st.island k := rfl

theorem Store.modifyNode_node (st : Store) (n m : Nat) (f : NodeRec → NodeRec) :
    (st.modifyNode n f).node m = (st.node m).map fun r => if m = n then f r else r := by
  rw [Store.node, Store.modifyNode, Tab.get_modify]
  split
  · rename_i h; rw [h]; rfl
  · simp [Store.node]

/-- Stores with the same node table read the same nodes. -/
theorem Store.node_congr {st u : Store} (h : st.nodes = u.nodes) (n : Nat) : st.node n = u.node n := by
  unfold Store.node; rw [h]

@[simp] theorem Store.modifyIsland_node (st : Store) (k n : Nat) (f : Island → Island) :
    (st.modifyIsland k f).node n = st.node n := Store.node_congr (by simp) n
@[simp] theorem Store.createIsland_node (st : Store) (k n since m : Nat) :
    (st.createIsland k n since).node m = st.node m := rfl
@[simp] theorem Store.refreshFeed_node (st : Store) (k cause n : Nat) :
    (st.refreshFeed k cause).node n = st.node n := Store.node_congr (by simp) n
@[simp] theorem Store.retireIsland_node (st : Store) (k n : Nat) : (st.retireIsland k).node n = st.node n := rfl
@[simp] theorem Store.retireIfEmpty_node (st : Store) (k n : Nat) :
    (st.retireIfEmpty k).node n = st.node n := Store.node_congr (by simp) n

/-! ### A node joins an island at the tail -/

/-- The record of node `m` when node `n` has joined island `k`, with the fields `b` before, at the tail (R39). -/
def NodeRec.afterAppend (k n : Nat) (b : Island) (m : Nat) (r : NodeRec) : NodeRec :=
  if m = n then
    { r with island := some k, prev := if b.memberCount = 0 then none else some b.last, next := none }
  else if b.memberCount ≠ 0 ∧ m = b.last then { r with next := some n } else r

/-- The fields of an island when node `n` with the record `r` has joined it (R39, R40). -/
def Island.afterAppend (n : Nat) (r : NodeRec) (b : Island) : Island :=
  { b with
    memberCount := b.memberCount + 1
    sourceCount := b.sourceCount + countOf r.isOnline
    loadCount := b.loadCount + countOf (decide (r.kind = .load))
    first := if b.memberCount = 0 then n else b.first
    last := n }

theorem Store.appendMember_node {st : Store} {k n : Nat} {r : NodeRec} {b : Island} (hn : st.node n = some r)
    (hk : st.island k = some b) (m : Nat) :
    (st.appendMember k n).node m = (st.node m).map (NodeRec.afterAppend k n b m) := by
  unfold Store.appendMember NodeRec.afterAppend
  by_cases h0 : b.memberCount = 0 <;> by_cases hm : m = n <;> by_cases hl : m = b.last <;>
    cases hr : st.node m <;> simp_all [Store.modifyNode_node]

theorem Store.appendMember_island {st : Store} (h : st.canonical = true) {k n : Nat} {r : NodeRec} {b : Island}
    (hn : st.node n = some r) (hk : st.island k = some b) (j : Nat) :
    (st.appendMember k n).island j = if j = k then some (b.afterAppend n r) else st.island j := by
  unfold Store.appendMember
  simp only [hn, hk]
  split <;> rename_i h0 <;>
    rw [Store.modifyIsland_island (by simp [Store.modifyNode_canonical, h])] <;>
    simp_all [Island.afterAppend]

theorem Store.appendMember_generation {st : Store} (h : st.canonical = true) (k n j : Nat) :
    ((st.appendMember k n).islandRec j).generation = (st.islandRec j).generation := by
  unfold Store.appendMember
  split
  · rename_i b _ _
    dsimp only
    by_cases h0 : b.memberCount = 0 <;>
      rw [Store.modifyIsland_generation (by simp [h0, Store.modifyNode_canonical, h])] <;> simp [h0]
  · rfl

@[simp] theorem Store.appendMember_switches (st : Store) (k n : Nat) :
    (st.appendMember k n).switches = st.switches := by
  unfold Store.appendMember
  dsimp only
  split
  · split <;> simp
  · rfl

/-! ### A node leaves its island -/

/-- The record of node `m` when node `n`, with the record `q`, has left its island (R39). -/
def NodeRec.afterUnlink (n : Nat) (q : NodeRec) (m : Nat) (r : NodeRec) : NodeRec :=
  if m = n then { r with island := none, prev := none, next := none }
  else
    { r with
      next := if q.prev = some m then q.next else r.next
      prev := if q.next = some m then q.prev else r.prev }

/-- The fields of an island when a node with the record `r` has left it (R39, R40). -/
def Island.afterUnlink (r : NodeRec) (b : Island) : Island :=
  { b with
    memberCount := b.memberCount - 1
    sourceCount := b.sourceCount - countOf r.isOnline
    loadCount := b.loadCount - countOf (decide (r.kind = .load))
    first := if r.prev.isNone then r.next.getD b.first else b.first
    last := if r.next.isNone then r.prev.getD b.last else b.last }

theorem Store.unlinkMember_node {st : Store} {n k : Nat} {q : NodeRec} (hn : st.node n = some q)
    (hq : q.island = some k) (m : Nat) :
    (st.unlinkMember n).node m = (st.node m).map (NodeRec.afterUnlink n q m) := by
  unfold Store.unlinkMember NodeRec.afterUnlink
  simp only [hn, hq]
  rw [Store.modifyIsland_node]
  rcases hr : st.node m with _ | ⟨kind, init, online, island, prev, next, inc⟩ <;> cases q.prev <;> cases q.next <;>
    simp only [Store.modifyNode_node, hr] <;> grind

theorem Store.unlinkMember_island {st : Store} (h : st.canonical = true) {n k : Nat} {q : NodeRec}
    (hn : st.node n = some q) (hq : q.island = some k) (j : Nat) :
    (st.unlinkMember n).island j = if j = k then (st.island k).map (Island.afterUnlink q) else st.island j := by
  unfold Store.unlinkMember
  simp only [hn, hq]
  cases hp : q.prev <;> cases hx : q.next <;>
    rw [Store.modifyIsland_island
      (by repeat' first | exact h | apply Store.modifyNode_canonical)] <;>
    unfold Island.afterUnlink <;> simp [hp, hx]

end Sys2Proof.Machine
end

section
/-! SUPPORT. The inductions over the labelling search, each made once: what one joining keeps, the whole labelling
keeps. Retirement of every island (R59), the island states (R40) and the tally of the device counts (R42). -/

namespace Sys2Proof.Machine

/-! ### The labelling as repeated joining -/

section Labelling

variable {P : Store → Prop} {k : Nat}

/-- A visit of the labelling only lets nodes of no island join island `k`. -/
theorem Store.labelVisit_keeps
    (hP : ∀ st m q, P st → st.node m = some q → q.island = none → P (st.appendMember k m)) (n : Nat)
    (sws queue : List Nat) {st : Store} (h : P st) : P (Store.labelVisit k n sws queue st).2 := by
  induction sws generalizing queue st with
  | nil => exact h
  | cons sw rest ih =>
    simp only [Store.labelVisit]
    split
    · split
      · split
        · rename_i q hq
          split
          · rename_i hi
            exact ih _ (hP _ _ q h hq (by simpa using hi))
          · exact ih _ h
        · exact ih _ h
      · exact ih _ h
    · exact ih _ h

/-- The search of one island only lets nodes of no island join it. -/
theorem Store.labelSearch_keeps
    (hP : ∀ st m q, P st → st.node m = some q → q.island = none → P (st.appendMember k m)) (fuel : Nat)
    (queue : List Nat) {st : Store} (h : P st) : P (Store.labelSearch k fuel queue st) := by
  induction fuel generalizing queue st with
  | zero => exact h
  | succ fuel ih =>
    cases queue with
    | nil => exact h
    | cons n queue =>
      simp only [Store.labelSearch]
      split
      · exact ih _ (Store.labelVisit_keeps hP n _ _ h)
      · exact ih _ h

end Labelling

/-- Island `k` labelled from its first node `n`: created, searched, and its state set (R12, R13). -/
def Store.labelIsland (now k n : Nat) (st : Store) : Store :=
  (Store.labelSearch k ((st.createIsland k n now).appendMember k n).nodes.length [n]
    ((st.createIsland k n now).appendMember k n)).refreshFeed k now

theorem Store.labelFrom_some {st : Store} {n : Nat} (h : st.firstUnlabelled = some n) (now fuel k : Nat) :
    Store.labelFrom now (fuel + 1) k st = Store.labelFrom now fuel (k + 1) (st.labelIsland now k n) := by
  simp only [Store.labelFrom, h]
  rfl

theorem Store.labelFrom_none {st : Store} (h : st.firstUnlabelled = none) (now fuel k : Nat) :
    Store.labelFrom now fuel k st = st := by
  cases fuel <;> simp [Store.labelFrom, h]

theorem Store.firstUnlabelled_some {st : Store} {n : Nat} (h : st.firstUnlabelled = some n) :
    ∃ r, (n, r) ∈ st.nodes ∧ r.island = none := by
  obtain ⟨⟨m, r⟩, hp, rfl⟩ := Option.map_eq_some_iff.1 h
  exact ⟨r, List.mem_of_find?_eq_some hp, by simpa using List.find?_some hp⟩

/-! ### The islands that an operation on one node leaves alone -/

theorem Store.appendMember_island_other {st : Store} (h : st.canonical = true) {k j : Nat} (n : Nat) (hj : j ≠ k) :
    (st.appendMember k n).island j = st.island j := by
  cases hn : st.node n with
  | none => simp [Store.appendMember, hn]
  | some r =>
    cases hk : st.island k with
    | none => simp [Store.appendMember, hn, hk]
    | some b => rw [Store.appendMember_island h hn hk, if_neg hj]

theorem Store.labelIsland_island_other {st : Store} (h : st.canonical = true) {now k n j : Nat}
    (hk : k < Config.islandCapacity) (hj : j ≠ k) : (st.labelIsland now k n).island j = st.island j := by
  have hc := Store.createIsland_canonical h n now hk
  have search := Store.labelSearch_keeps (P := fun u => u.canonical = true ∧ u.island j = st.island j) (k := k)
    (fun u m _ hu _ _ =>
      ⟨Store.appendMember_canonical hu.1 _ _, by rw [Store.appendMember_island_other hu.1 m hj, hu.2]⟩)
    ((st.createIsland k n now).appendMember k n).nodes.length [n]
    (st := (st.createIsland k n now).appendMember k n)
    ⟨Store.appendMember_canonical hc _ _, by
      rw [Store.appendMember_island_other hc n hj, Store.createIsland_island h, if_neg hj]⟩
  rw [Store.labelIsland, Store.refreshFeed_island search.1, if_neg hj, search.2]

theorem Store.labelIsland_canonical {st : Store} (h : st.canonical = true) (now : Nat) {k : Nat} (n : Nat)
    (hk : k < Config.islandCapacity) : (st.labelIsland now k n).canonical = true :=
  Store.refreshFeed_canonical (Store.labelSearch_canonical _ _ _
    (Store.appendMember_canonical (Store.createIsland_canonical h _ _ hk) _ _)) _ _

/-! ### Every island retires -/

theorem Store.retireEach_islandRec (l : Tab IslandRec) {st : Store} (h : st.canonical = true)
    (hl : (l.map (·.1)).Nodup) (hb : ∀ p ∈ l, p.1 < Config.islandCapacity) (k : Nat) :
    (l.foldl (fun st p => st.retireIsland p.1) st).islandRec k =
      if k ∈ l.map (·.1) then { generation := (st.islandRec k).generation + 1, body := none }
      else st.islandRec k := by
  induction l generalizing st with
  | nil => rfl
  | cons p l ih =>
    rw [List.map_cons, List.nodup_cons] at hl
    rw [List.foldl_cons, ih (Store.retireIsland_canonical h (hb p (List.mem_cons_self ..))) hl.2
      (fun q hq => hb q (List.mem_cons_of_mem _ hq)), Store.retireIsland_islandRec h]
    grind

/-- Each existing island retires, and the other records stand (R41, R59). -/
theorem Store.retireAll_islandRec {st : Store} (h : st.canonical = true) (k : Nat) :
    st.retireAll.islandRec k =
      if (st.island k).isSome then { generation := (st.islandRec k).generation + 1, body := none }
      else st.islandRec k := by
  have hr := Store.islands_rising h
  obtain ⟨-, -, -, -, -, hb⟩ := (Store.canonical_iff st).1 h
  have hnd : ((st.islands.filter fun p => p.2.body.isSome).map (·.1)).Nodup := by
    rw [List.Nodup, List.pairwise_map]
    exact ((Tab.rising_iff _).1 hr).filter _ |>.imp fun h => Nat.ne_of_lt h
  have hmem : k ∈ (st.islands.filter fun p => p.2.body.isSome).map (·.1) ↔ (st.island k).isSome = true := by
    unfold Store.island Store.islandRec
    constructor
    · intro hk
      obtain ⟨⟨i, r⟩, hp, rfl⟩ := List.mem_map.1 hk
      obtain ⟨hp, hs⟩ := List.mem_filter.1 hp
      simpa [Tab.get_of_mem hr hp] using hs
    · intro hk
      cases hg : Tab.get st.islands k with
      | none => simp [hg, IslandRec.absent] at hk
      | some r =>
        refine List.mem_map.2 ⟨(k, r), List.mem_filter.2 ⟨Tab.mem_of_get hg, ?_⟩, rfl⟩
        simpa [hg] using hk
  rw [Store.retireAll, Store.retireEach_islandRec _ h hnd fun p hp => (hb p (List.mem_of_mem_filter hp)).1]
  simp only [hmem]

theorem Store.retireAll_island {st : Store} (h : st.canonical = true) (k : Nat) : st.retireAll.island k = none := by
  rw [Store.island, Store.retireAll_islandRec h]
  split
  · rfl
  · rename_i hk
    simpa [Store.island] using hk

theorem Store.retireEach_tables (l : Tab IslandRec) (st : Store) :
    (l.foldl (fun st p => st.retireIsland p.1) st).nodes = st.nodes ∧
    (l.foldl (fun st p => st.retireIsland p.1) st).switches = st.switches := by
  induction l generalizing st with
  | nil => exact ⟨rfl, rfl⟩
  | cons p l ih => exact ih (st.retireIsland p.1)

@[simp] theorem Store.retireAll_nodes (st : Store) : st.retireAll.nodes = st.nodes := (Store.retireEach_tables _ st).1

@[simp] theorem Store.cleared_island {st : Store} (h : st.canonical = true) (k : Nat) : st.cleared.island k = none :=
  Store.retireAll_island h k

theorem Store.cleared_canonical {st : Store} (h : st.canonical = true) : st.cleared.canonical = true := by
  obtain ⟨-, -, h3, -, -, h6⟩ := (Store.canonical_iff _).1 (Store.retireAll_canonical h)
  exact (Store.canonical_iff _).2 ⟨rfl, rfl, h3, by simp [Store.cleared], by simp [Store.cleared], h6⟩

/-- The lowest free id names no existing island. -/
theorem Store.lowestFree_free {st : Store} {k : Nat} (h : st.lowestFree = some k) : st.island k = none := by
  have search : ∀ fuel id, st.freeFrom fuel id = some k → st.island k = none := by
    intro fuel
    induction fuel with
    | zero => intro id h; simp [Store.freeFrom] at h
    | succ fuel ih =>
      intro id h
      simp only [Store.freeFrom] at h
      split at h
      · rename_i hfree
        cases h
        simpa using hfree
      · exact ih _ h
  exact search _ _ h

/-! ### The states of the islands (R40) -/

/-- Island `k`, where it exists, is LIVE exactly when its online-source count is at least 1. -/
def Store.FedAt (st : Store) (k : Nat) : Prop :=
  ∀ b, st.island k = some b → (b.feed = .live ↔ 1 ≤ b.sourceCount)

theorem Store.FedAt.congr {st u : Store} {k : Nat} (h : st.FedAt k) (he : u.island k = st.island k) : u.FedAt k :=
  fun b hb => h b (he ▸ hb)

theorem feedOf_live (n : Nat) : feedOf n = .live ↔ 1 ≤ n := by
  unfold feedOf; split <;> simp <;> omega

/-- Recomputing an island's state makes it agree with its count, and leaves the other islands. -/
theorem Store.refreshFeed_fedAt {st : Store} (h : st.canonical = true) (k cause : Nat) {j : Nat}
    (hj : j ≠ k → st.FedAt j) : (st.refreshFeed k cause).FedAt j := by
  intro b hb
  rw [Store.refreshFeed_island h] at hb
  split at hb
  · obtain ⟨c, -, rfl⟩ := Option.map_eq_some_iff.1 hb
    rw [Island.refreshed_eq]
    exact feedOf_live _
  · rename_i hjk
    exact hj hjk b hb

theorem Store.retireIfEmpty_fedAt {st : Store} (h : st.canonical = true) (k : Nat) {j : Nat} (hj : st.FedAt j) :
    (st.retireIfEmpty k).FedAt j := by
  intro b hb
  rw [Store.retireIfEmpty_island h] at hb
  split at hb
  · rename_i hjk
    subst hjk
    exact hj b (Option.filter_eq_some_iff.1 hb).1
  · exact hj b hb

theorem Store.moveNode_fedAt {st : Store} (h : st.canonical = true) (n dst cause : Nat) (hf : ∀ j, st.FedAt j)
    (j : Nat) :
    (st.moveNode n dst cause).FedAt j := by
  unfold Store.moveNode
  split
  · rename_i src b hs hb
    obtain ⟨q, hn, hq⟩ := Option.bind_eq_some_iff.1 hs
    have h1 := Store.unlinkMember_canonical h n
    have h2 := Store.appendMember_canonical h1 dst n
    have h3 := Store.refreshFeed_canonical h2 src cause
    refine Store.retireIfEmpty_fedAt (Store.refreshFeed_canonical h3 dst cause) src
      (Store.refreshFeed_fedAt h3 dst cause fun hd => Store.refreshFeed_fedAt h2 src cause fun hsrc => ?_)
    refine (hf j).congr ?_
    rw [Store.appendMember_island_other h1 n hd, Store.unlinkMember_island h hn hq, if_neg hsrc]
  · exact Store.retireIfEmpty_fedAt h dst (hf j)

theorem Store.createIsland_fedAt {st : Store} (h : st.canonical = true) (k n since : Nat) {j : Nat} (hf : st.FedAt j) :
    (st.createIsland k n since).FedAt j := by
  intro b hb
  rw [Store.createIsland_island h] at hb
  split at hb
  · cases hb; simp
  · exact hf b hb

theorem Store.setOnline_fedAt {st : Store} (h : st.canonical = true) (n k : Nat) (v : Bool) (cause : Nat) {j : Nat}
    (hf : st.FedAt j) : (st.setOnline n k v cause).FedAt j := by
  have h1 := Store.modifyNode_canonical h n fun r => { r with online := some v }
  refine Store.refreshFeed_fedAt (Store.modifyIsland_canonical h1 _ _) k cause fun hj => hf.congr ?_
  rw [Store.modifyIsland_island h1, if_neg hj]
  rfl

theorem Store.labelIsland_fedAt {st : Store} (h : st.canonical = true) (now : Nat) {k : Nat} (n : Nat)
    (hk : k < Config.islandCapacity) {j : Nat} (hf : st.FedAt j) : (st.labelIsland now k n).FedAt j := by
  by_cases hj : j = k
  · exact Store.refreshFeed_fedAt (Store.labelSearch_canonical _ _ _
      (Store.appendMember_canonical (Store.createIsland_canonical h _ _ hk) _ _)) k now fun hne => absurd hj hne
  · exact hf.congr (Store.labelIsland_island_other h hk hj)

/-- There are at most as many nodes as island ids, so the labelling never runs out of ids. -/
theorem Store.nodes_length_le {st : Store} (h : st.canonical = true) : st.nodes.length ≤ Config.islandCapacity := by
  obtain ⟨hr, -, -, hb, -⟩ := (Store.canonical_iff st).1 h
  exact Tab.length_le hr hb

theorem Store.labelFrom_fedAt (now fuel : Nat) : ∀ (k : Nat) {st : Store}, st.canonical = true →
    k + fuel ≤ Config.islandCapacity → ∀ j, st.FedAt j → (st.labelFrom now fuel k).FedAt j := by
  induction fuel with
  | zero => intro k st _ _ j hf; exact hf
  | succ fuel ih =>
    intro k st h hk j hf
    cases hn : st.firstUnlabelled with
    | none => rwa [Store.labelFrom_none hn]
    | some n =>
      have hk' : k < Config.islandCapacity := by omega
      rw [Store.labelFrom_some hn]
      exact ih (k + 1) (Store.labelIsland_canonical h now n hk') (by omega) j (Store.labelIsland_fedAt h now n hk' hf)

theorem Store.labelAll_fedAt {st : Store} (h : st.canonical = true) (now : Nat) {j : Nat} (hf : st.FedAt j) :
    (st.labelAll now).FedAt j :=
  Store.labelFrom_fedAt now _ 0 h (by simpa using Store.nodes_length_le h) j hf

/-! ### The tally (R13, R42) -/

/-- The device counts of a list of existing islands. -/
def tallyOf (l : List Island) : Counts :=
  { live := (l.filter fun b => decide (b.feed = .live)).length
    deadNodes := ((l.filter fun b => decide (b.feed = .dead)).map (·.memberCount)).sum
    deadLoads := ((l.filter fun b => decide (b.feed = .dead)).map (·.loadCount)).sum }

/-- The tally counts the existing islands of the table. -/
theorem Store.tally_eq (st : Store) : st.tally = tallyOf (st.islands.filterMap (·.2.body)) := by
  unfold Store.tally
  generalize st.islands = t
  induction t using List.reverseRecOn with
  | nil => rfl
  | append_singleton t p ih =>
    rw [List.foldl_append, ih, List.filterMap_append]
    obtain ⟨i, g, _ | b⟩ := p
    · simp
    · cases hf : b.feed <;> simp [tallyOf, hf]

/-- The listed records of a rising table, read by id. -/
theorem Tab.filterMap_range' {α : Type} (count : Nat) : ∀ (first : Nat) (t : Tab α), Tab.Rising t = true →
    (∀ p ∈ t, first ≤ p.1 ∧ p.1 < first + count) →
    (List.range' first count).filterMap (Tab.get t) = t.map (·.2) := by
  induction count with
  | zero =>
    intro first t _ hb
    cases t with
    | nil => rfl
    | cons p t => have := hb p (List.mem_cons_self ..); omega
  | succ count ih =>
    intro first t hr hb
    rw [List.range'_succ, List.filterMap_cons]
    have above : ∀ u : Tab α, Tab.Rising u = true → (∀ p ∈ u, first < p.1 ∧ p.1 < first + (count + 1)) →
        (List.range' (first + 1) count).filterMap (Tab.get u) = u.map (·.2) :=
      fun u hu hbu => ih (first + 1) u hu fun p hp => by have := hbu p hp; omega
    by_cases hf : ∃ v, (first, v) ∈ t
    · obtain ⟨v, hv⟩ := hf
      rw [Tab.rising_iff] at hr
      cases t with
      | nil => simp at hv
      | cons p t =>
        obtain ⟨i, w⟩ := p
        have hi : i = first ∧ w = v := by
          rcases List.mem_cons.1 hv with hv | hv
          · cases hv; exact ⟨rfl, rfl⟩
          · have := List.rel_of_pairwise_cons hr hv
            have := (hb _ (List.mem_cons_self ..)).1
            simp at *; omega
        obtain ⟨rfl, rfl⟩ := hi
        have hbt : ∀ p ∈ t, i < p.1 ∧ p.1 < i + (count + 1) := fun q hq =>
          ⟨List.rel_of_pairwise_cons hr hq, (hb q (List.mem_cons_of_mem _ hq)).2⟩
        have hget : ∀ k ∈ List.range' (i + 1) count, Tab.get ((i, w) :: t) k = Tab.get t k := by
          intro k hk
          have := List.mem_range'_1.1 hk
          simp [Tab.get, show i ≠ k by omega]
        rw [List.filterMap_congr hget, above t ((Tab.rising_iff t).2 hr.of_cons) hbt]
        simp [Tab.get]
    · have hlt : ∀ p ∈ t, first < p.1 ∧ p.1 < first + (count + 1) := fun p hp =>
        ⟨Nat.lt_of_le_of_ne (hb p hp).1 fun he => hf ⟨p.2, he ▸ hp⟩, (hb p hp).2⟩
      rw [Tab.get_eq_none fun p hp => (Nat.ne_of_lt (hlt p hp).1).symm]
      exact above t hr hlt

/-- The existing islands of the table are those that the ids in range read. -/
theorem Store.existing_eq {st : Store} (h : st.canonical = true) :
    (List.range Config.islandCapacity).filterMap (fun k => st.island k) = st.islands.filterMap (·.2.body) := by
  obtain ⟨-, -, hr, -, -, hb⟩ := (Store.canonical_iff st).1 h
  have hget := Tab.filterMap_range' Config.islandCapacity 0 st.islands hr fun p hp => by
    have := (hb p hp).1; omega
  have hbody : (fun k => st.island k) = fun k => (Tab.get st.islands k).bind (·.body) := by
    funext k
    unfold Store.island Store.islandRec
    cases Tab.get st.islands k <;> rfl
  rw [hbody, List.range_eq_range', ← List.filterMap_filterMap, hget, List.filterMap_map]
  rfl

/-- With no island the counts are 0. -/
theorem Store.tally_of_no_island {st : Store} (h : st.canonical = true) (hk : ∀ k, st.island k = none) :
    st.tally = .zero := by
  rw [Store.tally_eq, ← Store.existing_eq h]
  simp only [hk]
  rw [List.filterMap_eq_nil_iff.2 (by simp)]
  rfl

end Sys2Proof.Machine
end

section
/-! SUPPORT. What a step can do to the tables, the device counts, the run and the job in progress, said once: every
step is a chain of acts of the link and the engines around at most one claim of the resolver. -/

namespace Sys2Proof.Machine

/-! ### The acts -/

/-- How an act that leaves the islands as they are may move the run (R125, R9, R137). -/
def RunMoves (a b : RunControl) : Prop :=
  b.state = a.state ∧ b.restoreStage = a.restoreStage ∨
  a.state.hasModel = true ∧ b.state.hasModel = true ∨
  a.state = .build ∧ b.state = .compiling ∨
  b.state = .restoring ∧ b.restoreStage ≠ some .labelling

theorem RunMoves.refl (a : RunControl) : RunMoves a a := .inl ⟨rfl, rfl⟩

/-- No job is in progress while there is no compiled model, outside READY to ENDED (R73). -/
def JobFree (s : State) : Prop := s.run.state.hasModel = false → s.resolver.current = none

/-- The part of the state that the acts below speak of: the tables, the device counts and the run. -/
structure Net where
  store : Store
  counts : Counts
  run : RunControl

/-- The tables, the device counts and the run of a state. -/
def State.net (s : State) : Net := { store := s.store, counts := s.resolver.counts, run := s.run }

@[simp] theorem State.net_store (s : State) : s.net.store = s.store := rfl
@[simp] theorem State.net_counts (s : State) : s.net.counts = s.resolver.counts := rfl
@[simp] theorem State.net_run (s : State) : s.net.run = s.run := rfl

/-- The tables when the second stage of restore has taken the islands and the links away (R59, R139). -/
def Store.unlabelled (st : Store) : Store :=
  { st.retireAll with
    nodes := Tab.mapRecords (fun _ r => r.unlinked.started) st.retireAll.nodes
    switches := Tab.mapRecords (fun _ r => r.restored) st.retireAll.switches }

/-- What an act other than a claim of the resolver makes of the tables, the device counts and the run. -/
inductive Act (a b : Net) : Prop
  /-- Nothing, but the run may move. -/
  | stay (store : b.store = a.store) (counts : b.counts = a.counts) (run : RunMoves a.run b.run)
  /-- Switch records are written (R6, R22). -/
  | switches (l : Tab SwitchRec) (store : b.store = { a.store with switches := l })
      (canonical : a.store.canonical = true → b.store.canonical = true) (counts : b.counts = a.counts)
      (run : b.run = a.run)
  /-- A node is defined (R4, R5). -/
  | define (n : Nat) (kind : NodeKind) (online : Option Bool) (lt : n < Config.nodeCapacity)
      (source : online.isSome = true ↔ kind = .source) (build : a.run.state = .build)
      (store : b.store = { a.store with nodes := Tab.put a.store.nodes n (definedNode kind online) })
      (counts : b.counts = a.counts) (run : b.run = a.run)
  /-- A stage of compile prepares the records (R10, R11). -/
  | prepare (f : Nat → NodeRec → NodeRec) (g : Nat → SwitchRec → SwitchRec)
      (place : ∀ n r, (f n r).island = r.island ∧ (f n r).prev = r.prev ∧ (f n r).next = r.next)
      (nature : ∀ n r, (f n r).kind = r.kind ∧ (f n r).initialOnline = r.initialOnline ∧
        ((f n r).online = r.online ∨ (f n r).online = r.initialOnline))
      (compiling : a.run.state = .compiling)
      (store : b.store = { a.store with nodes := Tab.mapRecords f a.store.nodes
                                        switches := Tab.mapRecords g a.store.switches })
      (counts : b.counts = a.counts) (run : RunMoves a.run b.run)
  /-- The islands are labelled at the end of compile or restore (R12, R59). -/
  | label (now : Nat) (due : a.run.state = .compiling ∨ a.run.state = .restoring ∧ a.run.restoreStage = some .labelling)
      (store : b.store = a.store.labelAll now) (counts : b.counts = b.store.tally) (ready : b.run.state = .ready)
  /-- The second stage of restore (R59, R139). -/
  | unlabel (due : a.run.state = .restoring) (store : b.store = a.store.unlabelled)
      (restoring : b.run.state = .restoring)
  /-- CLEAR MODEL (R17). -/
  | clear (store : b.store = a.store.cleared) (counts : b.counts = .zero) (build : b.run.state = .build)
  /-- Hardware reset (R19). -/
  | reset (store : b.store = State.reset.store) (counts : b.counts = .zero) (build : b.run.state = .build)

/-- What the acts around a claim of the resolver do: as every act, and they keep a model that is not compiled free of
jobs. -/
structure LinkAct (s t : State) : Prop where
  act : Act s.net t.net
  free : JobFree s → JobFree t

/-- A chain of such acts. -/
abbrev LinkActs : State → State → Prop := Relation.ReflTransGen LinkAct

/-- What the unit of work in the middle of a step makes of the tables: an act, or a claim of the job in progress (R50,
R55, R57). -/
inductive UnitAct (s t : State) : Prop
  | act (act : Act s.net t.net)
  /-- A RELABEL claim moves a node (R50, R55). -/
  | move (n dst cause : Nat) (job : s.resolver.current.isSome = true)
      (store : t.store = s.store.moveNode n dst cause) (counts : t.resolver.counts = t.store.tally)
      (run : t.run = s.run)
  /-- The first RELABEL claim of a SPLIT creates the new island for its node (R55). -/
  | found (n k cause : Nat) (job : s.resolver.current.isSome = true) (free : s.store.lowestFree = some k)
      (store : t.store = (s.store.createIsland k n cause).moveNode n k cause)
      (counts : t.resolver.counts = t.store.tally) (run : t.run = s.run)
  /-- The claim of a SOURCE job (R57). -/
  | online (n k cause : Nat) (r : NodeRec) (v : Bool) (job : s.resolver.current.isSome = true)
      (node : s.store.node n = some r) (kind : r.kind = .source) (value : r.online ≠ some v)
      (island : r.island = some k)
      (store : t.store = s.store.setOnline n k v cause) (counts : t.resolver.counts = t.store.tally)
      (run : t.run = s.run)

/-! ### Forms of an act -/

/-- The tables, the counts, the job and the run stand. -/
structure Unmoved (s t : State) : Prop where
  store : t.store = s.store
  counts : t.resolver.counts = s.resolver.counts
  current : t.resolver.current = s.resolver.current
  run : t.run = s.run

theorem Unmoved.refl (s : State) : Unmoved s s := ⟨rfl, rfl, rfl, rfl⟩

theorem Unmoved.net {s t : State} (h : Unmoved s t) : t.net = s.net := by
  unfold State.net; rw [h.store, h.counts, h.run]

/-- What moves nothing keeps a model that is not compiled free of jobs, both ways. -/
theorem Unmoved.jobFree {s t : State} (h : Unmoved s t) : JobFree t ↔ JobFree s := by
  unfold JobFree; rw [h.run, h.current]

theorem Unmoved.linkAct {s t : State} (h : Unmoved s t) : LinkAct s t where
  act := .stay h.store h.counts (by rw [State.net_run, State.net_run, h.run]; exact .refl _)
  free := h.jobFree.2

/-- An act before or after which nothing moves is that act. -/
theorem LinkAct.trans_unmoved {s t u : State} (h : LinkAct s t) (k : Unmoved t u) : LinkAct s u where
  act := k.net ▸ h.act
  free := k.jobFree.2 ∘ h.free

theorem Unmoved.trans_linkAct {s t u : State} (k : Unmoved s t) (h : LinkAct t u) : LinkAct s u where
  act := k.net ▸ h.act
  free := h.free ∘ k.jobFree.2

/-- The answer of a command moves nothing. -/
theorem answer_unmoved (st : Status) (data : List Byte) (s : State) : Unmoved s (answer st data s) :=
  ⟨rfl, rfl, rfl, rfl⟩

theorem LinkAct.answer {s t : State} (h : LinkAct s t) (st : Status) (data : List Byte) :
    LinkAct s (answer st data t) := h.trans_unmoved (answer_unmoved st data t)

/-- The run of a compiled model goes on within READY to ENDED. -/
theorem LinkAct.within {s t : State} (store : t.store = s.store) (resolver : t.resolver = s.resolver)
    (hs : s.run.state.hasModel = true) (ht : t.run.state.hasModel = true) : LinkAct s t where
  act := .stay store (congrArg (·.counts) resolver) (.inr (.inl ⟨hs, ht⟩))
  free := fun _ h => absurd (ht.symm.trans h) (by decide)

/-! ### The shared operations -/

@[simp] theorem takeJob_counts (s : State) : (takeJob s).resolver.counts = s.resolver.counts := by
  unfold takeJob; split <;> rfl

@[simp] theorem appendJob_counts (j : Job) (s : State) : (appendJob j s).resolver.counts = s.resolver.counts := by
  unfold appendJob; dsimp only; split <;> simp

@[simp] theorem endJob_counts (j : JobInProgress) (s : State) : (endJob j s).resolver.counts = s.resolver.counts := by
  unfold endJob; dsimp only; repeat' split
  all_goals simp

@[simp] theorem abandonJobs_counts (s : State) : (abandonJobs s).resolver.counts = s.resolver.counts := by
  unfold abandonJobs; dsimp only; split <;> rfl

@[simp] theorem abandonJobs_current (s : State) : (abandonJobs s).resolver.current = none := by
  unfold abandonJobs; dsimp only; split <;> rfl

@[simp] theorem commitSwitch_counts (sw : Nat) (old new : SwitchRec) (cause : Nat) (s : State) :
    (commitSwitch sw old new cause s).resolver.counts = s.resolver.counts := by
  unfold commitSwitch; dsimp only; split <;> simp

theorem commitSwitch_store (sw : Nat) (old new : SwitchRec) (cause : Nat) (s : State) :
    (commitSwitch sw old new cause s).store = { s.store with switches := Tab.put s.store.switches sw new } := by
  unfold commitSwitch; dsimp only; split <;> simp

/-- CLEAR MODEL empties the tables and leaves no job. -/
theorem clearModel_act (s : State) : LinkAct s (clearModel s) :=
  ⟨.clear (by simp [clearModel]) (by simp [clearModel]) (by simp [clearModel]), fun _ _ => by simp [clearModel]⟩

theorem answerClear_unmoved (s : State) : Unmoved s (answerClear s) := by
  constructor <;> simp

/-- Arbitration moves nothing, or a CLEAR MODEL acts in it (R79). -/
theorem arbitrate_act (s : State) : LinkAct s (arbitrate s) := by
  have claims : Unmoved s (refreshClaims s) := ⟨rfl, rfl, rfl, rfl⟩
  unfold arbitrate
  dsimp only
  split
  · split
    · exact ((claims.trans_linkAct (clearModel_act _)).trans_unmoved (answerClear_unmoved _)).trans_unmoved
        ⟨rfl, rfl, rfl, rfl⟩
    · exact claims.linkAct.trans_unmoved ⟨rfl, rfl, rfl, rfl⟩
  · exact claims.linkAct

theorem endUnit_act (s : State) : LinkAct s (endUnit s) :=
  Unmoved.trans_linkAct (t := releaseGrant s) ⟨rfl, rfl, rfl, rfl⟩ (arbitrate_act _)

/-! ### The commands -/

/-- A switch record that is written in range is an act on the switches. -/
theorem commitSwitch_act (sw : Nat) (old new : SwitchRec) (cause : Nat) (s : State) (hsw : sw < Config.switchCapacity) :
    Act s.net (commitSwitch sw old new cause s).net :=
  .switches _ (commitSwitch_store ..)
    (fun h => by simpa [commitSwitch_store] using Store.putSwitch_canonical h new hsw) (by simp) (by simp)

theorem Act.switches_linkAct {s t : State} (h : Act s.net t.net) (hr : t.run = s.run)
    (hs : s.run.state.hasModel = true) : LinkAct s t :=
  ⟨h, fun _ ht => absurd (hs.symm.trans (hr ▸ ht)) (by decide)⟩

theorem changeSwitch_act {sw : Nat} (old new : SwitchRec) {s : State} (hsw : sw < Config.switchCapacity)
    (hs : s.run.state.hasModel = true) : LinkAct s (changeSwitch sw old new s) := by
  unfold changeSwitch
  split
  · exact (answer_unmoved ..).linkAct
  · exact (Act.switches_linkAct (commitSwitch_act sw old new _ s hsw) (by simp) hs).answer _ _

/-- A switch that is in the table is in range, where the tables are canonical; commands test it. -/
theorem applyPolicy_store (p : Policy) (s : State) :
    ∃ l, (applyPolicy p s).store = { s.store with switches := l } ∧
      (s.store.canonical = true → (applyPolicy p s).store.canonical = true) ∧
      (applyPolicy p s).resolver.counts = s.resolver.counts := by
  have fold : ∀ (l : Tab SwitchRec) (u : State),
      ∃ sws, (l.foldl (fun s q => commitSwitch q.1 q.2 (q.2.underPolicy p) s.clock.time s) u).store =
          { u.store with switches := sws } ∧
        ((∀ q ∈ l, q.1 < Config.switchCapacity) → u.store.canonical = true →
          (l.foldl (fun s q => commitSwitch q.1 q.2 (q.2.underPolicy p) s.clock.time s) u).store.canonical = true) ∧
        (l.foldl (fun s q => commitSwitch q.1 q.2 (q.2.underPolicy p) s.clock.time s) u).resolver.counts =
          u.resolver.counts := by
    intro l
    induction l with
    | nil => intro u; exact ⟨u.store.switches, rfl, fun _ h => h, rfl⟩
    | cons q l ih =>
      intro u
      obtain ⟨sws, hst, hcan, hcounts⟩ := ih (commitSwitch q.1 q.2 (q.2.underPolicy p) u.clock.time u)
      refine ⟨sws, ?_, fun hl hu => ?_, ?_⟩
      · rw [List.foldl_cons, hst, commitSwitch_store]
      · refine hcan (fun r hr => hl r (List.mem_cons_of_mem _ hr)) ?_
        rw [commitSwitch_store]
        exact Store.putSwitch_canonical hu _ (hl q (List.mem_cons_self ..))
      · rw [List.foldl_cons, hcounts]
        simp
  obtain ⟨sws, hst, hcan, hcounts⟩ :=
    fold (s.store.switches.filter fun p => decide (p.2.archived = .invalid)) { s with policy := p }
  refine ⟨sws, hst, fun h => hcan (fun q hq => ?_) h, hcounts⟩
  obtain ⟨-, -, -, -, hb, -⟩ := (Store.canonical_iff _).1 h
  exact hb q (List.mem_of_mem_filter hq)

theorem grantSetPolicy_act (policy : Byte) (s : State) : LinkAct s (grantSetPolicy policy s) := by
  unfold grantSetPolicy
  split
  · exact (answer_unmoved ..).linkAct
  · rename_i hrun
    have hs : s.run.state.hasModel = true := by
      by_contra hne
      refine hrun ⟨fun h => hne (by rw [h]; rfl), fun h => hne (by rw [h]; rfl)⟩
    split
    · rename_i p hp
      dsimp only
      split
      · exact (answer_unmoved ..).linkAct
      · obtain ⟨l, hst, hcan, hcounts⟩ := applyPolicy_store p s
        exact (Act.switches_linkAct (.switches l hst hcan hcounts (by simp)) (by simp) hs).answer _ _
    · exact (answer_unmoved ..).linkAct

theorem grantOverrideSwitch_act (sw : U16) (action : Byte) (s : State) :
    LinkAct s (grantOverrideSwitch sw action s) := by
  unfold grantOverrideSwitch
  split
  · exact (answer_unmoved ..).linkAct
  · rename_i hs
    split
    · exact (answer_unmoved ..).linkAct
    · rename_i hsw
      split
      · split
        · exact changeSwitch_act _ _ (by omega) (by simpa using hs)
        · exact (answer_unmoved ..).linkAct
      · exact (answer_unmoved ..).linkAct

theorem grantRetireSwitch_act (sw : U16) (s : State) : LinkAct s (grantRetireSwitch sw s) := by
  unfold grantRetireSwitch
  split
  · exact (answer_unmoved ..).linkAct
  · rename_i hs
    split
    · exact (answer_unmoved ..).linkAct
    · rename_i hsw
      split
      · split
        · exact (answer_unmoved ..).linkAct
        · exact changeSwitch_act _ _ (by omega) (by simpa using hs)
      · exact (answer_unmoved ..).linkAct

theorem parseInitialOnline_isSome {kind : NodeKind} {online : Byte} {o : Option Bool}
    (h : parseInitialOnline kind online = some o) : o.isSome = true ↔ kind = .source := by
  cases kind <;> simp [parseInitialOnline] at h
  · simp [← h]
  · obtain ⟨-, rfl⟩ | ⟨-, rfl⟩ := h <;> simp
  · simp [← h]

theorem grantDefineNode_act (node : U16) (kind online : Byte) (s : State) :
    LinkAct s (grantDefineNode node kind online s) := by
  unfold grantDefineNode
  split
  · exact (answer_unmoved ..).linkAct
  · rename_i hb
    split
    · exact (answer_unmoved ..).linkAct
    · rename_i hn
      split
      · split
        · rename_i o ho
          apply LinkAct.answer
          exact ⟨.define node.toNat _ o (by omega) (parseInitialOnline_isSome ho) (by simpa using hb) rfl rfl rfl, id⟩
        · exact (answer_unmoved ..).linkAct
      · exact (answer_unmoved ..).linkAct

theorem grantDefineSwitch_act (sw endA endB : U16) (position : Byte) (s : State) :
    LinkAct s (grantDefineSwitch sw endA endB position s) := by
  unfold grantDefineSwitch
  repeat' split
  case h_1 _ hsw _ _ _ _ p _ =>
    apply LinkAct.answer
    exact ⟨.switches _ rfl (fun h => Store.putSwitch_canonical h _ (by omega)) rfl rfl, id⟩
  all_goals exact (answer_unmoved ..).linkAct

theorem grantBuildEnd_act (s : State) : LinkAct s (grantBuildEnd s) := by
  unfold grantBuildEnd
  split
  · exact (answer_unmoved ..).linkAct
  · rename_i hb
    have hb : s.run.state = .build := by simpa using hb
    split
    · exact (answer_unmoved ..).linkAct
    · apply LinkAct.answer
      exact ⟨.stay rfl rfl (.inr (.inr (.inl ⟨hb, rfl⟩))), fun h _ => h (by rw [hb]; rfl)⟩

theorem takeClear_act (s : State) : LinkAct s (takeClear s) := by
  unfold takeClear
  refine Unmoved.trans_linkAct ?_ (arbitrate_act _)
  exact ⟨rfl, rfl, rfl, rfl⟩

theorem leaveEnded_act (s : State) : LinkAct s (leaveEnded s) := by
  unfold leaveEnded
  split
  · rename_i h
    exact .within rfl rfl (by rw [h.1]; rfl) rfl
  · exact (Unmoved.refl s).linkAct

theorem enterPaused_act {s : State} (h : s.run.state.hasModel = true) : LinkAct s (enterPaused s) :=
  .within rfl rfl h rfl

theorem enterMoving_act {target : RunState} {s : State} (h : s.run.state.hasModel = true)
    (ht : target.hasModel = true) : LinkAct s (enterMoving target s) :=
  .within (by simp) (by simp) h (by simpa [enterMoving] using ht)

theorem beginStep_act {s : State} (h : s.run.state.hasModel = true) : LinkAct s (beginStep s) :=
  .within (by simp) (by simp) h (by simp [beginStep, enterMoving]; rfl)

theorem resumeRun_act {s : State} (h : s.run.state.hasModel = true) : LinkAct s (resumeRun s) :=
  .within (by simp) (by simp) h (by simp [resumeRun, enterMoving]; rfl)

theorem extendStep_unmoved (s : State) : Unmoved s (extendStep s) := ⟨rfl, rfl, rfl, rfl⟩

theorem grantSetPacing_act (rate : U16) (direction : Byte) (s : State) :
    LinkAct s (grantSetPacing rate direction s) := by
  unfold grantSetPacing
  split
  · split
    · exact (answer_unmoved ..).linkAct
    · apply LinkAct.answer
      dsimp only
      split
      · exact Unmoved.linkAct ⟨rfl, rfl, rfl, rfl⟩
      · exact Unmoved.trans_linkAct ⟨by simp, by simp, by simp, by simp⟩ (leaveEnded_act _)
  · exact (answer_unmoved ..).linkAct

theorem grantSetEnd_act (endTime : U32) (s : State) : LinkAct s (grantSetEnd endTime s) := by
  unfold grantSetEnd
  split
  · apply LinkAct.answer
    unfold grantSetEnd.leaveEndedForward
    split
    · refine Unmoved.trans_linkAct ?_ (leaveEnded_act _)
      exact ⟨rfl, rfl, rfl, rfl⟩
    · exact Unmoved.linkAct ⟨rfl, rfl, rfl, rfl⟩
  · exact (answer_unmoved ..).linkAct

/-- START, PAUSE, RESUME and STEP move the run within READY to ENDED (R125). -/
theorem grantStart_act (s : State) : LinkAct s (grantStart s) := by
  unfold grantStart
  split
  · rename_i h; exact (enterMoving_act (by rw [h]; rfl) rfl).answer _ _
  · exact (answer_unmoved ..).linkAct

theorem grantPause_act (s : State) : LinkAct s (grantPause s) := by
  unfold grantPause
  split
  · rename_i h; exact (enterPaused_act (by rw [h]; rfl)).answer _ _
  · rename_i h; exact (enterPaused_act (by rw [h]; rfl)).answer _ _
  · exact (answer_unmoved ..).linkAct
  · exact (answer_unmoved ..).linkAct

theorem grantResume_act (s : State) : LinkAct s (grantResume s) := by
  unfold grantResume
  split
  · rename_i h; exact (resumeRun_act (by rw [h]; rfl)).answer _ _
  · rename_i h; exact (resumeRun_act (by rw [h]; rfl)).answer _ _
  · exact (answer_unmoved ..).linkAct

theorem grantStep_act (s : State) : LinkAct s (grantStep s) := by
  unfold grantStep
  split
  · rename_i h; exact (beginStep_act (by rw [h]; rfl)).answer _ _
  · rename_i h; exact (beginStep_act (by rw [h]; rfl)).answer _ _
  · exact (extendStep_unmoved s).linkAct.answer _ _
  · exact (answer_unmoved ..).linkAct

theorem grantRestore_act (s : State) : LinkAct s (grantRestore s) := by
  unfold grantRestore
  split
  · apply LinkAct.answer
    exact ⟨.stay (by simp) (by simp [beginRestore, followNone]) (.inr (.inr (.inr ⟨rfl, by simp [beginRestore]⟩))),
      fun _ _ => by simp [beginRestore, followNone]⟩
  · exact (answer_unmoved ..).linkAct

/-- A command when its turn has come is one act. -/
theorem carryOut_act (c : Command) (s : State) : LinkAct s (carryOut c s) := by
  cases c <;> simp only [carryOut]
  case defineNode => exact grantDefineNode_act ..
  case defineSwitch => exact grantDefineSwitch_act ..
  case buildEnd => exact grantBuildEnd_act s
  case clearModel => exact takeClear_act s
  case setPolicy => exact grantSetPolicy_act ..
  case overrideSwitch => exact grantOverrideSwitch_act ..
  case retireSwitch => exact grantRetireSwitch_act ..
  case setPacing => exact grantSetPacing_act ..
  case setEnd => exact grantSetEnd_act ..
  case start => exact grantStart_act s
  case pause => exact grantPause_act s
  case resume => exact grantResume_act s
  case step => exact grantStep_act s
  case restore => exact grantRestore_act s
  all_goals
    apply Unmoved.linkAct
    simp only [grantLookupSwitch, grantLookupNode, grantLookupIsland, grantWalkSet, grantWalkMove, grantReadTable,
      grantReadClock, grantSetMark, grantSetStepSpan, directLoadBatch, acceptLoad, grantArmBatch, grantDiscardBatch,
      grantDiscardBatch.discard, grantReadBatch, directReadStatus, grantSetWatch, grantClearWatch, rewriteWatch,
      grantReadWatch, directReadEvents, directSetEventEnables, directSetInterruptLine, directReadInterrupt,
      directSetCueLine, directClearLineFlags, directReadCueLine, directSetIndicator, directReadIndicator,
      grantRefreshIndicators, directReadLines, directSetCheckMode]
    repeat' split
  all_goals constructor <;> simp

end Sys2Proof.Machine
end

section
/-! SUPPORT. The frames of the link, the engines and the step, as chains of the acts on the tables. -/

namespace Sys2Proof.Machine

/-! ### The link -/

theorem LinkAct.acts {s t : State} (h : LinkAct s t) : LinkActs s t := .single h

theorem Unmoved.acts {s t : State} (h : Unmoved s t) : LinkActs s t := h.linkAct.acts

theorem endLinkGrant_unmoved (s : State) : Unmoved s (endLinkGrant s) := by constructor <;> simp

theorem finishLinkGrant_acts (s : State) : LinkActs s (finishLinkGrant s) := by
  unfold finishLinkGrant
  split
  · split
    · rename_i c _
      exact ((carryOut_act c s).trans_unmoved (endLinkGrant_unmoved _)).acts.trans (arbitrate_act _).acts
    · exact .refl
  · exact .refl

theorem readAwaited_acts (s : State) : LinkActs s (readAwaited s) := by
  obtain h | ⟨x, -, -, -, -, h⟩ := readAwaited_cases s <;> rw [h]
  exact (Unmoved.trans_linkAct ⟨by simp, by simp, by simp, by simp⟩ (endUnit_act (readRecord x s))).acts

theorem finishLink_acts (s : State) : LinkActs s (finishLink s) :=
  (finishLinkGrant_acts s).trans (readAwaited_acts _)

theorem placeClaim_acts (s : State) : LinkActs s (placeClaim s) := by
  unfold placeClaim
  refine .trans (LinkAct.acts ?_) (finishLinkGrant_acts _)
  refine Unmoved.trans_linkAct ?_ (arbitrate_act _)
  exact ⟨rfl, rfl, rfl, rfl⟩

theorem beginWait_unmoved (s : State) : Unmoved s (beginWait s) := by constructor <;> simp

theorem decideCommand_acts (c : Command) (s : State) : LinkActs s (decideCommand c s) := by
  have latched : Unmoved s { s with link.frame := .waiting, link.taken := some c } := ⟨rfl, rfl, rfl, rfl⟩
  unfold decideCommand
  dsimp only
  split
  · exact latched.acts.trans (carryOut_act c _).acts
  · exact latched.acts.trans ((carryOut_act c _).trans_unmoved (beginWait_unmoved _)).acts
  · split
    · exact latched.acts.trans (answer_unmoved ..).acts
    · exact (latched.acts.trans (placeClaim_acts _)).trans (beginWait_unmoved _).acts

theorem refuseCheck_unmoved (c : Command) (s : State) : Unmoved s (refuseCheck c s) := by
  unfold refuseCheck
  dsimp only
  split <;> exact ⟨rfl, rfl, rfl, rfl⟩

theorem testCheck_acts (c : Command) (byte : Byte) (s : State) : LinkActs s (testCheck c byte s) := by
  unfold testCheck
  split
  · exact decideCommand_acts c s
  · exact (refuseCheck_unmoved c s).acts

theorem endArguments_acts (c : Command) (s : State) : LinkActs s (endArguments c s) := by
  unfold endArguments
  split
  · exact Unmoved.acts ⟨rfl, rfl, rfl, rfl⟩
  · exact decideCommand_acts c s

theorem commandByte_acts (code : Byte) (s : State) : LinkActs s (commandByte code s) := by
  have latched : Unmoved s (latchCode code s) := ⟨rfl, rfl, rfl, rfl⟩
  unfold commandByte
  dsimp only
  split
  · exact latched.acts.trans (answer_unmoved ..).acts
  · split
    · exact latched.acts.trans (endArguments_acts _ _)
    · exact latched.acts.trans (Unmoved.acts ⟨rfl, rfl, rfl, rfl⟩)

theorem argumentByte_acts (byte : Byte) (s : State) : LinkActs s (argumentByte byte s) := by
  have latched : Unmoved s (latchArgument byte s) := ⟨rfl, rfl, rfl, rfl⟩
  unfold argumentByte
  dsimp only
  split
  · exact latched.acts.trans (endArguments_acts _ _)
  · exact latched.acts

theorem checkByte_acts (byte : Byte) (s : State) : LinkActs s (checkByte byte s) := by
  unfold checkByte
  split
  · exact testCheck_acts _ byte s
  · exact .refl

theorem gatherByte_unmoved (byte : Byte) (s : State) : Unmoved s (gatherByte byte s) := by constructor <;> simp
theorem sendStatus_unmoved (s : State) : Unmoved s (sendStatus s) := by constructor <;> simp
theorem endStatus_unmoved (s : State) : Unmoved s (endStatus s) := by constructor <;> simp
theorem sendReply_unmoved (s : State) : Unmoved s (sendReply s) := by constructor <;> simp

/-- One byte position. -/
theorem hostByte_acts (s : State) (byte : Byte) : LinkActs s (hostByte s byte) := by
  unfold hostByte
  split
  · exact .refl
  · exact commandByte_acts byte s
  · exact argumentByte_acts byte s
  · exact checkByte_acts byte s
  · exact (beginWait_unmoved s).acts
  · exact ((endStatus_unmoved s).acts.trans (readAwaited_acts _)).trans (beginWait_unmoved _).acts
  · exact ((sendReply_unmoved s).acts.trans (readAwaited_acts _)).trans (beginWait_unmoved _).acts
  · exact (gatherByte_unmoved byte s).acts
  · exact .refl
  · exact .refl

theorem hostBytes_acts (bytes : List Byte) (s : State) : LinkActs s (hostBytes bytes s) := by
  unfold hostBytes
  induction bytes generalizing s with
  | nil => exact .refl
  | cons b l ih => exact (hostByte_acts s b).trans (ih _)

theorem hostCommand_acts (c : Command) (check : Option Byte) (s : State) : LinkActs s (hostCommand c check s) := by
  unfold hostCommand
  split
  · refine .trans (b := { s with
        link.code := some c.code
        link.args := c.argBytes
        link.xor := xorBytes c.argBytes
        link.waitBegun := false
        link.frameCheck := s.link.checkMode }) (Unmoved.acts ⟨rfl, rfl, rfl, rfl⟩) ?_
    dsimp only
    split
    · exact testCheck_acts ..
    · exact Unmoved.acts ⟨rfl, rfl, rfl, rfl⟩
    · exact (decideCommand_acts c _).trans (hostByte_acts _ _)
    · exact decideCommand_acts c _
  · exact (finishLink_acts s).trans (hostBytes_acts _ _)

theorem endFrame_acts (s : State) : LinkActs s (endFrame s) := by
  unfold endFrame
  split
  · exact Unmoved.acts ⟨rfl, rfl, rfl, rfl⟩
  · refine LinkAct.acts (Unmoved.trans_linkAct ?_ (arbitrate_act _))
    constructor <;> simp

theorem selRelease_acts (clocked : List Byte) (s : State) : LinkActs s (selRelease clocked s) :=
  ((finishLink_acts s).trans (hostBytes_acts _ _)).trans (endFrame_acts _)

/-! ### The clock and the cue lines -/

theorem takeFunction_act (f : CueFunction) (s : State) : LinkAct s (takeFunction f s) := by
  unfold takeFunction
  split
  · rename_i h; exact beginStep_act (by rw [h]; rfl)
  · rename_i h; exact beginStep_act (by rw [h]; rfl)
  · exact (extendStep_unmoved s).linkAct
  · rename_i h; exact enterPaused_act (by rw [h]; rfl)
  · rename_i h; exact resumeRun_act (by rw [h]; rfl)
  · exact (Unmoved.refl s).linkAct

theorem assertingEdge_acts (n : Fin 8) (s : State) : LinkActs s (assertingEdge n s) := by
  unfold assertingEdge
  dsimp only
  refine .trans (LinkAct.acts (Unmoved.trans_linkAct ?_ (takeFunction_act _ _))) (arbitrate_act _).acts
  split <;> exact ⟨rfl, rfl, rfl, rfl⟩

theorem sampleLine_acts (levels : Byte) (s : State) (n : Fin 8) : LinkActs s (sampleLine levels s n) := by
  unfold sampleLine
  dsimp only
  refine .trans (b := refreshHold (setCue n ((s.panel.cues.get n).sampled (levels.getLsbD n.val)) s))
    (Unmoved.acts ⟨rfl, rfl, rfl, rfl⟩) ?_
  split
  · exact assertingEdge_acts n _
  · exact .refl

theorem sampleEvent_acts (levels : Byte) (order : List (Fin 8)) (s : State) :
    LinkActs s (sampleEvent levels order s) := by
  unfold sampleEvent
  induction cueOrder order generalizing s with
  | nil => exact .refl
  | cons n l ih => exact (sampleLine_acts levels s n).trans (ih _)

/-- A tick moves the run only from RUNNING and STEPPING, to PAUSED or ENDED (R83, R85 to R87). -/
theorem pacingTick_act (s : State) : LinkAct s (pacingTick s) := by
  by_cases h : s.tickAdvances = true
  · have hm : s.run.state.hasModel = true := by
      have := (Bool.and_eq_true_iff.1 h).1
      revert this
      cases s.run.state <;> decide
    refine .within (by simp) (by simp) hm ?_
    rw [pacingTick, if_pos h, testMark_run]
    unfold advanceTime reachBoundary
    dsimp only
    split
    · rfl
    · split
      · split
        · split
          · exact hm
          · rfl
        · exact hm
      · exact hm
  · rw [pacingTick, if_neg h]
    exact (Unmoved.refl s).linkAct

/-! ### The engines -/

theorem streamWork_act {s t : State} (h : streamWork s = some t) : LinkAct s t := by
  unfold streamWork at h
  split at h
  · cases h
    exact Unmoved.trans_linkAct ⟨by simp, by simp, by simp, by simp⟩ (endUnit_act _)
  · cases h

/-- A stage of compile or restore is an act, and leaves no job. -/
theorem compileIncidenceLists_act {s : State} (h : s.run.state = .compiling) :
    LinkAct s (compileIncidenceLists s) where
  act := .prepare (fun n r => { r with incidence := s.store.incidentSwitches n }) (fun _ r => r)
    (fun _ _ => ⟨rfl, rfl, rfl⟩) (fun _ _ => ⟨rfl, rfl, .inl rfl⟩) h
    (by simp [compileIncidenceLists, Tab.mapRecords]) rfl (.inl ⟨rfl, rfl⟩)
  free := id

theorem compileStartingValues_act {s : State} (h : s.run.state = .compiling) :
    LinkAct s (compileStartingValues s) where
  act := .prepare (fun _ r => r.started) (fun _ r => r.started)
    (fun _ _ => ⟨rfl, rfl, rfl⟩) (fun _ _ => ⟨rfl, rfl, .inr rfl⟩) h rfl rfl (.inl ⟨rfl, rfl⟩)
  free := id

theorem compileEnd_act {s : State} (h : s.run.state = .compiling) : LinkAct s (compileEnd s) where
  act := .label s.clock.time (.inl h) (by simp [compileEnd, commitStore]) (by simp [compileEnd, commitStore])
    (by simp [compileEnd])
  free := fun _ ht => absurd ht (by simp [compileEnd, RunState.hasModel])

theorem restoreFirstStage_act {s : State} (h : s.run.state = .restoring) : LinkAct s (restoreFirstStage s) where
  act := .stay (by simp) (by simp [restoreFirstStage])
    (.inr (.inr (.inr ⟨by simp [restoreFirstStage, h], by simp [restoreFirstStage]⟩)))
  free := fun _ _ => by simp [restoreFirstStage]

theorem restoreSecondStage_act {s : State} (h : s.run.state = .restoring) : LinkAct s (restoreSecondStage s) where
  act := .unlabel h rfl h
  free := fun hs _ => hs (by rw [h]; rfl)

theorem restoreEnd_act {s : State} (h : s.run.state = .restoring) (hst : s.run.restoreStage = some .labelling) :
    LinkAct s (restoreEnd s) where
  act := .label s.clock.time (.inr ⟨h, hst⟩) (by simp [restoreEnd, commitStore]) (by simp [restoreEnd, commitStore])
    (by simp [restoreEnd])
  free := fun _ ht => absurd ht (by simp [restoreEnd, RunState.hasModel])

theorem compileWork_acts {stage : CompileStage} {effect : State → State} {s t : State}
    (he : s.run.state = .compiling → LinkAct s (effect s)) (h : compileWork stage effect s = some t) :
    LinkActs s t := by
  unfold compileWork at h
  split at h
  · rename_i hd
    cases h
    exact (he hd.2.1).acts.trans (arbitrate_act _).acts
  · cases h

theorem restoreWork_acts {stage : RestoreStage} {effect : State → State} {s t : State}
    (he : s.run.state = .restoring → s.run.restoreStage = some stage → LinkAct s (effect s))
    (h : restoreWork stage effect s = some t) : LinkActs s t := by
  unfold restoreWork at h
  split at h
  · rename_i hd
    cases h
    exact (he hd.2.1 hd.2.2).acts.trans (arbitrate_act _).acts
  · cases h

/-! ### The Sequencer -/

theorem applyCue_run_within (s : State) : RunMoves s.run (applyCue s).run := by
  unfold applyCue
  split
  · rename_i h; exact .inr (.inl ⟨by rw [h]; rfl, rfl⟩)
  · rename_i h; exact .inr (.inl ⟨by rw [h]; rfl, rfl⟩)
  · exact .refl _
  · exact .refl _

/-- A SWITCH entry names a switch in range. -/
theorem planEntry_switch_lt {s : State} {e : BitVec 64} {sw : Nat} {old new : SwitchRec} {d : Bool}
    (h : planEntry s e = .switch sw old new d) : sw < Config.switchCapacity := by
  unfold planEntry planSwitch planSource at h
  repeat' split at h
  all_goals first | (cases h; omega) | cases h

/-- The effect of an entry on the tables: a switch record at most, and a CUE may pause the run (R113 to R115). -/
theorem applyPlan_act {s u : State} {e : BitVec 64} {time : Nat} (p : EntryPlan) (hp : planEntry u e = p) :
    Act s.net (applyPlan time p s).net := by
  cases p with
  | fault => exact .stay rfl rfl (.refl _)
  | switch sw old new d =>
    have hsw := planEntry_switch_lt hp
    unfold applyPlan
    dsimp only
    split
    · exact commitSwitch_act sw old new time s hsw
    · exact commitSwitch_act sw old new time s hsw
  | source n v => exact .stay (by simp [applyPlan]) (by simp [applyPlan]) (by simp [applyPlan, RunMoves])
  | cue => exact .stay (by simp [applyPlan]) (by simp [applyPlan]) (applyCue_run_within s)

theorem serveEntry_act (n : BufferName) (e : BitVec 64) (s : State) : Act s.net (serveEntry n e s).net := by
  unfold serveEntry
  dsimp only
  split
  · exact .stay (by simp) (by simp) (by simp [RunMoves])
  · split
    · split <;> exact .stay (by simp) (by simp) (by simp [RunMoves])
    · have h := applyPlan_act (s := { s with sequencer.stats := s.sequencer.stats.afterEntry s.clock (entryTime e) })
        (time := entryTime e) _ (rfl : planEntry s e = planEntry s e)
      exact (by simpa [State.net] using h)

/-! ### The resolver -/

theorem endJob_unit {s t : State} (j : JobInProgress) (h : UnitAct s t) : UnitAct s (endJob j t) := by
  cases h with
  | act h => exact .act (by simpa [State.net] using h)
  | move n dst cause job store counts run => exact .move n dst cause job (by simpa) (by simpa) (by simpa)
  | found n k cause job free store counts run => exact .found n k cause job free (by simpa) (by simpa) (by simpa)
  | online n k cause r v job node kind value island store counts run =>
    exact .online n k cause r v job node kind value island (by simpa) (by simpa) (by simpa)

theorem continueJob_unit {s t : State} (j : JobInProgress) (h : UnitAct s t) : UnitAct s (continueJob j t) := by
  cases h with
  | act h => exact .act h
  | move n dst cause job store counts run => exact .move n dst cause job store counts run
  | found n k cause job free store counts run => exact .found n k cause job free store counts run
  | online n k cause r v job node kind value island store counts run =>
    exact .online n k cause r v job node kind value island store counts run

theorem UnitAct.refl (s : State) : UnitAct s s := .act (.stay rfl rfl (.refl _))

theorem mergeGuard_unit (sw : Nat) (j : JobInProgress) (s : State) : UnitAct s (mergeGuard sw j s) := by
  unfold mergeGuard
  repeat' split
  all_goals first | exact endJob_unit j (.refl s) | exact continueJob_unit _ (.refl s)

theorem mergeRelabel_unit (cause : Nat) (j : JobInProgress) {s : State} (hj : s.resolver.current.isSome = true) :
    UnitAct s (mergeRelabel cause j s) := by
  unfold mergeRelabel
  split
  · rename_i k x _ _
    split
    · rename_i b _
      have h : UnitAct s (commitStore (s.store.moveNode b.first k cause) s) := .move b.first k cause hj rfl rfl rfl
      dsimp only
      split
      · exact endJob_unit _ h
      · exact continueJob_unit _ h
    · exact endJob_unit _ (.refl s)
  · exact endJob_unit _ (.refl s)

theorem splitTurn_unit (j : JobInProgress) (s : State) : UnitAct s (splitTurn j s) := by
  unfold splitTurn
  repeat' split
  all_goals first | exact endJob_unit j (.refl s) | exact continueJob_unit _ (.refl s)

theorem splitGuard_unit (sw : Nat) (j : JobInProgress) (s : State) : UnitAct s (splitGuard sw j s) := by
  unfold splitGuard
  repeat' split
  all_goals first | exact endJob_unit j (.refl s) | exact splitTurn_unit _ s

theorem splitRelabel_unit (cause : Nat) (j : JobInProgress) {s : State} (hj : s.resolver.current.isSome = true) :
    UnitAct s (splitRelabel cause j s) := by
  unfold splitRelabel
  split
  · rename_i n rest _
    split
    · rename_i k _
      have h : UnitAct s (commitStore (s.store.moveNode n k cause) s) := .move n k cause hj rfl rfl rfl
      dsimp only
      split
      · exact endJob_unit _ h
      · exact continueJob_unit _ h
    · split
      · rename_i k hk
        have h : UnitAct s (commitStore ((s.store.createIsland k n cause).moveNode n k cause) s) :=
          .found n k cause hj hk rfl rfl rfl
        dsimp only
        split
        · exact endJob_unit _ h
        · exact continueJob_unit _ h
      · exact endJob_unit _ (.refl s)
  · exact endJob_unit _ (.refl s)

theorem sourceJob_unit (n : Nat) (v : Bool) (cause : Nat) (j : JobInProgress) {s : State}
    (hj : s.resolver.current.isSome = true) : UnitAct s (sourceJob n v cause j s) := by
  unfold sourceJob
  split
  · rename_i r hr
    split
    · exact endJob_unit _ (.refl s)
    · rename_i hv
      rw [not_or, not_not] at hv
      split
      · rename_i k hk
        exact endJob_unit _ (.online n k cause r v hj hr hv.1 hv.2 hk rfl rfl rfl)
      · exact endJob_unit _ (.refl s)
  · exact endJob_unit _ (.refl s)

/-! ### A step -/

/-- What a step can do to the tables: acts of the link, one unit of work, and acts of the link again. -/
def Steps (s t : State) : Prop := ∃ u v, LinkActs s u ∧ UnitAct u v ∧ LinkActs v t

theorem LinkActs.steps {s t : State} (h : LinkActs s t) : Steps s t := ⟨t, t, h, .refl t, .refl⟩

/-- The step of an engine is the end of a LINK grant and then its work, if it is due. -/
theorem engineStep_steps {work : State → Option State} {s t : State} (h : engineStep work s = .next t)
    (hw : ∀ u v, work u = some v → Steps u v) : Steps s t := by
  unfold engineStep at h
  cases hv : work (finishLinkGrant s) with
  | none =>
    rw [hv] at h
    cases h
    exact (finishLinkGrant_acts s).steps
  | some v =>
    rw [hv] at h
    cases h
    obtain ⟨a, b, ha, hab, hb⟩ := hw _ _ hv
    exact ⟨a, b, (finishLinkGrant_acts s).trans ha, hab, hb⟩

theorem resolverWork_steps {unit : JobInProgress → Option (State → State)} {s t : State}
    (h : resolverWork unit s = some t)
    (hu : ∀ (j : JobInProgress) (effect : State → State) (u : State), unit j = some effect →
      u.resolver.current.isSome = true → UnitAct u (effect u)) : Steps s t := by
  unfold resolverWork at h
  split at h
  · obtain ⟨effect, he, rfl⟩ := Option.map_eq_some_iff.1 h
    obtain ⟨j, hj, hje⟩ := Option.bind_eq_some_iff.1 he
    exact ⟨s, effect s, .refl, hu j effect s hje (by rw [hj]; rfl), (endUnit_act _).acts⟩
  · cases h

theorem sequencerWork_steps {s t : State} (h : sequencerWork s = some t) : Steps s t := by
  unfold sequencerWork at h
  split at h
  · obtain ⟨p, -, rfl⟩ := Option.map_eq_some_iff.1 h
    exact ⟨s, _, .refl, .act (serveEntry_act p.1 p.2 s), (endUnit_act _).acts⟩
  · cases h

theorem hostCommand_steps (c : Command) (check : Option Byte) (s : State) : Steps s (hostCommand c check s) :=
  (hostCommand_acts c check s).steps

/-- Every row is such a step. -/
theorem exec_steps (i : Instr) {s t : State} (h : exec i s = .next t) : Steps s t := by
  cases i
  case hardwareReset lmode0 lmode1 lchk selLow =>
    cases h
    exact ⟨s, _, .refl, .act (.reset rfl rfl rfl), .refl⟩
  case selAssert =>
    cases h
    refine LinkActs.steps (Unmoved.acts ?_)
    unfold selAssert
    split <;> exact ⟨rfl, rfl, rfl, rfl⟩
  case selRelease clocked => cases h; exact (selRelease_acts clocked s).steps
  case unknownCommand code => cases h; exact LinkActs.steps ((finishLink_acts s).trans (hostByte_acts _ code))
  case batchEntry bytes =>
    cases h
    refine LinkActs.steps (((finishLink_acts s).trans (Unmoved.acts ?_)).trans (hostBytes_acts bytes _))
    unfold readStatusFirst
    split
    · exact sendStatus_unmoved _
    · exact .refl _
  case compileIncidenceLists =>
    exact engineStep_steps h fun u v hv => (compileWork_acts compileIncidenceLists_act hv).steps
  case compileStartingValues =>
    exact engineStep_steps h fun u v hv => (compileWork_acts compileStartingValues_act hv).steps
  case compileEnd => exact engineStep_steps h fun u v hv => (compileWork_acts compileEnd_act hv).steps
  case restoreFirstStage =>
    exact engineStep_steps h fun u v hv => (restoreWork_acts (fun hr _ => restoreFirstStage_act hr) hv).steps
  case restoreSecondStage =>
    exact engineStep_steps h fun u v hv => (restoreWork_acts (fun hr _ => restoreSecondStage_act hr) hv).steps
  case restoreEnd => exact engineStep_steps h fun u v hv => (restoreWork_acts restoreEnd_act hv).steps
  case readTableRecord => exact engineStep_steps h fun u v hv => (streamWork_act hv).acts.steps
  case applyEntry => exact engineStep_steps h fun u v hv => sequencerWork_steps hv
  case mergeGuard =>
    refine engineStep_steps h fun u v hv => resolverWork_steps hv fun j effect w he _ => ?_
    split at he <;> cases he
    exact mergeGuard_unit _ j w
  case mergeRelabel =>
    refine engineStep_steps h fun u v hv => resolverWork_steps hv fun j effect w he hw => ?_
    split at he <;> cases he
    exact mergeRelabel_unit _ j hw
  case splitGuard =>
    refine engineStep_steps h fun u v hv => resolverWork_steps hv fun j effect w he _ => ?_
    split at he <;> cases he
    exact splitGuard_unit _ j w
  case splitVisit =>
    refine engineStep_steps h fun u v hv => resolverWork_steps hv fun j effect w he _ => ?_
    split at he <;> cases he
    exact splitTurn_unit j w
  case splitRelabel =>
    refine engineStep_steps h fun u v hv => resolverWork_steps hv fun j effect w he hw => ?_
    split at he <;> cases he
    exact splitRelabel_unit _ j hw
  case sourceJob =>
    refine engineStep_steps h fun u v hv => resolverWork_steps hv fun j effect w he hw => ?_
    split at he <;> cases he
    exact sourceJob_unit _ _ _ j hw
  case pacingTick => cases h; exact LinkActs.steps ((pacingTick_act s).acts.trans (arbitrate_act _).acts)
  case sampleEvent levels order =>
    cases h
    exact LinkActs.steps ((sampleEvent_acts levels order s).trans (arbitrate_act _).acts)
  case flashPhaseTurn => cases h; exact LinkActs.steps (Unmoved.acts (t := flashPhaseTurn s) ⟨rfl, rfl, rfl, rfl⟩)
  all_goals cases h; exact hostCommand_steps ..

/-- Every step of the machine is such a step. -/
theorem step_steps {s t : State} (h : step s = .next t) : Steps s t := by
  unfold step at h
  split at h
  · cases h; exact (finishLinkGrant_acts s).steps
  · rename_i c rest _
    obtain ⟨u, v, hu, huv, hv⟩ := exec_steps c h
    have front : Unmoved s { s with pending := rest } := ⟨rfl, rfl, rfl, rfl⟩
    exact ⟨u, v, front.acts.trans hu, huv, hv⟩

end Sys2Proof.Machine
end

section
/-! The island states and the device counts (R13, R40, R42): what every act on the tables keeps, every step keeps. -/

namespace Sys2Proof.Machine

/-! ### What every act keeps, every step keeps -/

/-- An invariant of the tables, the counts and the run that every act keeps, a chain of acts keeps. -/
theorem LinkActs.keeps {P : Net → Prop} (hact : ∀ a b, P a → Act a b → P b) {s t : State} (h : LinkActs s t)
    (hs : P s.net) : P t.net := by
  induction h with
  | refl => exact hs
  | tail _ hl ih => exact hact _ _ ih hl.act

theorem step_keeps_net {P : Net → Prop} (hact : ∀ a b, P a → Act a b → P b)
    (hunit : ∀ s t : State, P s.net → UnitAct s t → P t.net) {s t : State} (hs : P s.net) (h : step s = .next t) :
    P t.net := by
  obtain ⟨u, v, hu, huv, hv⟩ := step_steps h
  exact hv.keeps hact (hunit u v (hu.keeps hact hs) huv)

/-! ### The canonical form -/

theorem Store.unlabelled_canonical {st : Store} (h : st.canonical = true) : st.unlabelled.canonical = true :=
  Store.mapSwitches_canonical
    (Store.mapNodes_canonical (Store.retireAll_canonical h) fun _ r => r.unlinked.started) fun _ r => r.restored

theorem Act.canonical {a b : Net} (h : Act a b) (ha : a.store.canonical = true) : b.store.canonical = true := by
  cases h with
  | stay store counts run => rwa [store]
  | switches l store canonical counts run => exact canonical ha
  | define n kind online lt source build store counts run => rw [store]; exact Store.putNode_canonical ha _ lt
  | prepare f g place nature compiling store counts run =>
    rw [store]; exact Store.mapSwitches_canonical (Store.mapNodes_canonical ha f) g
  | label now due store counts ready => rw [store]; exact Store.labelAll_canonical ha now
  | unlabel due store restoring => rw [store]; exact Store.unlabelled_canonical ha
  | clear store counts build => rw [store]; exact Store.cleared_canonical ha
  | reset store counts build => rw [store]; exact reset_canonical

theorem UnitAct.canonical {s t : State} (h : UnitAct s t) (hs : s.store.canonical = true) :
    t.store.canonical = true := by
  cases h with
  | act act => exact act.canonical hs
  | move n dst cause job store counts run => rw [store]; exact Store.moveNode_canonical hs ..
  | found n k cause job free store counts run =>
    rw [store]
    exact Store.moveNode_canonical (Store.createIsland_canonical hs n cause (Store.lowestFree_lt free)) ..
  | online n k cause r v job node kind value island store counts run =>
    rw [store]; exact Store.setOnline_canonical hs ..

/-! ### The island states -/

/-- The canonical form, and every island's state as its online-source count gives it. -/
def Store.Fed (st : Store) : Prop := st.canonical = true ∧ ∀ k, st.FedAt k

theorem feedInv_iff (s : State) : FeedInv s ↔ s.store.Fed := by
  unfold FeedInv StoreInv Store.Fed Store.FedAt
  refine and_congr_right fun hc => ⟨fun h k b hb => ?_, fun h p hp b hb => ?_⟩
  · unfold Store.island Store.islandRec at hb
    cases hg : Tab.get s.store.islands k with
    | none => simp [hg, IslandRec.absent] at hb
    | some r => exact h (k, r) (Tab.mem_of_get hg) b (by simpa [hg] using hb)
  · refine h p.1 b ?_
    rw [Store.island, Store.islandRec, Tab.get_of_mem (Store.islands_rising hc) hp]
    exact hb

/-- Tables with the same islands have the same states. -/
theorem Store.FedAt.of_islands {st u : Store} (h : u.islands = st.islands) {k : Nat} (hf : st.FedAt k) : u.FedAt k :=
  hf.congr (by unfold Store.island Store.islandRec; rw [h])

theorem Store.FedAt.of_none {st : Store} {k : Nat} (h : st.island k = none) : st.FedAt k := by
  intro b hb; rw [h] at hb; cases hb

theorem Act.fed {a b : Net} (h : Act a b) (ha : a.store.Fed) : b.store.Fed := by
  refine ⟨h.canonical ha.1, fun k => ?_⟩
  cases h with
  | stay store counts run => exact (ha.2 k).of_islands (by rw [store])
  | switches l store canonical counts run => exact (ha.2 k).of_islands (by rw [store])
  | define n kind online lt source build store counts run => exact (ha.2 k).of_islands (by rw [store])
  | prepare f g place nature compiling store counts run => exact (ha.2 k).of_islands (by rw [store])
  | label now due store counts ready => rw [store]; exact Store.labelAll_fedAt ha.1 now (ha.2 k)
  | unlabel due store restoring =>
    rw [store]
    exact (Store.FedAt.of_none (Store.retireAll_island ha.1 k)).of_islands (u := a.store.unlabelled) rfl
  | clear store counts build => rw [store]; exact .of_none (Store.cleared_island ha.1 k)
  | reset store counts build => rw [store]; exact .of_none rfl

theorem UnitAct.fed {s t : State} (h : UnitAct s t) (hs : s.store.Fed) : t.store.Fed := by
  refine ⟨h.canonical hs.1, fun j => ?_⟩
  cases h with
  | act act => exact (act.fed hs).2 j
  | move n dst cause job store counts run => rw [store]; exact Store.moveNode_fedAt hs.1 n dst cause hs.2 j
  | found n k cause job free store counts run =>
    rw [store]
    exact Store.moveNode_fedAt (Store.createIsland_canonical hs.1 n cause (Store.lowestFree_lt free)) n k cause
      (fun i => Store.createIsland_fedAt hs.1 k n cause (hs.2 i)) j
  | online n k cause r v job node kind value island store counts run =>
    rw [store]; exact Store.setOnline_fedAt hs.1 n k v cause (hs.2 j)

/-! ### The device counts -/

/-- The canonical form, and the counts as the table gives them, outside RESTORING (R42). -/
def Net.Counted (a : Net) : Prop := a.store.canonical = true ∧ (a.run.state ≠ .restoring → a.counts = a.store.tally)

theorem Store.tally_congr {st u : Store} (h : u.islands = st.islands) : u.tally = st.tally := by
  unfold Store.tally; rw [h]

/-- An act that leaves the islands, and ends outside RESTORING, began outside it. -/
theorem RunMoves.not_restoring {a b : RunControl} (h : RunMoves a b) (hb : b.state ≠ .restoring) :
    a.state ≠ .restoring := by
  obtain ⟨h, -⟩ | ⟨h, -⟩ | ⟨h, -⟩ | ⟨h, -⟩ := h
  · rwa [← h]
  · intro ha; rw [ha] at h; cases h
  · intro ha; rw [ha] at h; cases h
  · exact absurd h hb

theorem Net.Counted.of_islands {a b : Net} (ha : a.Counted) (hcan : b.store.canonical = true)
    (hi : b.store.islands = a.store.islands) (hc : b.counts = a.counts) (hr : RunMoves a.run b.run) : b.Counted :=
  ⟨hcan, fun h => by rw [hc, Store.tally_congr hi]; exact ha.2 (hr.not_restoring h)⟩

theorem Act.counted {a b : Net} (h : Act a b) (ha : a.Counted) : b.Counted := by
  have hcan := h.canonical ha.1
  cases h with
  | stay store counts run => exact ha.of_islands hcan (by rw [store]) counts run
  | switches l store canonical counts run => exact ha.of_islands hcan (by rw [store]) counts (run ▸ .refl _)
  | define n kind online lt source build store counts run =>
    exact ha.of_islands hcan (by rw [store]) counts (run ▸ .refl _)
  | prepare f g place nature compiling store counts run => exact ha.of_islands hcan (by rw [store]) counts run
  | label now due store counts ready => exact ⟨hcan, fun _ => counts⟩
  | unlabel due store restoring => exact ⟨hcan, fun h => absurd restoring h⟩
  | clear store counts build =>
    refine ⟨hcan, fun _ => ?_⟩
    rw [counts, Store.tally_of_no_island hcan fun k => by rw [store, Store.cleared_island ha.1]]
  | reset store counts build =>
    refine ⟨hcan, fun _ => ?_⟩
    rw [counts, store]
    rfl

theorem UnitAct.counted {s t : State} (h : UnitAct s t) (hs : s.net.Counted) : t.net.Counted := by
  have hcan := h.canonical hs.1
  cases h with
  | act act => exact act.counted hs
  | move n dst cause job store counts run => exact ⟨hcan, fun _ => counts⟩
  | found n k cause job free store counts run => exact ⟨hcan, fun _ => counts⟩
  | online n k cause r v job node kind value island store counts run => exact ⟨hcan, fun _ => counts⟩

/-- Settles O58: every act on the tables keeps the island states and the counts, and the tally counts the existing
islands of the table. -/
theorem stepsKeepIslandsAndCounts : Obligations.StepsKeepIslandsAndCounts := by
  refine ⟨fun s t hs h => ?_, fun s t hs h => ?_, ?_⟩
  · rw [feedInv_iff] at hs ⊢
    exact step_keeps_net (P := fun a => a.store.Fed) (fun _ _ ha hab => hab.fed ha)
      (fun _ _ hu huv => huv.fed hu) hs h
  · exact step_keeps_net (P := Net.Counted) (fun _ _ ha hab => hab.counted ha) (fun _ _ hu huv => huv.counted hu) hs h
  · intro st existing dead hst he hd
    have hx : existing = st.islands.filterMap (·.2.body) := he.trans (Store.existing_eq hst)
    rw [Store.tally_eq, ← hx, hd]
    exact ⟨rfl, rfl, rfl⟩

end Sys2Proof.Machine
end

section
/-! SUPPORT. Member lists (R39): what it is for an island to list its members, a list that may still be empty, and how
joining and leaving an island change it. -/

namespace Sys2Proof.Machine

/-! ### The member list of an island, which may be empty -/

/-- Node `n` is an online SOURCE (R40). -/
def Store.onlineAt (st : Store) (n : Nat) : Bool := decide ((st.node n).bind (·.online) = some true)

/-- Node `n` is a LOAD. -/
def Store.loadAt (st : Store) (n : Nat) : Bool := decide ((st.node n).map (·.kind) = some .load)

/-- `l` lists the members of island `k`, whose fields are `b`, in the order of their links. An island that has just been
created, or that its last member has left, has the empty list. -/
structure Store.Members (st : Store) (k : Nat) (b : Island) (l : List Nat) : Prop where
  nodup : l.Nodup
  count : l.length = b.memberCount
  ends : l ≠ [] → l.head? = some b.first ∧ l.getLast? = some b.last
  mem : ∀ n, n ∈ l ↔ (st.node n).bind (·.island) = some k
  links : ∀ u n v r, l = u ++ n :: v → st.node n = some r → r.prev = u.getLast? ∧ r.next = v.head?
  sources : b.sourceCount = (l.filter st.onlineAt).length
  loads : b.loadCount = (l.filter st.loadAt).length

theorem getElem?_of_split (u v : List Nat) (n : Nat) : (u ++ n :: v)[u.length]? = some n := by simp

/-- The neighbours of a place in a list, by index and by the parts before and after it. -/
theorem neighbours_of_split (u v : List Nat) (n : Nat) :
    (if u.length = 0 then none else (u ++ n :: v)[u.length - 1]?) = u.getLast? ∧
    (u ++ n :: v)[u.length + 1]? = v.head? := by
  constructor
  · cases u using List.reverseRecOn with
    | nil => rfl
    | append_singleton u m => simp
  · rw [List.getElem?_append_right (by omega)]
    simp [List.head?_eq_getElem?]

theorem getLast?_cons_concat (m y : Nat) (v : List Nat) : (m :: (v ++ [y])).getLast? = some y := by
  rw [← List.cons_append, List.getLast?_concat]

/-- A member list of Safety.lean is such a list with a member. -/
theorem Store.isMemberList_iff (st : Store) (k : Nat) (b : Island) (l : List Nat) :
    st.IsMemberList k b l ↔ st.Members k b l ∧ l ≠ [] := by
  have member : ∀ n, (∃ r, st.node n = some r ∧ r.island = some k) ↔ (st.node n).bind (·.island) = some k :=
    fun n => Option.bind_eq_some_iff.symm
  constructor
  · rintro ⟨hnd, hc, hf, hl, hm, hlinks, hs, ho⟩
    refine ⟨⟨hnd, hc, fun _ => ⟨hf, hl⟩, fun n => (hm n).trans (member n), ?_, hs, ho⟩, ?_⟩
    · rintro u n v r rfl hr
      obtain ⟨hp, hx⟩ := hlinks u.length n r (getElem?_of_split u v n) hr
      obtain ⟨ep, ex⟩ := neighbours_of_split u v n
      exact ⟨hp.trans ep, hx.trans ex⟩
    · rintro rfl; simp at hf
  · rintro ⟨h, hne⟩
    refine ⟨h.nodup, h.count, (h.ends hne).1, (h.ends hne).2, fun n => (h.mem n).trans (member n).symm, ?_, h.sources,
      h.loads⟩
    intro i n r hi hr
    obtain ⟨hlt, hget⟩ := List.getElem?_eq_some_iff.1 hi
    have hsplit : l = l.take i ++ n :: l.drop (i + 1) := by
      rw [← hget, List.getElem_cons_drop, List.take_append_drop]
    obtain ⟨hp, hx⟩ := h.links _ n _ r hsplit hr
    obtain ⟨ep, ex⟩ := neighbours_of_split (l.take i) (l.drop (i + 1)) n
    rw [List.length_take_of_le (le_of_lt hlt), ← hsplit] at ep ex
    exact ⟨hp.trans ep.symm, hx.trans ex.symm⟩

namespace Store.Members

variable {st u : Store} {k : Nat} {b : Island} {l : List Nat}

/-- Every member is defined. -/
theorem node_of_mem (h : st.Members k b l) {n : Nat} (hn : n ∈ l) :
    ∃ r, st.node n = some r ∧ r.island = some k := Option.bind_eq_some_iff.1 ((h.mem n).1 hn)

theorem eq_nil_iff (h : st.Members k b l) : l = [] ↔ b.memberCount = 0 := by
  rw [← h.count, List.length_eq_zero_iff]

/-- The last member is a member. -/
theorem last_mem (h : st.Members k b l) (h0 : b.memberCount ≠ 0) : b.last ∈ l :=
  List.mem_of_getLast? (h.ends fun he => h0 (h.eq_nil_iff.1 he)).2

/-- A list stands where its members' records stand and no node has come to the island. -/
theorem of_agree (h : st.Members k b l) (hnode : ∀ m ∈ l, u.node m = st.node m)
    (hmem : ∀ m, (u.node m).bind (·.island) = some k → (st.node m).bind (·.island) = some k) : u.Members k b l where
  nodup := h.nodup
  count := h.count
  ends := h.ends
  mem n := ⟨fun hn => by rw [hnode n hn]; exact (h.mem n).1 hn, fun hn => (h.mem n).2 (hmem n hn)⟩
  links a n v r hl hr := h.links a n v r hl (by rw [← hnode n (by simp [hl])]; exact hr)
  sources := by
    rw [h.sources]
    exact congrArg _ (List.filter_congr fun m hm => by simp [Store.onlineAt, hnode m hm])
  loads := by
    rw [h.loads]
    exact congrArg _ (List.filter_congr fun m hm => by simp [Store.loadAt, hnode m hm])

/-- The tables with the same nodes have the same lists. -/
theorem of_nodes (h : st.Members k b l) (hnode : ∀ m, u.node m = st.node m) : u.Members k b l :=
  h.of_agree (fun m _ => hnode m) fun m hm => hnode m ▸ hm

/-- The state and its time are no part of the list. -/
theorem refreshed (h : st.Members k b l) (cause : Nat) : st.Members k (b.refreshed cause) l := by
  rw [Island.refreshed_eq]
  exact ⟨h.nodup, h.count, h.ends, h.mem, h.links, h.sources, h.loads⟩

/-- An island that no node names has the empty list when it is created. -/
theorem created (h : ∀ m, (st.node m).bind (·.island) ≠ some k) (n since : Nat) (feed : Feed) :
    st.Members k
      { feed := feed, memberCount := 0, sourceCount := 0, loadCount := 0, first := n, last := n, since := since }
      [] where
  nodup := .nil
  count := rfl
  ends := fun he => absurd rfl he
  mem m := ⟨fun hm => absurd hm List.not_mem_nil, fun hm => absurd hm (h m)⟩
  links a m v r hl _ := by simp at hl
  sources := rfl
  loads := rfl

/-! ### A node joins at the tail -/

variable {n : Nat} {r : NodeRec}

/-- What joining changes of a node's record beside its place. -/
theorem afterAppend_nature (k n : Nat) (b : Island) (m : Nat) (q : NodeRec) :
    (NodeRec.afterAppend k n b m q).kind = q.kind ∧ (NodeRec.afterAppend k n b m q).initialOnline = q.initialOnline ∧
    (NodeRec.afterAppend k n b m q).online = q.online ∧ (NodeRec.afterAppend k n b m q).incidence = q.incidence := by
  unfold NodeRec.afterAppend
  repeat' split
  all_goals exact ⟨rfl, rfl, rfl, rfl⟩

theorem afterAppend_island (k n : Nat) (b : Island) (m : Nat) (q : NodeRec) :
    (NodeRec.afterAppend k n b m q).island = if m = n then some k else q.island := by
  unfold NodeRec.afterAppend
  repeat' split
  all_goals rfl

theorem onlineAt_append (hn : st.node n = some r) (hk : st.island k = some b) (m : Nat) :
    (st.appendMember k n).onlineAt m = st.onlineAt m := by
  unfold Store.onlineAt
  rw [Store.appendMember_node hn hk]
  cases st.node m <;> simp [afterAppend_nature]

theorem loadAt_append (hn : st.node n = some r) (hk : st.island k = some b) (m : Nat) :
    (st.appendMember k n).loadAt m = st.loadAt m := by
  unfold Store.loadAt
  rw [Store.appendMember_node hn hk]
  cases st.node m <;> simp [afterAppend_nature]

theorem island_append (hn : st.node n = some r) (hk : st.island k = some b) (m : Nat) :
    ((st.appendMember k n).node m).bind (·.island) =
      if m = n then some k else (st.node m).bind (·.island) := by
  rw [Store.appendMember_node hn hk]
  by_cases hm : m = n
  · subst hm; simp [hn, afterAppend_island]
  · cases st.node m <;> simp [afterAppend_island, hm]

theorem filter_singleton_length (p : Nat → Bool) (n : Nat) : ([n].filter p).length = countOf (p n) := by
  cases h : p n <;> simp [h, countOf]

theorem onlineAt_eq (hn : st.node n = some r) : st.onlineAt n = r.isOnline := by
  simp [Store.onlineAt, NodeRec.isOnline, hn, Bool.beq_eq_decide_eq]

theorem loadAt_eq (hn : st.node n = some r) : st.loadAt n = decide (r.kind = .load) := by
  simp [Store.loadAt, hn]

/-- A node of no island joins: it comes to stand at the tail of the list (R39, R50). -/
theorem append (h : st.Members k b l) (hk : st.island k = some b) (hn : st.node n = some r) (hi : r.island = none) :
    (st.appendMember k n).Members k (b.afterAppend n r) (l ++ [n]) := by
  have hnl : n ∉ l := fun hc => by
    have := (h.mem n).1 hc
    simp [hn, hi] at this
  refine ⟨?_, ?_, ?_, ?_, ?_, ?_, ?_⟩
  · exact h.nodup.append (List.nodup_singleton n) (by simpa using hnl)
  · simp [Island.afterAppend, h.count]
  · intro _
    refine ⟨?_, by simp [Island.afterAppend]⟩
    by_cases h0 : b.memberCount = 0
    · simp [Island.afterAppend, h0, h.eq_nil_iff.2 h0]
    · have hne : l ≠ [] := fun he => h0 (h.eq_nil_iff.1 he)
      rw [List.head?_append_of_ne_nil _ hne, (h.ends hne).1]
      simp [Island.afterAppend, h0]
  · intro m
    rw [island_append hn hk]
    by_cases hm : m = n
    · simp [hm]
    · simp [hm, h.mem m]
  · intro u m v q hsplit hq
    rw [Store.appendMember_node hn hk] at hq
    rcases List.eq_nil_or_concat v with rfl | ⟨v, x, rfl⟩
    · obtain ⟨rfl, hm⟩ := List.append_inj' hsplit rfl
      cases hm
      rw [hn] at hq
      cases hq
      by_cases h0 : b.memberCount = 0
      · simp [NodeRec.afterAppend, h0, h.eq_nil_iff.2 h0]
      · have hne : l ≠ [] := fun he => h0 (h.eq_nil_iff.1 he)
        simp [NodeRec.afterAppend, h0, (h.ends hne).2]
    · obtain ⟨hl, hx⟩ := List.append_inj' (t₁ := [n]) (s₂ := u ++ m :: v) (t₂ := [x]) (by simpa using hsplit) rfl
      cases hx
      obtain ⟨q0, hq0, rfl⟩ := Option.map_eq_some_iff.1 hq
      obtain ⟨hp, hnext⟩ := h.links u m v q0 hl hq0
      have hml : m ∈ l := by simp [hl]
      have hmn : m ≠ n := fun he => hnl (he ▸ hml)
      have h0 : b.memberCount ≠ 0 := fun h0 => by rw [h.eq_nil_iff.2 h0] at hml; cases hml
      have hlast := (h.ends (List.ne_nil_of_mem hml)).2
      have hnd : (m :: v).Nodup := (hl ▸ h.nodup).of_append_right
      rcases List.eq_nil_or_concat v with rfl | ⟨v, y, rfl⟩
      · have hb : m = b.last := by simpa [hl] using hlast
        simp only [NodeRec.afterAppend, hmn, if_false]
        rw [if_pos ⟨h0, hb⟩]
        exact ⟨hp, rfl⟩
      · have hy : y = b.last := by simpa [hl, getLast?_cons_concat] using hlast
        have hne : m ≠ b.last := by
          rintro rfl
          simp [hy] at hnd
        simp only [NodeRec.afterAppend, hmn, hne, and_false, if_false]
        refine ⟨hp, hnext.trans ?_⟩
        cases v <;> simp
  · rw [List.filter_congr fun m _ => onlineAt_append hn hk m, List.filter_append, List.length_append,
      filter_singleton_length, onlineAt_eq hn, ← h.sources]
    rfl
  · rw [List.filter_congr fun m _ => loadAt_append hn hk m, List.filter_append, List.length_append,
      filter_singleton_length, loadAt_eq hn, ← h.loads]
    rfl

/-- The lists of the other islands stand when a node of no island joins island `k`. -/
theorem append_other {j : Nat} {c : Island} {lj : List Nat} (hj : st.Members j c lj) (h : st.Members k b l)
    (hjk : j ≠ k) (hk : st.island k = some b) (hn : st.node n = some r) (hi : r.island = none) :
    (st.appendMember k n).Members j c lj := by
  refine hj.of_agree (fun m hm => ?_) fun m hm => ?_
  · have hmj := (hj.mem m).1 hm
    have hmn : m ≠ n := by rintro rfl; simp [hn, hi] at hmj
    have hml : ¬(b.memberCount ≠ 0 ∧ m = b.last) := by
      rintro ⟨h0, rfl⟩
      rw [(h.mem _).1 (h.last_mem h0)] at hmj
      exact hjk (Option.some.inj hmj).symm
    rw [Store.appendMember_node hn hk]
    cases st.node m <;> simp [NodeRec.afterAppend, hmn, hml]
  · rw [island_append hn hk] at hm
    split at hm
    · exact absurd (Option.some.inj hm).symm hjk
    · exact hm

/-! ### A node leaves -/

variable {q : NodeRec}

theorem afterUnlink_nature (n : Nat) (q : NodeRec) (m : Nat) (r : NodeRec) :
    (NodeRec.afterUnlink n q m r).kind = r.kind ∧ (NodeRec.afterUnlink n q m r).initialOnline = r.initialOnline ∧
    (NodeRec.afterUnlink n q m r).online = r.online ∧ (NodeRec.afterUnlink n q m r).incidence = r.incidence := by
  unfold NodeRec.afterUnlink
  split <;> exact ⟨rfl, rfl, rfl, rfl⟩

theorem afterUnlink_island (n : Nat) (q : NodeRec) (m : Nat) (r : NodeRec) :
    (NodeRec.afterUnlink n q m r).island = if m = n then none else r.island := by
  unfold NodeRec.afterUnlink
  split <;> rfl

theorem onlineAt_unlink (hn : st.node n = some q) (hq : q.island = some k) (m : Nat) :
    (st.unlinkMember n).onlineAt m = st.onlineAt m := by
  unfold Store.onlineAt
  rw [Store.unlinkMember_node hn hq]
  cases st.node m <;> simp [afterUnlink_nature]

theorem loadAt_unlink (hn : st.node n = some q) (hq : q.island = some k) (m : Nat) :
    (st.unlinkMember n).loadAt m = st.loadAt m := by
  unfold Store.loadAt
  rw [Store.unlinkMember_node hn hq]
  cases st.node m <;> simp [afterUnlink_nature]

theorem island_unlink (hn : st.node n = some q) (hq : q.island = some k) (m : Nat) :
    ((st.unlinkMember n).node m).bind (·.island) = if m = n then none else (st.node m).bind (·.island) := by
  rw [Store.unlinkMember_node hn hq]
  by_cases hm : m = n
  · subst hm; simp [hn, afterUnlink_island]
  · cases st.node m <;> simp [afterUnlink_island, hm]

/-- A member leaves: the list closes over its place (R39, R55). -/
theorem unlink {a v : List Nat} (h : st.Members k b (a ++ n :: v)) (hn : st.node n = some q) :
    (st.unlinkMember n).Members k (b.afterUnlink q) (a ++ v) := by
  have hq : q.island = some k := by simpa [hn] using (h.mem n).1 (by simp)
  obtain ⟨hqp, hqx⟩ := h.links a n v q rfl hn
  have hnd := h.nodup
  obtain ⟨hda, hdnv, hdis⟩ := List.nodup_append.1 hnd
  obtain ⟨hnv, hdv⟩ := List.nodup_cons.1 hdnv
  have hna : n ∉ a := fun hc => hdis n hc n (by simp) rfl
  obtain ⟨hhead, hlast⟩ := h.ends (by simp)
  refine ⟨?_, ?_, ?_, ?_, ?_, ?_, ?_⟩
  · exact hnd.sublist (List.Sublist.append_left (List.sublist_cons_self ..) _)
  · have := h.count
    simp at this
    simp [Island.afterUnlink, ← this]
  · intro hne
    simp only [Island.afterUnlink, hqp, hqx]
    constructor
    · cases a with
      | nil => cases v <;> simp_all
      | cons x a => simpa using hhead
    · rcases List.eq_nil_or_concat v with rfl | ⟨v, y, rfl⟩
      · rcases List.eq_nil_or_concat a with rfl | ⟨a, x, rfl⟩ <;> simp_all
      · cases v <;> simp_all
  · intro m
    rw [island_unlink hn hq]
    by_cases hm : m = n
    · subst hm; simp [hna, hnv]
    · simpa [hm] using h.mem m
  · intro c m d r' hsplit hr'
    rw [Store.unlinkMember_node hn hq] at hr'
    obtain ⟨r, hr, rfl⟩ := Option.map_eq_some_iff.1 hr'
    have hm : m ∈ a ++ v := by simp [hsplit]
    have hmn : m ≠ n := by rintro rfl; simp [hna, hnv] at hm
    simp only [NodeRec.afterUnlink, hmn, if_false, hqp, hqx]
    rcases List.append_eq_append_iff.1 hsplit with ⟨e, rfl, he⟩ | ⟨e, rfl, he⟩
    · obtain ⟨hp, hx⟩ := h.links (a ++ n :: e) m d r (by simp [he]) hr
      have hma : a.getLast? ≠ some m := fun hc =>
        hdis m (List.mem_of_getLast? hc) m (by simp [he]) rfl
      rw [if_neg hma]
      refine ⟨?_, hx⟩
      rcases List.eq_nil_or_concat e with rfl | ⟨e, y, rfl⟩
      · simp [he]
      · have hmv : v.head? ≠ some m := by
          intro hc
          cases e <;> simp_all
        rw [if_neg hmv, hp]
        simp [getLast?_cons_concat]
    · cases e with
      | nil =>
        obtain ⟨hp, hx⟩ := h.links (c ++ [n]) m d r (by simp_all) hr
        have hv : v = m :: d := by simpa using he.symm
        subst hv
        have hma : (c ++ ([] : List Nat)).getLast? ≠ some m := fun hc =>
          hdis m (List.mem_of_getLast? hc) m (by simp) rfl
        rw [if_neg hma]
        simpa using hx
      | cons x e =>
        obtain ⟨rfl, rfl⟩ : m = x ∧ d = e ++ v := by simpa using he
        obtain ⟨hp, hx⟩ := h.links c m (e ++ n :: v) r (by simp) hr
        have hmv : v.head? ≠ some m := fun hc => hdis m (by simp) m (by simp [List.mem_of_head? hc]) rfl
        rw [if_neg hmv]
        refine ⟨hp, ?_⟩
        rcases List.eq_nil_or_concat e with rfl | ⟨e, y, rfl⟩
        · simp
        · have hme : y ≠ m := by
            rintro rfl
            have := (List.nodup_append.1 hda).2.1
            simp at this
          have hla : (c ++ m :: (e ++ [y])).getLast? ≠ some m := by simpa [getLast?_cons_concat] using hme
          rw [if_neg (by simpa using hla), hx]
          cases e <;> simp
  · rw [List.filter_congr fun m _ => onlineAt_unlink hn hq m]
    simp only [Island.afterUnlink, h.sources, ← onlineAt_eq hn]
    simp only [List.filter_append, List.filter_cons, List.length_append]
    cases st.onlineAt n <;> simp [countOf]
  · rw [List.filter_congr fun m _ => loadAt_unlink hn hq m]
    simp only [Island.afterUnlink, h.loads, ← loadAt_eq hn]
    simp only [List.filter_append, List.filter_cons, List.length_append]
    cases st.loadAt n <;> simp [countOf]

/-- The lists of the other islands stand when a node leaves island `k`. -/
theorem unlink_other {j : Nat} {c : Island} {lj a v : List Nat} (hj : st.Members j c lj)
    (h : st.Members k b (a ++ n :: v)) (hjk : j ≠ k) (hn : st.node n = some q) :
    (st.unlinkMember n).Members j c lj := by
  have hq : q.island = some k := by simpa [hn] using (h.mem n).1 (by simp)
  obtain ⟨hqp, hqx⟩ := h.links a n v q rfl hn
  have away : ∀ m ∈ lj, m ∉ a ++ n :: v := fun m hm hc =>
    hjk (Option.some.inj (((hj.mem m).1 hm).symm.trans ((h.mem m).1 hc)))
  refine hj.of_agree (fun m hm => ?_) fun m hm => ?_
  · have hma := away m hm
    have hmn : m ≠ n := by rintro rfl; simp at hma
    have hmp : q.prev ≠ some m := fun hc => hma (by simp [List.mem_of_getLast? (hqp ▸ hc)])
    have hmx : q.next ≠ some m := fun hc => hma (by simp [List.mem_of_head? (hqx ▸ hc)])
    rw [Store.unlinkMember_node hn hq]
    cases st.node m <;> simp [NodeRec.afterUnlink, hmn, hmp, hmx]
  · rw [island_unlink hn hq] at hm
    split at hm
    · cases hm
    · exact hm

end Store.Members

end Sys2Proof.Machine
end

section
/-! SUPPORT. Every island has its member list: what the moves of the resolver and a SOURCE job keep (R39, R50, R55,
R57). -/

namespace Sys2Proof.Machine

/-- The tables are canonical, every existing island lists its members, every node's island exists, and a node of no
island has no links. -/
structure Store.Listed (st : Store) : Prop where
  canonical : st.canonical = true
  lists : ∀ k b, st.island k = some b → ∃ l, st.Members k b l
  home : ∀ n k, (st.node n).bind (·.island) = some k → (st.island k).isSome = true
  stray : ∀ n r, st.node n = some r → r.island = none → r.prev = none ∧ r.next = none

/-- Island `k`, where it exists, has a member (R41). -/
def Store.FullAt (st : Store) (k : Nat) : Prop := ∀ b, st.island k = some b → b.memberCount ≠ 0

/-- Every defined node belongs to an island (R12). -/
def Store.Placed (st : Store) : Prop := ∀ n r, st.node n = some r → r.island.isSome = true

/-- `u` defines the nodes that `st` defines, alike but for their places in the islands. -/
def Store.SameNodes (st u : Store) : Prop := ∀ n, (u.node n).map (·.definition) = (st.node n).map (·.definition)

theorem Store.SameNodes.trans {st u v : Store} (h : st.SameNodes u) (k : u.SameNodes v) : st.SameNodes v :=
  fun n => (k n).trans (h n)

theorem Store.SameNodes.of_node {st u : Store} (h : ∀ n, u.node n = st.node n) : st.SameNodes u := fun n => by rw [h n]

theorem Store.SameNodes.append (st : Store) (k n : Nat) : st.SameNodes (st.appendMember k n) := by
  intro m
  cases hn : st.node n with
  | none => simp [Store.appendMember, hn]
  | some r =>
    cases hk : st.island k with
    | none => simp [Store.appendMember, hn, hk]
    | some b =>
      rw [Store.appendMember_node hn hk]
      cases st.node m <;> simp [NodeRec.definition, Store.Members.afterAppend_nature]

theorem Store.SameNodes.unlink {st : Store} {n k : Nat} {q : NodeRec} (hn : st.node n = some q)
    (hq : q.island = some k) : st.SameNodes (st.unlinkMember n) := by
  intro m
  rw [Store.unlinkMember_node hn hq]
  cases st.node m <;> simp [NodeRec.definition, Store.Members.afterUnlink_nature]

namespace Store.Listed

variable {st : Store} {k n : Nat} {b : Island} {r q : NodeRec}

/-- The same nodes, and islands whose lists stand. -/
theorem of_nodes {u : Store} (h : st.Listed) (hc : u.canonical = true) (hnode : ∀ m, u.node m = st.node m)
    (hlists : ∀ j c, u.island j = some c → ∃ l, st.Members j c l)
    (hhome : ∀ m j, (st.node m).bind (·.island) = some j → (st.island j).isSome = true → (u.island j).isSome = true) :
    u.Listed where
  canonical := hc
  lists j c hj := (hlists j c hj).imp fun _ hl => hl.of_nodes hnode
  home m j hm := by rw [hnode m] at hm; exact hhome m j hm (h.home m j hm)
  stray m r hm hr := h.stray m r (hnode m ▸ hm) hr

theorem refreshFeed (h : st.Listed) (k cause : Nat) : (st.refreshFeed k cause).Listed := by
  refine h.of_nodes (Store.refreshFeed_canonical h.canonical k cause) (fun m => by simp) (fun j c hj => ?_)
    fun m j _ hj => ?_ <;> rw [Store.refreshFeed_island h.canonical] at *
  · split at hj
    · rename_i hjk
      obtain ⟨b, hb, rfl⟩ := Option.map_eq_some_iff.1 hj
      exact hjk ▸ (h.lists k b hb).imp fun _ hl => hl.refreshed cause
    · exact h.lists j c hj
  · split
    · rename_i hjk; subst hjk; simpa using hj
    · exact hj

/-- An island that no node names may be created: its list is empty (R55). -/
theorem createIsland (h : st.Listed) (hk : k < Config.islandCapacity) (hfree : st.island k = none) (n since : Nat) :
    (st.createIsland k n since).Listed := by
  have hno : ∀ m, (st.node m).bind (·.island) ≠ some k := fun m hm => by
    have := h.home m k hm
    rw [hfree] at this
    cases this
  refine h.of_nodes (Store.createIsland_canonical h.canonical n since hk) (fun m => by simp) (fun j c hj => ?_)
    fun m j _ hj => ?_ <;> rw [Store.createIsland_island h.canonical] at *
  · split at hj
    · rename_i hjk
      cases hj
      exact ⟨[], hjk ▸ Store.Members.created hno n since .dead⟩
    · exact h.lists j c hj
  · split
    · rfl
    · exact hj

theorem retireIfEmpty (h : st.Listed) (k : Nat) : (st.retireIfEmpty k).Listed := by
  refine h.of_nodes (Store.retireIfEmpty_canonical h.canonical k) (fun m => by simp) (fun j c hj => ?_)
    fun m j hm hj => ?_ <;> rw [Store.retireIfEmpty_island h.canonical] at *
  · split at hj
    · rename_i hjk
      exact hjk ▸ h.lists k c (Option.filter_eq_some_iff.1 hj).1
    · exact h.lists j c hj
  · split
    · rename_i hjk
      subst hjk
      obtain ⟨b, hb⟩ := Option.isSome_iff_exists.1 hj
      obtain ⟨l, hl⟩ := h.lists j b hb
      have h0 : b.memberCount ≠ 0 := fun h0 => by
        have := (hl.mem m).2 hm
        rw [hl.eq_nil_iff.2 h0] at this
        cases this
      simp [hb, Option.filter, h0]
    · exact hj

/-- A node of no island joins an existing one. -/
theorem append (h : st.Listed) (hk : st.island k = some b) (hn : st.node n = some r) (hi : r.island = none) :
    (st.appendMember k n).Listed := by
  obtain ⟨l, hl⟩ := h.lists k b hk
  refine ⟨Store.appendMember_canonical h.canonical k n, fun j c hj => ?_, fun m j hm => ?_, fun m r' hm hr' => ?_⟩
  · rw [Store.appendMember_island h.canonical hn hk] at hj
    split at hj
    · rename_i hjk
      subst hjk
      cases hj
      exact ⟨_, hl.append hk hn hi⟩
    · rename_i hjk
      exact (h.lists j c hj).imp fun _ hlj => hlj.append_other hl hjk hk hn hi
  · rw [Store.Members.island_append hn hk] at hm
    rw [Store.appendMember_island h.canonical hn hk]
    split
    · rfl
    · rename_i hjk
      split at hm
      · exact absurd (Option.some.inj hm).symm hjk
      · exact h.home m j hm
  · rw [Store.appendMember_node hn hk] at hm
    obtain ⟨q, hq, rfl⟩ := Option.map_eq_some_iff.1 hm
    rw [Store.Members.afterAppend_island] at hr'
    split at hr'
    · cases hr'
    · rename_i hmn
      have hlast : ¬(b.memberCount ≠ 0 ∧ m = b.last) := by
        rintro ⟨h0, rfl⟩
        have := (hl.mem _).1 (hl.last_mem h0)
        simp [hq, hr'] at this
      rw [NodeRec.afterAppend, if_neg hmn, if_neg hlast]
      exact h.stray m q hq hr'

/-- A member leaves its island. -/
theorem unlink (h : st.Listed) (hn : st.node n = some q) (hq : q.island = some k) : (st.unlinkMember n).Listed := by
  obtain ⟨b, hb⟩ := Option.isSome_iff_exists.1 (h.home n k (by simp [hn, hq]))
  obtain ⟨l, hl⟩ := h.lists k b hb
  obtain ⟨a, v, rfl⟩ := List.append_of_mem ((hl.mem n).2 (by simp [hn, hq]))
  refine ⟨Store.unlinkMember_canonical h.canonical n, fun j c hj => ?_, fun m j hm => ?_, fun m r' hm hr' => ?_⟩
  · rw [Store.unlinkMember_island h.canonical hn hq] at hj
    split at hj
    · rename_i hjk
      rw [hb] at hj
      cases hj
      exact ⟨_, hjk ▸ hl.unlink hn⟩
    · rename_i hjk
      exact (h.lists j c hj).imp fun _ hlj => hlj.unlink_other hl hjk hn
  · rw [Store.Members.island_unlink hn hq] at hm
    rw [Store.unlinkMember_island h.canonical hn hq]
    split at hm
    · cases hm
    · have := h.home m j hm
      split
      · rename_i hjk; subst hjk; simpa using this
      · exact this
  · rw [Store.unlinkMember_node hn hq] at hm
    obtain ⟨p, hp, rfl⟩ := Option.map_eq_some_iff.1 hm
    rw [Store.Members.afterUnlink_island] at hr'
    by_cases hmn : m = n
    · simp [NodeRec.afterUnlink, hmn]
    · rw [if_neg hmn] at hr'
      obtain ⟨hqp, hqx⟩ := hl.links a n v q rfl hn
      have away : m ∉ a ++ n :: v := fun hc => by
        have := (hl.mem m).1 hc
        simp [hp, hr'] at this
      have hmp : q.prev ≠ some m := fun hc => away (by simp [List.mem_of_getLast? (hqp ▸ hc)])
      have hmx : q.next ≠ some m := fun hc => away (by simp [List.mem_of_head? (hqx ▸ hc)])
      simpa [NodeRec.afterUnlink, hmn, hmp, hmx] using h.stray m p hp hr'

end Store.Listed

/-! ### A node moves from island to island (R50, R55) -/

/-- What a move does: nothing but retiring an empty destination, or the node leaves, joins at the tail, both states are
recomputed, and an island left empty retires. -/
theorem Store.moveNode_cases {st : Store} (h : st.Listed) (n dst cause : Nat) :
    st.moveNode n dst cause = st.retireIfEmpty dst ∨
    ∃ q r src b c, st.node n = some q ∧ q.island = some src ∧ st.island dst = some b ∧
      (st.unlinkMember n).Listed ∧ (st.unlinkMember n).node n = some r ∧ r.island = none ∧
      (st.unlinkMember n).island dst = some c ∧
      st.moveNode n dst cause =
        ((((st.unlinkMember n).appendMember dst n).refreshFeed src cause).refreshFeed dst cause).retireIfEmpty src := by
  unfold Store.moveNode
  split
  · rename_i src b hs hb
    obtain ⟨q, hn, hq⟩ := Option.bind_eq_some_iff.1 hs
    have hn' := Store.unlinkMember_node hn hq n
    rw [hn] at hn'
    have hd : ((st.unlinkMember n).island dst).isSome = true := by
      rw [Store.unlinkMember_island h.canonical hn hq]
      split
      · rename_i hds; simp [← hds, hb]
      · simp [hb]
    obtain ⟨c, hc⟩ := Option.isSome_iff_exists.1 hd
    exact .inr ⟨q, _, src, b, c, hn, hq, hb, h.unlink hn hq, hn', by simp [Store.Members.afterUnlink_island], hc, rfl⟩
  · exact .inl rfl

theorem Store.Listed.moveNode {st : Store} (h : st.Listed) (n dst cause : Nat) : (st.moveNode n dst cause).Listed := by
  obtain e | ⟨q, r, src, b, c, hn, hq, hb, hu, hn', hr, hc, e⟩ := Store.moveNode_cases h n dst cause <;> rw [e]
  · exact h.retireIfEmpty dst
  · exact (((hu.append hc hn' hr).refreshFeed src cause).refreshFeed dst cause).retireIfEmpty src

theorem Store.refreshFeed_fullAt {st : Store} (h : st.canonical = true) (k cause : Nat) {j : Nat} (hf : st.FullAt j) :
    (st.refreshFeed k cause).FullAt j := by
  intro b hb
  rw [Store.refreshFeed_island h] at hb
  split at hb
  · rename_i hjk
    obtain ⟨c, hc, rfl⟩ := Option.map_eq_some_iff.1 hb
    rw [Island.refreshed_eq]
    exact hf c (hjk ▸ hc)
  · exact hf b hb

/-- Retiring an empty island leaves no empty one where there was none but it. -/
theorem Store.retireIfEmpty_fullAt {st : Store} (h : st.canonical = true) (k : Nat) {j : Nat}
    (hf : j ≠ k → st.FullAt j) : (st.retireIfEmpty k).FullAt j := by
  intro b hb
  rw [Store.retireIfEmpty_island h] at hb
  split at hb
  · simpa using (Option.filter_eq_some_iff.1 hb).2
  · rename_i hjk; exact hf hjk b hb

/-- After a move no island is empty, where before none was but the destination (R41). -/
theorem Store.moveNode_fullAt {st : Store} (h : st.Listed) (n dst cause : Nat) (hf : ∀ j, j ≠ dst → st.FullAt j)
    (j : Nat) : (st.moveNode n dst cause).FullAt j := by
  obtain e | ⟨q, r, src, b, c, hn, hq, hb, hu, hn', hr, hc, e⟩ := Store.moveNode_cases h n dst cause <;> rw [e]
  · exact Store.retireIfEmpty_fullAt h.canonical dst (hf j)
  · have ha := hu.append hc hn' hr
    have h1 := ha.refreshFeed src cause
    have h2 := h1.refreshFeed dst cause
    refine Store.retireIfEmpty_fullAt h2.canonical src fun hjs =>
      Store.refreshFeed_fullAt h1.canonical dst cause (Store.refreshFeed_fullAt ha.canonical src cause ?_)
    intro d hd
    rw [Store.appendMember_island hu.canonical hn' hc] at hd
    split at hd
    · cases hd; simp [Island.afterAppend]
    · rename_i hjd
      rw [Store.unlinkMember_island h.canonical hn hq, if_neg hjs] at hd
      exact hf j hjd d hd

/-- A move changes no node but in its place. -/
theorem Store.moveNode_sameNodes {st : Store} (h : st.Listed) (n dst cause : Nat) :
    st.SameNodes (st.moveNode n dst cause) := by
  obtain e | ⟨q, r, src, b, c, hn, hq, hb, hu, hn', hr, hc, e⟩ := Store.moveNode_cases h n dst cause <;> rw [e]
  · exact .of_node fun m => by simp
  · exact ((Store.SameNodes.unlink hn hq).trans (.append _ dst n)).trans (.of_node fun m => by simp)

/-- A node that moves has an island again, and the others keep theirs. -/
theorem Store.moveNode_placed {st : Store} (h : st.Listed) (n dst cause : Nat) (hp : st.Placed) :
    (st.moveNode n dst cause).Placed := by
  obtain e | ⟨q, r, src, b, c, hn, hq, hb, hu, hn', hr, hc, e⟩ := Store.moveNode_cases h n dst cause <;> rw [e]
  · intro m p hm
    exact hp m p (by simpa using hm)
  · intro m p hm
    simp only [Store.retireIfEmpty_node, Store.refreshFeed_node] at hm
    have hi := Store.Members.island_append hn' hc m
    rw [hm, Store.Members.island_unlink hn hq] at hi
    by_cases hmn : m = n
    · rw [if_pos hmn] at hi
      rw [show p.island = some dst from hi]
      rfl
    · rw [if_neg hmn, if_neg hmn] at hi
      cases hp0 : st.node m with
      | none =>
        have := Store.moveNode_sameNodes h n dst cause m
        rw [e] at this
        simp [hm, hp0] at this
      | some p0 =>
        rw [hp0] at hi
        rw [show p.island = p0.island from hi]
        exact hp m p0 hp0

/-! ### A source changes (R57) -/

/-- The fields of an island whose member has become online or not (R57). -/
def Island.withOnline (v : Bool) (b : Island) : Island :=
  { b with sourceCount := if v then b.sourceCount + 1 else b.sourceCount - 1 }

theorem Store.setOnline_eq (n k : Nat) (v : Bool) (cause : Nat) (st : Store) :
    st.setOnline n k v cause =
      ((st.modifyNode n fun r => { r with online := some v }).modifyIsland k (Island.withOnline v)).refreshFeed k
        cause :=
  rfl

/-- A list stands, but for the online-source count, when a node's online value changes. -/
theorem Store.Members.online {st : Store} {k j n : Nat} {b : Island} {l : List Nat} {r : NodeRec} {v : Bool}
    (h : st.Members j b l) (hn : st.node n = some r) (hi : r.island = some k) (hv : r.online = some (!v)) :
    (st.modifyNode n fun r => { r with online := some v }).Members j (if j = k then b.withOnline v else b) l := by
  have hb : ∀ (f : Island → Nat), (f b = f (b.withOnline v)) → f (if j = k then b.withOnline v else b) = f b :=
    fun f hf => by split <;> simp [hf]
  have hnode := Store.modifyNode_node st n (f := fun r => { r with online := some v })
  have hon : ∀ m, (st.modifyNode n fun r => { r with online := some v }).onlineAt m =
      if m = n then v else st.onlineAt m := by
    intro m
    unfold Store.onlineAt
    rw [hnode]
    by_cases hm : m = n
    · subst hm; simp [hn]
    · cases st.node m <;> simp [hm]
  have hold : st.onlineAt n = !v := by simp [Store.onlineAt, hn, hv]
  refine ⟨h.nodup, ?_, ?_, ?_, ?_, ?_, ?_⟩
  · rw [h.count, hb (·.memberCount) rfl]
  · intro hne
    rw [hb (·.first) rfl, hb (·.last) rfl]
    exact h.ends hne
  · intro m
    rw [h.mem m, hnode]
    cases st.node m with
    | none => rfl
    | some p => by_cases hm : m = n <;> simp [hm]
  · intro a m c p hl hp
    rw [hnode] at hp
    obtain ⟨p0, hp0, rfl⟩ := Option.map_eq_some_iff.1 hp
    have := h.links a m c p0 hl hp0
    split <;> exact this
  · by_cases hjk : j = k
    · obtain ⟨a, c, rfl⟩ := List.append_of_mem ((h.mem n).2 (by simp [hn, hi, hjk]))
      obtain ⟨-, hd, hdis⟩ := List.nodup_append.1 h.nodup
      have hc : n ∉ c := (List.nodup_cons.1 hd).1
      have ha : n ∉ a := fun hc => hdis n hc n (by simp) rfl
      have part : ∀ l : List Nat, n ∉ l →
          l.filter (st.modifyNode n fun r => { r with online := some v }).onlineAt = l.filter st.onlineAt :=
        fun l hnl => List.filter_congr fun m hm => by
          rw [hon, if_neg]; rintro rfl; exact hnl hm
      have hs := h.sources
      rw [if_pos hjk]
      simp only [List.filter_append, List.filter_cons, part a ha, part c hc, hon n, if_true, List.length_append, hold,
        Island.withOnline] at hs ⊢
      cases v <;> simp at hs ⊢ <;> omega
    · rw [if_neg hjk, h.sources]
      refine congrArg _ (List.filter_congr fun m hm => ?_)
      rw [hon, if_neg]
      rintro rfl
      have := (h.mem m).1 hm
      simp [hn, hi] at this
      exact hjk this.symm
  · rw [hb (·.loadCount) rfl, h.loads]
    refine congrArg _ (List.filter_congr fun m _ => ?_)
    unfold Store.loadAt
    rw [hnode]
    cases st.node m with
    | none => rfl
    | some p => by_cases hm : m = n <;> simp [hm]

theorem Store.setOnline_node (st : Store) (n k : Nat) (v : Bool) (cause m : Nat) :
    (st.setOnline n k v cause).node m = (st.node m).map fun r => if m = n then { r with online := some v } else r := by
  rw [Store.setOnline_eq, Store.refreshFeed_node, Store.modifyIsland_node, Store.modifyNode_node]

/-- The claim of a SOURCE job keeps the lists: the online-source count follows the node (R57). -/
theorem Store.Listed.setOnline {st : Store} (h : st.Listed) {n k : Nat} {r : NodeRec} {v : Bool} (cause : Nat)
    (hn : st.node n = some r) (hi : r.island = some k) (hv : r.online = some (!v)) :
    (st.setOnline n k v cause).Listed := by
  have hc := Store.modifyNode_canonical h.canonical n fun r => { r with online := some v }
  rw [Store.setOnline_eq]
  refine Store.Listed.refreshFeed ⟨Store.modifyIsland_canonical hc _ _, fun j c hj => ?_, fun m j hm => ?_,
    fun m p hm hp => ?_⟩ k cause
  · rw [Store.modifyIsland_island hc, Store.modifyNode_island, Store.modifyNode_island] at hj
    have hb : ∃ b, st.island j = some b ∧ c = if j = k then b.withOnline v else b := by
      split at hj
      · rename_i hjk
        obtain ⟨b, hb, rfl⟩ := Option.map_eq_some_iff.1 hj
        exact ⟨b, hjk ▸ hb, by rw [if_pos hjk]⟩
      · rename_i hjk
        exact ⟨c, hj, by rw [if_neg hjk]⟩
    obtain ⟨b, hb, rfl⟩ := hb
    obtain ⟨l, hl⟩ := h.lists j b hb
    exact ⟨l, (hl.online hn hi hv).of_nodes fun m => by simp⟩
  · have hm' : (st.node m).bind (·.island) = some j := by
      rw [Store.modifyIsland_node, Store.modifyNode_node] at hm
      cases hs : st.node m with
      | none => simp [hs] at hm
      | some p =>
        rw [hs] at hm
        by_cases hmn : m = n <;> simpa [hmn] using hm
    rw [Store.modifyIsland_island hc, Store.modifyNode_island, Store.modifyNode_island]
    have := h.home m j hm'
    split
    · rename_i hjk; subst hjk; simpa using this
    · exact this
  · rw [Store.modifyIsland_node, Store.modifyNode_node] at hm
    obtain ⟨p0, hp0, rfl⟩ := Option.map_eq_some_iff.1 hm
    have := h.stray m p0 hp0 (by split at hp <;> exact hp)
    split <;> exact this

theorem Store.setOnline_fullAt {st : Store} (h : st.canonical = true) (n k : Nat) (v : Bool) (cause : Nat) {j : Nat}
    (hf : st.FullAt j) : (st.setOnline n k v cause).FullAt j := by
  have hc := Store.modifyNode_canonical h n fun r => { r with online := some v }
  rw [Store.setOnline_eq]
  refine Store.refreshFeed_fullAt (Store.modifyIsland_canonical hc _ _) k cause fun b hb => ?_
  rw [Store.modifyIsland_island hc, Store.modifyNode_island, Store.modifyNode_island] at hb
  split at hb
  · rename_i hjk
    obtain ⟨c, hc, rfl⟩ := Option.map_eq_some_iff.1 hb
    exact hf c (hjk ▸ hc)
  · exact hf b hb

end Sys2Proof.Machine
end

section
/-! SUPPORT. The labelling (R12, R13): what the search of one island reaches, and the tables after each island and at
the end. -/

namespace Sys2Proof.Machine

/-! ### What a search reaches -/

/-- Node `m` is defined and in no island before island `j`: the search of island `j` may reach it. -/
def Store.openTo (st : Store) (j m : Nat) : Bool := (st.node m).any fun r => r.island.all fun i => decide (j ≤ i)

/-- What the visit of `n` along the switches `sws` adds to the nodes `seen` in the search of island `j` (R12). -/
def Store.freshEnds (st : Store) (j n : Nat) (sws seen : List Nat) : List Nat :=
  ((st.closedEnds n sws).filter fun m => st.openTo j m && decide (m ∉ seen)).eraseDups

/-- What the search of island `j` has reached from `start` when it has visited the nodes `visited` in order. -/
def Store.reach (st : Store) (j : Nat) (visited start : List Nat) : List Nat :=
  visited.foldl (fun reached n => reached ++ st.freshEnds j n (st.incidenceOf n) reached) start

/-- A visit of `a` finds `b` at the far end of an effectively CLOSED switch (R12). -/
def Store.Leads (st : Store) (a b : Nat) : Prop := b ∈ st.closedEnds a (st.incidenceOf a)

theorem Store.openTo_iff (st : Store) (j m : Nat) :
    st.openTo j m = true ↔ ∃ r, st.node m = some r ∧ ∀ i, r.island = some i → j ≤ i := by
  unfold Store.openTo
  cases st.node m with
  | none => simp
  | some r => cases hi : r.island <;> simp [hi]

theorem Store.mem_freshEnds {st : Store} {j n m : Nat} {sws seen : List Nat} :
    m ∈ st.freshEnds j n sws seen ↔ m ∈ st.closedEnds n sws ∧ st.openTo j m = true ∧ m ∉ seen := by
  simp [Store.freshEnds, List.mem_eraseDups]

theorem Store.reach_append (st : Store) (j n : Nat) (visited start : List Nat) :
    st.reach j (visited ++ [n]) start =
      st.reach j visited start ++ st.freshEnds j n (st.incidenceOf n) (st.reach j visited start) := by
  simp [Store.reach, List.foldl_append]

/-- A search reaches what it starts from first. -/
theorem Store.prefix_reach (st : Store) (j : Nat) (visited start : List Nat) : start <+: st.reach j visited start := by
  induction visited using List.reverseRecOn with
  | nil => exact List.prefix_refl start
  | append_singleton visited n ih => rw [Store.reach_append]; exact ih.trans (List.prefix_append ..)

theorem Store.incidenceOf_eq (st : Store) (n : Nat) :
    st.incidenceOf n = (((st.node n).map (·.definition)).map fun d => d.2.2.2).getD [] := by
  unfold Store.incidenceOf
  cases st.node n <;> rfl

theorem Store.SameNodes.incidenceOf {st u : Store} (h : st.SameNodes u) (n : Nat) :
    u.incidenceOf n = st.incidenceOf n := by rw [Store.incidenceOf_eq, Store.incidenceOf_eq, h n]

theorem Store.SameNodes.isSome {st u : Store} (h : st.SameNodes u) (n : Nat) :
    (u.node n).isSome = (st.node n).isSome := by simpa using congrArg Option.isSome (h n)

theorem Store.closedEnds_congr {st u : Store} (h : u.switches = st.switches) (n : Nat) (sws : List Nat) :
    u.closedEnds n sws = st.closedEnds n sws := by
  unfold Store.closedEnds Store.switch
  rw [h]

/-- The search of an island reads the same in tables with the same switches and incidence lists, in which the same
nodes are open to it. -/
theorem Store.reach_congr {st u : Store} {j : Nat} (hs : u.switches = st.switches) (hn : st.SameNodes u)
    (ho : ∀ m, u.openTo j m = st.openTo j m) (visited start : List Nat) :
    u.reach j visited start = st.reach j visited start := by
  unfold Store.reach Store.freshEnds
  simp only [Store.closedEnds_congr hs, hn.incidenceOf, ho]

theorem Store.leads_congr {st u : Store} (hs : u.switches = st.switches) (hn : st.SameNodes u) :
    u.Leads = st.Leads := by
  funext a b
  unfold Store.Leads
  rw [Store.closedEnds_congr hs, hn.incidenceOf]

/-! ### The first node of an island (R12 step 2) -/

/-- Node `m` is defined and in no island. -/
def Store.Unlabelled (st : Store) (m : Nat) : Prop := ∃ r, st.node m = some r ∧ r.island = none

theorem Store.firstUnlabelled_unlabelled {st : Store} (h : st.canonical = true) {n : Nat}
    (hn : st.firstUnlabelled = some n) : st.Unlabelled n := by
  obtain ⟨r, hr, hi⟩ := Store.firstUnlabelled_some hn
  exact ⟨r, Tab.get_of_mem (Store.nodes_rising h) hr, hi⟩

/-- The search of an island starts from the lowest node of no island. -/
theorem Store.firstUnlabelled_le {st : Store} (h : st.canonical = true) {n m : Nat} (hn : st.firstUnlabelled = some n)
    (hm : st.Unlabelled m) : n ≤ m := by
  obtain ⟨r, hr, hi⟩ := hm
  obtain ⟨⟨i, q⟩, hp, rfl⟩ := Option.map_eq_some_iff.1 hn
  obtain ⟨-, before, after, hsplit, hb⟩ := List.find?_eq_some_iff_append.1 hp
  have hmem : (m, r) ∈ st.nodes := Tab.mem_of_get hr
  rw [hsplit] at hmem
  rcases List.mem_append.1 hmem with hmem | hmem
  · have := hb _ hmem
    simp [hi] at this
  · rcases List.mem_cons.1 hmem with he | hmem
    · cases he; exact le_refl _
    · have hr := (Tab.rising_iff _).1 (Store.nodes_rising h)
      rw [hsplit] at hr
      exact le_of_lt (List.rel_of_pairwise_cons (List.pairwise_append.1 hr).2.1 hmem)

theorem Store.firstUnlabelled_none {st : Store} (hn : st.firstUnlabelled = none) (m : Nat) : ¬st.Unlabelled m := by
  rintro ⟨r, hr, hi⟩
  have := List.find?_eq_none.1 (Option.map_eq_none_iff.1 hn) (m, r) (Tab.mem_of_get hr)
  simp [hi] at this

/-- Distinct defined nodes are no more than the table lists. -/
theorem Store.length_le_nodes {st : Store} {l : List Nat} (hnd : l.Nodup) (hd : ∀ m ∈ l, (st.node m).isSome = true) :
    l.length ≤ st.nodes.length := by
  have hsub : l ⊆ st.nodes.map (·.1) := fun m hm => by
    obtain ⟨r, hr⟩ := Option.isSome_iff_exists.1 (hd m hm)
    exact List.mem_map.2 ⟨(m, r), Tab.mem_of_get hr, rfl⟩
  simpa using (hnd.subperm hsub).length_le

/-! ### The search of one island -/

/-- From the tables `U`, in which island `k` is about to be created, the labelling of that island has come to `w`: the
island lists the nodes `l`, which were in no island, and all else stands. -/
structure Store.Grown (U : Store) (k now : Nat) (w : Store) (l : List Nat) : Prop where
  canonical : w.canonical = true
  body : ∃ b, w.island k = some b ∧ w.Members k b l ∧ b.since = now
  other : ∀ j, j ≠ k → w.island j = U.island j
  generation : ∀ j, (w.islandRec j).generation = (U.islandRec j).generation
  switches : w.switches = U.switches
  same : U.SameNodes w
  outside : ∀ m, m ∉ l → w.node m = U.node m
  inside : ∀ m ∈ l, U.Unlabelled m

namespace Store.Grown

variable {U w : Store} {k now : Nat} {l : List Nat}

/-- A node that a visit finds in no island is one that is open to the search and not reached. -/
theorem unlabelled_iff (h : U.Grown k now w l) (hU : ∀ m i, (U.node m).bind (·.island) = some i → i < k) (m : Nat) :
    w.Unlabelled m ↔ (U.openTo k m && decide (m ∉ l)) = true := by
  obtain ⟨b, hb, hl, -⟩ := h.body
  by_cases hm : m ∈ l
  · obtain ⟨q, hq, hi⟩ := hl.node_of_mem hm
    simp [Store.Unlabelled, hq, hi, hm]
  · rw [Store.Unlabelled, h.outside m hm]
    simp only [Store.openTo, hm, not_false_eq_true, decide_true, Bool.and_true]
    cases hq : U.node m with
    | none => simp
    | some q =>
      cases hi : q.island with
      | none => simp [hi]
      | some i =>
        have := hU m i (by simp [hq, hi])
        simp [hi, this]

theorem append (h : U.Grown k now w l) {m : Nat} (hm : w.Unlabelled m) :
    U.Grown k now (w.appendMember k m) (l ++ [m]) := by
  obtain ⟨b, hb, hl, hs⟩ := h.body
  obtain ⟨q, hq, hi⟩ := hm
  have hml : m ∉ l := fun hc => by
    obtain ⟨p, hp, hpi⟩ := hl.node_of_mem hc
    rw [hq] at hp
    cases hp
    rw [hi] at hpi
    cases hpi
  have hU : U.node m = some q := (h.outside m hml).symm.trans hq
  refine ⟨Store.appendMember_canonical h.canonical k m, ⟨b.afterAppend m q, ?_, hl.append hb hq hi, hs⟩,
    fun j hj => ?_, fun j => ?_, ?_, ?_, fun x hx => ?_, fun x hx => ?_⟩
  · rw [Store.appendMember_island h.canonical hq hb, if_pos rfl]
  · rw [Store.appendMember_island_other h.canonical m hj, h.other j hj]
  · rw [Store.appendMember_generation h.canonical, h.generation]
  · rw [Store.appendMember_switches, h.switches]
  · exact h.same.trans (.append w k m)
  · rw [List.mem_append, not_or, List.mem_singleton] at hx
    rw [← h.outside x hx.1, Store.appendMember_node hq hb]
    have hlast : ¬(b.memberCount ≠ 0 ∧ x = b.last) := by
      rintro ⟨h0, rfl⟩
      exact hx.1 (hl.last_mem h0)
    cases w.node x <;> simp [NodeRec.afterAppend, hx.2, hlast]
  · rcases List.mem_append.1 hx with hx | hx
    · exact h.inside x hx
    · rw [List.mem_singleton.1 hx]; exact ⟨q, hU, hi⟩

/-- A visit adds the far ends that are open and not yet reached, each once, in the order of the switches (R12 step
4). -/
theorem visit (hU : ∀ m i, (U.node m).bind (·.island) = some i → i < k) (n : Nat) (sws : List Nat) :
    ∀ {w : Store} {l : List Nat} (queue : List Nat), U.Grown k now w l →
      (Store.labelVisit k n sws queue w).1 = queue ++ U.freshEnds k n sws l ∧
      U.Grown k now (Store.labelVisit k n sws queue w).2 (l ++ U.freshEnds k n sws l) := by
  induction sws with
  | nil => intro w l queue h; simpa [Store.labelVisit, Store.freshEnds, Store.closedEnds] using h
  | cons sw rest ih =>
    intro w l queue h
    have skip : U.freshEnds k n (sw :: rest) l = U.freshEnds k n rest l →
        (Store.labelVisit k n rest queue w).1 = queue ++ U.freshEnds k n (sw :: rest) l ∧
        U.Grown k now (Store.labelVisit k n rest queue w).2 (l ++ U.freshEnds k n (sw :: rest) l) :=
      fun he => he ▸ ih queue h
    have hsw : w.switch sw = U.switch sw := by unfold Store.switch; rw [h.switches]
    simp only [Store.labelVisit, hsw]
    split
    · rename_i x hx
      split
      · rename_i hclosed
        have hends : U.closedEnds n (sw :: rest) = x.farEnd n :: U.closedEnds n rest := by
          simp [Store.closedEnds, hx, hclosed]
        by_cases hf : w.Unlabelled (x.farEnd n)
        · have hopen := (h.unlabelled_iff hU _).1 hf
          have hfresh : U.freshEnds k n (sw :: rest) l =
              x.farEnd n :: U.freshEnds k n rest (l ++ [x.farEnd n]) := by
            rw [Store.freshEnds, hends, List.filter_cons_of_pos (p := fun m => U.openTo k m && decide (m ∉ l)) hopen,
              List.eraseDups_cons, Store.freshEnds,
              List.filter_filter]
            congr 2
            refine List.filter_congr fun m _ => ?_
            by_cases hm : m = x.farEnd n <;> simp [hm]
          obtain ⟨q, hq, hi⟩ := hf
          simp only [hq, hi, Option.isNone_none, if_true]
          obtain ⟨h1, h2⟩ := ih (queue ++ [x.farEnd n]) (h.append ⟨q, hq, hi⟩)
          rw [hfresh]
          constructor
          · rw [h1]; simp
          · simpa using h2
        · have hfresh : U.freshEnds k n (sw :: rest) l = U.freshEnds k n rest l := by
            rw [Store.freshEnds, hends, List.filter_cons_of_neg
              (p := fun m => U.openTo k m && decide (m ∉ l)) fun hc => hf ((h.unlabelled_iff hU _).2 hc)]
            rfl
          cases hq : w.node (x.farEnd n) with
          | none => exact skip hfresh
          | some q =>
            have hi : q.island.isNone = false := by
              cases hi : q.island with
              | none => exact absurd ⟨q, hq, hi⟩ hf
              | some i => rfl
            simp only [hi, Bool.false_eq_true, if_false]
            exact skip hfresh
      · rename_i hclosed
        exact skip (by simp [Store.freshEnds, Store.closedEnds, hx, hclosed])
    · rename_i hx
      exact skip (by simp [Store.freshEnds, Store.closedEnds, hx])

/-- The search visits every node that it reaches, in order, and then ends; a property that the far ends of closed
switches hand on holds of all that it reaches (R12 step 4). -/
theorem search (hU : ∀ m i, (U.node m).bind (·.island) = some i → i < k) (start : List Nat) {Q : Nat → Prop}
    (hQ : ∀ a b, Q a → U.Leads a b → Q b) (bound : Nat)
    (hbound : ∀ l : List Nat, l.Nodup → (∀ m ∈ l, (U.node m).isSome = true) → l.length ≤ bound) (fuel : Nat) :
    ∀ {w : Store} (visited queue : List Nat), U.Grown k now w (visited ++ queue) →
      visited ++ queue = U.reach k visited start → (∀ m ∈ visited ++ queue, Q m) → bound ≤ visited.length + fuel →
      ∃ l, U.Grown k now (Store.labelSearch k fuel queue w) l ∧ l = U.reach k l start ∧ ∀ m ∈ l, Q m := by
  induction fuel with
  | zero =>
    intro w visited queue h hr hq hb
    obtain ⟨b, -, hl, -⟩ := h.body
    have hlen := hbound _ hl.nodup fun m hm => by
      obtain ⟨r, hr, -⟩ := h.inside m hm
      rw [hr]; rfl
    have : queue = [] := List.length_eq_zero_iff.1 (by simp at hlen; omega)
    subst this
    rw [List.append_nil] at h hr hq
    exact ⟨visited, h, hr, hq⟩
  | succ fuel ih =>
    intro w visited queue h hr hall hb
    cases queue with
    | nil =>
      rw [List.append_nil] at h hr hall
      exact ⟨visited, h, hr, hall⟩
    | cons n queue =>
      obtain ⟨b, -, hl, -⟩ := h.body
      obtain ⟨q, hq, -⟩ := hl.node_of_mem (List.mem_append_right visited (List.mem_cons_self ..) : n ∈ _)
      have hinc : q.incidence = U.incidenceOf n := by
        rw [← h.same.incidenceOf n, Store.incidenceOf, hq]
      simp only [Store.labelSearch, hq, hinc]
      obtain ⟨h1, h2⟩ := visit hU n (U.incidenceOf n) queue h
      rw [h1]
      refine ih (visited ++ [n]) _ ?_ ?_ (fun m hm => ?_) (by simp; omega)
      · simpa using h2
      · rw [Store.reach_append, ← hr]
        simp
      · have hm : m ∈ visited ++ n :: queue ∨ m ∈ U.freshEnds k n (U.incidenceOf n) (visited ++ n :: queue) := by
          simpa [or_assoc] using hm
        rcases hm with hm | hm
        · exact hall m hm
        · exact hQ n m (hall n (by simp)) (Store.mem_freshEnds.1 hm).1

end Store.Grown

/-! ### One island -/

/-- The fields of an island at the end of its labelling (R13). -/
theorem Island.refreshed_since {now : Nat} {b : Island} (h : b.since = now) : (b.refreshed now).since = now := by
  unfold Island.refreshed
  split
  · exact h
  · rfl

/-- The island that is created and joined by its first node. -/
theorem Store.grown_first {U : Store} (h : U.canonical = true) {k n : Nat} (now : Nat) (hk : k < Config.islandCapacity)
    (hU : ∀ m i, (U.node m).bind (·.island) = some i → i < k) (hn : U.Unlabelled n) :
    U.Grown k now ((U.createIsland k n now).appendMember k n) [n] := by
  have hno : ∀ m, (U.node m).bind (·.island) ≠ some k := fun m hm => absurd (hU m k hm) (lt_irrefl k)
  have created : U.Grown k now (U.createIsland k n now) [] :=
    { canonical := Store.createIsland_canonical h n now hk
      body := ⟨_, by rw [Store.createIsland_island h, if_pos rfl],
        (Store.Members.created hno n now .dead).of_nodes fun m => by simp, rfl⟩
      other := fun j hj => by rw [Store.createIsland_island h, if_neg hj]
      generation := fun j => Store.createIsland_generation h k n now j
      switches := rfl
      same := .of_node fun m => by simp
      outside := fun m _ => by simp
      inside := fun m hm => by cases hm }
  exact created.append (by simpa [Store.Unlabelled] using hn)

/-- The labelling of island `k` from its first node `n`. -/
theorem Store.labelIsland_grown {U : Store} (h : U.canonical = true) {k n : Nat} (now : Nat)
    (hk : k < Config.islandCapacity) (hU : ∀ m i, (U.node m).bind (·.island) = some i → i < k) (hn : U.Unlabelled n) :
    ∃ l, U.Grown k now (U.labelIsland now k n) l ∧ l = U.reach k l [n] ∧
      (∀ m ∈ l, Relation.ReflTransGen U.Leads n m) ∧
      ∀ b, (U.labelIsland now k n).island k = some b → b.feed = feedOf b.sourceCount := by
  have h0 := Store.grown_first h now hk hU hn
  have hbound : ∀ l : List Nat, l.Nodup → (∀ m ∈ l, (U.node m).isSome = true) →
      l.length ≤ ((U.createIsland k n now).appendMember k n).nodes.length := fun l hnd hd =>
    Store.length_le_nodes hnd fun m hm => by rw [h0.same.isSome]; exact hd m hm
  obtain ⟨l, hl, hr, hpath⟩ := Store.Grown.search hU [n] (Q := Relation.ReflTransGen U.Leads n)
    (fun _ _ ha hab => ha.tail hab) _ hbound _ [] [n] h0 rfl (fun m hm => by rw [List.mem_singleton.1 hm])
    (Nat.le_add_left ..)
  obtain ⟨b, hb, hm, hs⟩ := hl.body
  refine ⟨l, ?_, hr, hpath, fun c hc => ?_⟩
  · exact
      { canonical := Store.refreshFeed_canonical hl.canonical k now
        body := ⟨b.refreshed now, by rw [Store.labelIsland, Store.refreshFeed_island hl.canonical, if_pos rfl, hb]; rfl,
          (hm.refreshed now).of_nodes fun m => by simp [Store.labelIsland], Island.refreshed_since hs⟩
        other := fun j hj => by
          rw [Store.labelIsland, Store.refreshFeed_island hl.canonical, if_neg hj]; exact hl.other j hj
        generation := fun j => by
          rw [Store.labelIsland, Store.refreshFeed_generation hl.canonical]; exact hl.generation j
        switches := by rw [Store.labelIsland, Store.refreshFeed_switches]; exact hl.switches
        same := hl.same.trans (.of_node fun m => by simp [Store.labelIsland])
        outside := fun m hm => by rw [Store.labelIsland, Store.refreshFeed_node]; exact hl.outside m hm
        inside := hl.inside }
  · rw [Store.labelIsland, Store.refreshFeed_island hl.canonical, if_pos rfl, hb] at hc
    cases hc
    rw [Island.refreshed_eq]

/-! ### Island after island -/

/-- From the tables `st`, in which no node had an island, the islands below `k` have been labelled at time `now`, and
the tables have come to `w` (R12, R13). -/
structure Store.Labelled (st : Store) (now k : Nat) (w : Store) : Prop where
  canonical : w.canonical = true
  switches : w.switches = st.switches
  same : st.SameNodes w
  generation : ∀ j, (w.islandRec j).generation = (st.islandRec j).generation
  exists_iff : ∀ j, (w.island j).isSome = true ↔ j < k
  home : ∀ m i, (w.node m).bind (·.island) = some i → i < k
  /-- Each island lists what its search reached from its first node, the lowest that was open to it. -/
  island : ∀ j b, w.island j = some b → ∃ l, w.IsMemberList j b l ∧ l = w.reach j l [b.first] ∧
    (∀ m ∈ l, Relation.ReflTransGen st.Leads b.first m) ∧ (∀ m, w.openTo j m = true → b.first ≤ m) ∧
    b.feed = feedOf b.sourceCount ∧ b.since = now

theorem Store.Labelled.init {st : Store} (h : st.canonical = true) (now : Nat) (hi : ∀ k, st.island k = none)
    (hn : ∀ n r, st.node n = some r → r.island = none) : st.Labelled now 0 st where
  canonical := h
  switches := rfl
  same := fun _ => rfl
  generation := fun _ => rfl
  exists_iff := fun j => by simp [hi j]
  home := fun m i hm => by
    obtain ⟨r, hr, hri⟩ := Option.bind_eq_some_iff.1 hm
    rw [hn m r hr] at hri
    cases hri
  island := fun j b hb => by rw [hi j] at hb; cases hb

/-- Which nodes are open to a search does not change when later islands are labelled. -/
theorem Store.Grown.openTo {U w : Store} {k now j : Nat} {l : List Nat} (h : U.Grown k now w l) (hj : j ≤ k) (m : Nat) :
    w.openTo j m = U.openTo j m := by
  by_cases hm : m ∈ l
  · obtain ⟨r, hr, hi⟩ := h.inside m hm
    obtain ⟨b, -, hl, -⟩ := h.body
    obtain ⟨q, hq, hqi⟩ := hl.node_of_mem hm
    simp [Store.openTo, hr, hi, hq, hqi, hj]
  · rw [Store.openTo, Store.openTo, h.outside m hm]

/-- The labelling of one more island. -/
theorem Store.Labelled.step {st w : Store} {now k n : Nat} (h : st.Labelled now k w) (hk : k < Config.islandCapacity)
    (hn : w.firstUnlabelled = some n) : st.Labelled now (k + 1) (w.labelIsland now k n) := by
  have hun := Store.firstUnlabelled_unlabelled h.canonical hn
  obtain ⟨l, hg, hr, hpath, hfeed⟩ := Store.labelIsland_grown h.canonical now hk h.home hun
  obtain ⟨b, hb, hm, hs⟩ := hg.body
  obtain ⟨rest, hl⟩ : [n] <+: l := hr ▸ w.prefix_reach k l [n]
  have hnl : n ∈ l := by simp [← hl]
  have hfirst : b.first = n := by simpa [← hl] using (hm.ends (List.ne_nil_of_mem hnl)).1.symm
  refine ⟨hg.canonical, hg.switches.trans h.switches, h.same.trans hg.same,
    fun j => (hg.generation j).trans (h.generation j), fun j => ?_, fun m i hm' => ?_, fun j c hc => ?_⟩
  · by_cases hj : j = k
    · subst hj; simp [hb]
    · rw [hg.other j hj, h.exists_iff j]; omega
  · by_cases hml : m ∈ l
    · rw [(hm.mem m).1 hml] at hm'
      cases hm'
      exact Nat.lt_succ_self k
    · rw [hg.outside m hml] at hm'
      exact Nat.lt_succ_of_lt (h.home m i hm')
  · by_cases hj : j = k
    · subst hj
      rw [hb] at hc
      cases hc
      refine ⟨l, (Store.isMemberList_iff ..).2 ⟨hm, List.ne_nil_of_mem hnl⟩, ?_, ?_, fun m ho => ?_, hfeed b hb, hs⟩
      · rw [hfirst, Store.reach_congr hg.switches hg.same (hg.openTo (le_refl j))]
        exact hr
      · rwa [hfirst, ← Store.leads_congr h.switches h.same]
      · rw [hfirst]
        rw [hg.openTo (le_refl j)] at ho
        refine Store.firstUnlabelled_le h.canonical hn ?_
        obtain ⟨r, hr', hi⟩ := (Store.openTo_iff ..).1 ho
        refine ⟨r, hr', ?_⟩
        cases hri : r.island with
        | none => rfl
        | some i =>
          have := h.home m i (by simp [hr', hri])
          have := hi i hri
          omega
    · have hjk : j < k := (h.exists_iff j).1 (by rw [← hg.other j hj, hc]; rfl)
      rw [hg.other j hj] at hc
      obtain ⟨lj, hlj, hrj, hpj, hopen, hf, hsj⟩ := h.island j c hc
      obtain ⟨hmj, hne⟩ := (Store.isMemberList_iff ..).1 hlj
      refine ⟨lj, (Store.isMemberList_iff ..).2 ⟨hmj.of_agree (fun m hmem => ?_) fun m hmem => ?_, hne⟩, ?_,
        hpj, fun m ho => hopen m (by rwa [← hg.openTo (le_of_lt hjk)]), hf, hsj⟩
      · refine hg.outside m fun hml => ?_
        obtain ⟨r, hr', hi⟩ := hg.inside m hml
        have := (hmj.mem m).1 hmem
        simp [hr', hi] at this
      · by_cases hml : m ∈ l
        · rw [(hm.mem m).1 hml] at hmem
          exact absurd (Option.some.inj hmem).symm hj
        · rwa [hg.outside m hml] at hmem
      · rw [Store.reach_congr hg.switches hg.same (hg.openTo (le_of_lt hjk))]
        exact hrj

/-- A step of the labelling leaves fewer nodes of no island. -/
theorem Store.Labelled.step_unlabelled {st w : Store} {now k n : Nat} (h : st.Labelled now k w)
    (hk : k < Config.islandCapacity) (hn : w.firstUnlabelled = some n) (m : Nat)
    (hm : (w.labelIsland now k n).Unlabelled m) : w.Unlabelled m ∧ m ≠ n := by
  obtain ⟨l, hg, hr, -⟩ :=
    Store.labelIsland_grown h.canonical now hk h.home (Store.firstUnlabelled_unlabelled h.canonical hn)
  obtain ⟨b, -, hl, -⟩ := hg.body
  obtain ⟨r, hr', hi⟩ := hm
  have hml : m ∉ l := fun hc => by
    obtain ⟨q, hq, hqi⟩ := hl.node_of_mem hc
    rw [hr'] at hq
    cases hq
    rw [hi] at hqi
    cases hqi
  refine ⟨⟨r, (hg.outside m hml).symm.trans hr', hi⟩, ?_⟩
  rintro rfl
  obtain ⟨rest, hl⟩ : [m] <+: l := hr ▸ w.prefix_reach k l [m]
  exact hml (by simp [← hl])

/-- The ids of the nodes of no island. -/
def Store.unlabelledIds (st : Store) : List Nat := (st.nodes.filter fun p => p.2.island.isNone).map (·.1)

theorem Store.mem_unlabelledIds {st : Store} (h : st.canonical = true) (m : Nat) :
    m ∈ st.unlabelledIds ↔ st.Unlabelled m := by
  have hr := Store.nodes_rising h
  constructor
  · intro hm
    obtain ⟨⟨i, r⟩, hp, rfl⟩ := List.mem_map.1 hm
    obtain ⟨hp, hi⟩ := List.mem_filter.1 hp
    exact ⟨r, Tab.get_of_mem hr hp, by simpa using hi⟩
  · rintro ⟨r, hr', hi⟩
    exact List.mem_map.2 ⟨(m, r), List.mem_filter.2 ⟨Tab.mem_of_get hr', by simp [hi]⟩, rfl⟩

/-- The ids that a rising table lists, of the records chosen, are distinct. -/
theorem Tab.filter_ids_nodup {α : Type} {t : Tab α} (h : Tab.Rising t = true) (p : Nat × α → Bool) :
    ((t.filter p).map (·.1)).Nodup := by
  rw [List.Nodup, List.pairwise_map]
  exact (((Tab.rising_iff t).1 h).filter p).imp fun h => Nat.ne_of_lt h

theorem Store.Labelled.all {st : Store} {now : Nat} (fuel : Nat) :
    ∀ {k : Nat} {w : Store}, st.Labelled now k w → k + fuel ≤ Config.islandCapacity → w.unlabelledIds.length ≤ fuel →
      ∃ j, st.Labelled now j (Store.labelFrom now fuel k w) ∧
        (Store.labelFrom now fuel k w).firstUnlabelled = none := by
  induction fuel with
  | zero =>
    intro k w h _ hu
    refine ⟨k, h, ?_⟩
    cases hn : w.firstUnlabelled with
    | none => exact hn
    | some n =>
      have := (Store.mem_unlabelledIds h.canonical n).2 (Store.firstUnlabelled_unlabelled h.canonical hn)
      rw [List.length_eq_zero_iff.1 (Nat.le_zero.1 hu)] at this
      cases this
  | succ fuel ih =>
    intro k w h hk hu
    cases hn : w.firstUnlabelled with
    | none => rw [Store.labelFrom_none hn]; exact ⟨k, h, hn⟩
    | some n =>
      have hk' : k < Config.islandCapacity := by omega
      have hs := h.step hk' hn
      rw [Store.labelFrom_some hn]
      refine ih hs (by omega) ?_
      have hnd : (n :: (w.labelIsland now k n).unlabelledIds).Nodup := by
        refine List.nodup_cons.2 ⟨fun hc => ?_, Tab.filter_ids_nodup (Store.nodes_rising hs.canonical) _⟩
        exact (h.step_unlabelled hk' hn n ((Store.mem_unlabelledIds hs.canonical n).1 hc)).2 rfl
      have hsub : n :: (w.labelIsland now k n).unlabelledIds ⊆ w.unlabelledIds := by
        intro m hm
        rw [Store.mem_unlabelledIds h.canonical]
        rcases List.mem_cons.1 hm with rfl | hm
        · exact Store.firstUnlabelled_unlabelled h.canonical hn
        · exact (h.step_unlabelled hk' hn m ((Store.mem_unlabelledIds hs.canonical m).1 hm)).1
      have := (hnd.subperm hsub).length_le
      simp at this
      omega

/-- The full labelling: every node comes to an island, and each island is what its search reached (R12, R13). -/
theorem Store.labelAll_labelled {st : Store} (h : st.canonical = true) (now : Nat) (hi : ∀ k, st.island k = none)
    (hn : ∀ n r, st.node n = some r → r.island = none) :
    ∃ count, st.Labelled now count (st.labelAll now) ∧ (st.labelAll now).Placed := by
  have hlen : st.unlabelledIds.length ≤ st.nodes.length := by
    rw [Store.unlabelledIds, List.length_map]
    exact List.length_filter_le ..
  obtain ⟨count, hl, hnone⟩ := Store.Labelled.all st.nodes.length (Store.Labelled.init h now hi hn)
    (by simpa using Store.nodes_length_le h) hlen
  refine ⟨count, hl, fun n r hr => ?_⟩
  cases hi : r.island with
  | some k => rfl
  | none => exact absurd ⟨r, hr, hi⟩ (Store.firstUnlabelled_none hnone n)

end Sys2Proof.Machine
end

section
/-! The member lists (R12, R38 to R41): every act on the tables keeps them, and so does every step. -/

namespace Sys2Proof.Machine

/-! ### The invariant in the terms of the tables -/

/-- Only a SOURCE has online values (R1). -/
def Store.Typed (st : Store) : Prop :=
  ∀ n r, st.node n = some r →
    (r.initialOnline.isSome = true ↔ r.kind = .source) ∧ (r.online.isSome = true ↔ r.kind = .source)

/-- The run states in which no island exists (R5, R59). -/
def RunControl.NoIslands (c : RunControl) : Prop :=
  c.state = .build ∨ c.state = .compiling ∨ c.state = .restoring ∧ c.restoreStage = some .labelling

/-- The member lists of all islands, with what the run says of the nodes and islands. -/
structure Net.Lists (a : Net) : Prop where
  listed : a.store.Listed
  full : ∀ k, a.store.FullAt k
  typed : a.store.Typed
  model : a.run.state.hasModel = true → a.store.Placed
  empty : a.run.NoIslands → ∀ k, a.store.island k = none

/-- With no island, no node has one. -/
theorem Store.Listed.island_none {st : Store} (h : st.Listed) (hk : ∀ k, st.island k = none) {n : Nat} {r : NodeRec}
    (hn : st.node n = some r) : r.island = none := by
  cases hi : r.island with
  | none => rfl
  | some k =>
    have := h.home n k (by simp [hn, hi])
    rw [hk k] at this
    cases this

theorem listInv_iff {s : State} (hs : StoreInv s) : ListInv s ↔ s.net.Lists := by
  constructor
  · rintro ⟨hlists, hnodes, hempty⟩
    have member : ∀ k b, s.store.island k = some b → ∃ l, s.store.Members k b l ∧ l ≠ [] := fun k b hb =>
      (hlists k b hb).imp fun l hl => (Store.isMemberList_iff ..).1 hl
    exact
      { listed :=
          { canonical := hs
            lists := fun k b hb => (member k b hb).imp fun _ hl => hl.1
            home := fun n k hn => by
              obtain ⟨r, hr, hi⟩ := Option.bind_eq_some_iff.1 hn
              exact (hnodes n r hr).1 k hi
            stray := fun n r hr => (hnodes n r hr).2.1 }
        full := fun k b hb h0 => by
          obtain ⟨l, hl, hne⟩ := member k b hb
          exact hne (hl.eq_nil_iff.2 h0)
        typed := fun n r hr => ⟨(hnodes n r hr).2.2.1, (hnodes n r hr).2.2.2.1⟩
        model := fun hm n r hr => (hnodes n r hr).2.2.2.2 hm
        empty := fun he => (hempty he).1 }
  · intro h
    refine ⟨fun k b hb => ?_, fun n r hr => ?_, fun he => ⟨h.empty he, fun n r hr => ?_⟩⟩
    · obtain ⟨l, hl⟩ := h.listed.lists k b hb
      exact ⟨l, (Store.isMemberList_iff ..).2 ⟨hl, fun hn => h.full k b hb (hl.eq_nil_iff.1 hn)⟩⟩
    · exact ⟨fun k hk => h.listed.home n k (by simpa [hr] using hk), h.listed.stray n r hr, (h.typed n r hr).1,
        (h.typed n r hr).2, fun hm => h.model hm n r hr⟩
    · exact h.listed.island_none (h.empty he) hr

/-! ### Moves of the run -/

theorem RunMoves.hasModel {a b : RunControl} (h : RunMoves a b) (hb : b.state.hasModel = true) :
    a.state.hasModel = true := by
  obtain ⟨h, -⟩ | ⟨h, -⟩ | ⟨-, h⟩ | ⟨h, -⟩ := h
  · rwa [← h]
  · exact h
  · rw [h] at hb; cases hb
  · rw [h] at hb; cases hb

theorem RunControl.NoIslands.hasModel {c : RunControl} (h : c.NoIslands) : c.state.hasModel = false := by
  obtain h | h | ⟨h, -⟩ := h <;> rw [h] <;> rfl

theorem RunMoves.noIslands {a b : RunControl} (h : RunMoves a b) (hb : b.NoIslands) : a.NoIslands := by
  obtain ⟨h1, h2⟩ | ⟨-, h⟩ | ⟨h, -⟩ | ⟨h1, h2⟩ := h
  · unfold RunControl.NoIslands at *
    rwa [← h1, ← h2]
  · rw [hb.hasModel] at h; cases h
  · exact .inl h
  · obtain hb | hb | ⟨-, hb⟩ := hb
    · rw [h1] at hb; cases hb
    · rw [h1] at hb; cases hb
    · exact absurd hb h2

/-! ### Tables without islands -/

/-- Tables without islands, in which no node has one, have their lists. -/
theorem Store.Listed.of_empty {st : Store} (hc : st.canonical = true) (hk : ∀ k, st.island k = none)
    (hn : ∀ n r, st.node n = some r → r.island = none ∧ r.prev = none ∧ r.next = none) : st.Listed where
  canonical := hc
  lists k b hb := by rw [hk k] at hb; cases hb
  home n k hm := by
    obtain ⟨r, hr, hi⟩ := Option.bind_eq_some_iff.1 hm
    rw [(hn n r hr).1] at hi
    cases hi
  stray n r hr _ := (hn n r hr).2

theorem Net.Lists.of_empty {b : Net} (hc : b.store.canonical = true) (hk : ∀ k, b.store.island k = none)
    (hn : ∀ n r, b.store.node n = some r → r.island = none ∧ r.prev = none ∧ r.next = none) (ht : b.store.Typed)
    (hm : b.run.state.hasModel = false) : b.Lists where
  listed := .of_empty hc hk hn
  full k c hb := by rw [hk k] at hb; cases hb
  typed := ht
  model h := by rw [hm] at h; cases h
  empty _ := hk

/-- In the run states without islands a node has neither island nor links. -/
theorem Net.Lists.bare {a : Net} (h : a.Lists) (he : a.run.NoIslands) {n : Nat} {r : NodeRec}
    (hr : a.store.node n = some r) : r.island = none ∧ r.prev = none ∧ r.next = none :=
  have hi := h.listed.island_none (h.empty he) hr
  ⟨hi, h.listed.stray n r hr hi⟩

/-- Tables that differ in their switches alone. -/
theorem Net.Lists.of_tables {a b : Net} (h : a.Lists) (hc : b.store.canonical = true)
    (hn : b.store.nodes = a.store.nodes) (hi : b.store.islands = a.store.islands) (hr : RunMoves a.run b.run) :
    b.Lists := by
  have hnode : ∀ n, b.store.node n = a.store.node n := Store.node_congr hn
  have hisl : ∀ k, b.store.island k = a.store.island k := fun k => by
    unfold Store.island Store.islandRec; rw [hi]
  exact
    { listed := h.listed.of_nodes hc hnode (fun k c hk => h.listed.lists k c (by rwa [← hisl])) fun _ k _ hk => by
        rwa [hisl]
      full := fun k c hk => h.full k c (by rwa [← hisl])
      typed := fun n r hn => h.typed n r (by rwa [← hnode])
      model := fun hm n r hn => h.model (hr.hasModel hm) n r (by rwa [← hnode])
      empty := fun he k => by rw [hisl]; exact h.empty (hr.noIslands he) k }

theorem Store.Typed.of_sameNodes {st u : Store} (h : st.Typed) (hs : st.SameNodes u) : u.Typed := by
  intro n r hr
  have := hs n
  rw [hr] at this
  obtain ⟨q, hq, hd⟩ := Option.map_eq_some_iff.1 this.symm
  simp only [NodeRec.definition, Prod.mk.injEq] at hd
  obtain ⟨hk, hi, ho, -⟩ := hd
  rw [← hk, ← hi, ← ho]
  exact h n q hq

/-- The lists that the labelling leaves (R12, R13). -/
theorem Store.Labelled.listed {st w : Store} {now k : Nat} (h : st.Labelled now k w) (hp : w.Placed) :
    w.Listed ∧ ∀ j, w.FullAt j := by
  have member : ∀ j b, w.island j = some b → ∃ l, w.Members j b l ∧ l ≠ [] := fun j b hb => by
    obtain ⟨l, hl, -⟩ := h.island j b hb
    exact ⟨l, (Store.isMemberList_iff ..).1 hl⟩
  refine ⟨⟨h.canonical, fun j b hb => (member j b hb).imp fun _ hl => hl.1, fun n j hn =>
    (h.exists_iff j).2 (h.home n j hn), fun n r hr hi => ?_⟩, fun j b hb h0 => ?_⟩
  · have := hp n r hr
    rw [hi] at this
    cases this
  · obtain ⟨l, hl, hne⟩ := member j b hb
    exact hne (hl.eq_nil_iff.2 h0)

/-! ### Every act keeps the lists -/

theorem Act.lists {a b : Net} (h : Act a b) (ha : a.Lists) : b.Lists := by
  have hc := h.canonical ha.listed.canonical
  cases h with
  | stay store counts run => exact ha.of_tables hc (by rw [store]) (by rw [store]) run
  | switches l store canonical counts run => exact ha.of_tables hc (by rw [store]) (by rw [store]) (run ▸ .refl _)
  | define n kind online lt source build store counts run =>
    have he : a.run.NoIslands := .inl build
    have hnode : ∀ m r, b.store.node m = some r → r = definedNode kind online ∨ a.store.node m = some r := by
      intro m r hr
      rw [store] at hr
      by_cases hm : m = n
      · subst hm; exact .inl (Option.some.inj ((Tab.get_put_same ..).symm.trans hr)).symm
      · exact .inr ((Tab.get_put_other _ _ _ _ hm).symm.trans hr)
    refine .of_empty hc (fun k => ?_) (fun m r hr => ?_) (fun m r hr => ?_) (by rw [run, build]; rfl)
    · rw [store]; exact ha.empty he k
    · obtain rfl | hr := hnode m r hr
      · exact ⟨rfl, rfl, rfl⟩
      · exact ha.bare he hr
    · obtain rfl | hr := hnode m r hr
      · exact ⟨source, source⟩
      · exact ha.typed m r hr
  | prepare f g place nature compiling store counts run =>
    have he : a.run.NoIslands := .inr (.inl compiling)
    have hnode : ∀ m r, b.store.node m = some r → ∃ q, a.store.node m = some q ∧ f m q = r := by
      intro m r hr
      rw [store] at hr
      exact Option.map_eq_some_iff.1 ((Tab.get_mapRecords ..).symm.trans hr)
    have hm : b.run.state.hasModel = false := by
      cases hb : b.run.state.hasModel with
      | false => rfl
      | true => have := run.hasModel hb; rw [compiling] at this; cases this
    refine .of_empty hc (fun k => ?_) (fun m r hr => ?_) (fun m r hr => ?_) hm
    · rw [store]; exact ha.empty he k
    · obtain ⟨q, hq, rfl⟩ := hnode m r hr
      obtain ⟨h1, h2, h3⟩ := place m q
      rw [h1, h2, h3]
      exact ha.bare he hq
    · obtain ⟨q, hq, rfl⟩ := hnode m r hr
      obtain ⟨h1, h2, h3 | h3⟩ := nature m q <;> rw [h1, h2, h3]
      · exact ha.typed m q hq
      · exact ⟨(ha.typed m q hq).1, (ha.typed m q hq).1⟩
  | label now due store counts ready =>
    have he : a.run.NoIslands := due.elim (fun h => .inr (.inl h)) fun h => .inr (.inr h)
    obtain ⟨count, hl, hp⟩ :=
      Store.labelAll_labelled ha.listed.canonical now (ha.empty he) fun n r hr => (ha.bare he hr).1
    obtain ⟨hlisted, hfull⟩ := hl.listed hp
    exact
      { listed := store ▸ hlisted
        full := store ▸ hfull
        typed := store ▸ ha.typed.of_sameNodes hl.same
        model := fun _ => store ▸ hp
        empty := fun h => by have := h.hasModel; rw [ready] at this; cases this }
  | unlabel due store restoring =>
    have hnode : ∀ m r, b.store.node m = some r → ∃ q, a.store.node m = some q ∧ q.unlinked.started = r := by
      intro m r hr
      rw [store, Store.node, Store.unlabelled] at hr
      simpa [Store.node, Tab.get_mapRecords] using hr
    refine .of_empty hc (fun k => ?_) (fun m r hr => ?_) (fun m r hr => ?_) (by rw [restoring]; rfl)
    · rw [store]; exact Store.retireAll_island ha.listed.canonical k
    · obtain ⟨q, hq, rfl⟩ := hnode m r hr
      exact ⟨rfl, rfl, rfl⟩
    · obtain ⟨q, hq, rfl⟩ := hnode m r hr
      exact ⟨(ha.typed m q hq).1, (ha.typed m q hq).1⟩
  | clear store counts build =>
    refine .of_empty hc (fun k => ?_) (fun m r hr => ?_) (fun m r hr => ?_) (by rw [build]; rfl)
    · rw [store]; exact Store.cleared_island ha.listed.canonical k
    · rw [store] at hr; cases hr
    · rw [store] at hr; cases hr
  | reset store counts build =>
    refine .of_empty hc (fun k => ?_) (fun m r hr => ?_) (fun m r hr => ?_) (by rw [build]; rfl)
    · rw [store]; rfl
    · rw [store] at hr; cases hr
    · rw [store] at hr; cases hr

/-- A job is in progress only with a compiled model, so that a claim of it comes to an island table in use. -/
theorem JobFree.hasModel {s : State} (h : JobFree s) (hj : s.resolver.current.isSome = true) :
    s.run.state.hasModel = true := by
  cases hm : s.run.state.hasModel with
  | true => rfl
  | false => rw [h hm] at hj; cases hj

/-- The lists after a claim that moved nodes. -/
theorem Net.Lists.of_claim {s t : State} (hm : s.run.state.hasModel = true) (hr : t.run = s.run)
    (hl : t.store.Listed) (hf : ∀ k, t.store.FullAt k) (ht : t.store.Typed) (hp : t.store.Placed) : t.net.Lists where
  listed := hl
  full := hf
  typed := ht
  model := fun _ => hp
  empty := fun he => by
    have := he.hasModel
    rw [State.net_run, hr, hm] at this
    cases this

theorem UnitAct.lists {s t : State} (h : UnitAct s t) (hj : JobFree s) (hs : s.net.Lists) : t.net.Lists := by
  cases h with
  | act act => exact act.lists hs
  | move n dst cause job store counts run =>
    have hm := hj.hasModel job
    refine Net.Lists.of_claim hm run ?_ ?_ ?_ ?_ <;> rw [store]
    · exact hs.listed.moveNode n dst cause
    · exact Store.moveNode_fullAt hs.listed n dst cause fun j _ => hs.full j
    · exact hs.typed.of_sameNodes (Store.moveNode_sameNodes hs.listed n dst cause)
    · exact Store.moveNode_placed hs.listed n dst cause (hs.model hm)
  | found n k cause job free store counts run =>
    have hm := hj.hasModel job
    have hc := hs.listed.createIsland (Store.lowestFree_lt free) (Store.lowestFree_free free) n cause
    refine Net.Lists.of_claim hm run ?_ ?_ ?_ ?_ <;> rw [store]
    · exact hc.moveNode n k cause
    · refine Store.moveNode_fullAt hc n k cause fun j hjk b hb => ?_
      rw [Store.createIsland_island hs.listed.canonical, if_neg hjk] at hb
      exact hs.full j b hb
    · exact hs.typed.of_sameNodes
        ((Store.SameNodes.of_node fun m => by simp).trans (Store.moveNode_sameNodes hc n k cause))
    · exact Store.moveNode_placed hc n k cause (hs.model hm)
  | online n k cause r v job node kind value island store counts run =>
    have hm := hj.hasModel job
    have hv : r.online = some (!v) := by
      obtain ⟨x, hx⟩ := Option.isSome_iff_exists.1 (((hs.typed n r node).2).2 kind)
      rw [hx] at value ⊢
      cases x <;> cases v <;> simp_all
    refine Net.Lists.of_claim hm run ?_ ?_ ?_ ?_ <;> rw [store]
    · exact hs.listed.setOnline cause node island hv
    · exact fun j => Store.setOnline_fullAt hs.listed.canonical n k v cause (hs.full j)
    · intro m q hq
      rw [Store.setOnline_node] at hq
      obtain ⟨p, hp, rfl⟩ := Option.map_eq_some_iff.1 hq
      have ht := hs.typed m p hp
      split
      · rename_i hmn
        subst hmn
        rw [node] at hp
        cases hp
        exact ⟨ht.1, by simp [kind]⟩
      · exact ht
    · intro m q hq
      rw [Store.setOnline_node] at hq
      obtain ⟨p, hp, rfl⟩ := Option.map_eq_some_iff.1 hq
      have := hs.model hm m p hp
      split <;> exact this

/-! ### Every step keeps the lists -/

theorem LinkActs.jobFree {s t : State} (h : LinkActs s t) (hs : JobFree s) : JobFree t := by
  induction h with
  | refl => exact hs
  | tail _ hl ih => exact hl.free ih

theorem RestInv.jobFree {s : State} (h : RestInv s) : JobFree s := by
  intro hm
  have rest : s.run.state = .build ∨ s.run.state = .compiling ∨ s.run.state = .restoring := by
    cases hs : s.run.state <;> simp_all [RunState.hasModel]
  exact (h rest).2.1

/-- Settles O60: the acts around a claim keep the lists and that no job runs without a model, and so the claim finds
tables in which its move keeps them. -/
theorem stepsKeepTheMemberLists : Obligations.StepsKeepTheMemberLists := by
  intro s t hs hbuf hlist hstep
  have hjob : JobFree s := hbuf.2.1.jobFree
  rw [listInv_iff hs] at hlist
  obtain ⟨u, v, hu, huv, hv⟩ := step_steps hstep
  have kept : ∀ a b : Net, a.Lists → Act a b → b.Lists := fun _ _ ha hab => hab.lists ha
  have hlu : u.net.Lists := hu.keeps kept hlist
  have hlt : t.net.Lists := hv.keeps kept (huv.lists (hu.jobFree hjob) hlu)
  exact (listInv_iff hlt.listed.canonical).2 hlt

end Sys2Proof.Machine
end

section
/-! The labelling (O26): islands are what effectively CLOSED switches join, in the order of the search (R12, R13). -/

namespace Sys2Proof.Machine

/-! ### Switches and the nodes they join -/

/-- The incidence lists hold every switch that touches a node (R2, R11). -/
def Store.ListsIncident (st : Store) : Prop :=
  ∀ n r k x, st.node n = some r → st.switch k = some x → x.endA = n ∨ x.endB = n → k ∈ r.incidence

/-- The incidence lists hold only switches that touch the node (R2, R11). -/
def Store.ListsOnlyIncident (st : Store) : Prop :=
  ∀ n r k, st.node n = some r → k ∈ r.incidence → ∃ x, st.switch k = some x ∧ (x.endA = n ∨ x.endB = n)

/-- Every switch joins two defined nodes (R6). -/
def Store.EndsDefined (st : Store) : Prop :=
  ∀ k x, st.switch k = some x → (st.node x.endA).isSome = true ∧ (st.node x.endB).isSome = true

theorem Store.mem_closedEnds {st : Store} {n m : Nat} {sws : List Nat} :
    m ∈ st.closedEnds n sws ↔ ∃ k ∈ sws, ∃ x, st.switch k = some x ∧ x.effective = .closed ∧ x.farEnd n = m := by
  simp only [Store.closedEnds, List.mem_filterMap, Option.bind_eq_some_iff, Option.ite_none_right_eq_some,
    Option.some.injEq]

theorem Store.Joined.symm {st : Store} {m n : Nat} (h : st.Joined m n) : st.Joined n m := by
  obtain ⟨k, x, hx, hc, he⟩ := h
  exact ⟨k, x, hx, hc, he.symm⟩

theorem Store.Joined.defined {st : Store} (hd : st.EndsDefined) {m n : Nat} (h : st.Joined m n) :
    (st.node m).isSome = true := by
  obtain ⟨k, x, hx, -, ⟨rfl, -⟩ | ⟨-, rfl⟩⟩ := h
  · exact (hd k x hx).1
  · exact (hd k x hx).2

/-- A visit of a node finds every node that an effectively CLOSED switch joins to it. -/
theorem Store.Joined.leads {st : Store} (hi : st.ListsIncident) (hd : st.EndsDefined) {m n : Nat} (h : st.Joined m n) :
    st.Leads m n := by
  obtain ⟨r, hr⟩ := Option.isSome_iff_exists.1 (h.defined hd)
  obtain ⟨k, x, hx, hc, he⟩ := h
  have hk : k ∈ st.incidenceOf m := by
    rw [Store.incidenceOf, hr]
    exact hi m r k x hr hx (he.imp And.left And.right)
  refine Store.mem_closedEnds.2 ⟨k, hk, x, hx, hc, ?_⟩
  unfold SwitchRec.farEnd
  split <;> omega

/-- A visit of a node finds only nodes that an effectively CLOSED switch joins to it. -/
theorem Store.Leads.joined {st : Store} (ht : st.ListsOnlyIncident) {m n : Nat} (h : st.Leads m n) : st.Joined m n := by
  obtain ⟨k, hk, x, hx, hc, rfl⟩ := Store.mem_closedEnds.1 h
  rw [Store.incidenceOf] at hk
  split at hk
  case h_2 => cases hk
  case h_1 r hr =>
    obtain ⟨y, hy, he⟩ := ht m r k hr hk
    rw [hx] at hy
    cases hy
    refine ⟨k, x, hx, hc, ?_⟩
    unfold SwitchRec.farEnd
    split <;> omega

/-- A search reaches the open nodes at the far ends of every node that it has visited. -/
theorem Store.mem_reach {st : Store} {j n m : Nat} {visited start : List Nat} (hn : n ∈ visited) (hm : st.Leads n m)
    (ho : st.openTo j m = true) : m ∈ st.reach j visited start := by
  induction visited using List.reverseRecOn with
  | nil => cases hn
  | append_singleton visited v ih =>
    rw [Store.reach_append, List.mem_append]
    by_cases hs : m ∈ st.reach j visited start
    · exact .inl hs
    · refine .inr (Store.mem_freshEnds.2 ⟨?_, ho, hs⟩)
      rcases List.mem_append.1 hn with hn | hn
      · exact absurd (ih hn) hs
      · rwa [← List.mem_singleton.1 hn]

/-- A list of the nodes whose records the table chooses is as long as the choice. -/
theorem Store.length_eq_filter {st : Store} (h : st.canonical = true) {l : List Nat} (hnd : l.Nodup)
    (p : Nat × NodeRec → Bool) (hl : ∀ n, n ∈ l ↔ ∃ r, st.node n = some r ∧ p (n, r) = true) :
    l.length = (st.nodes.filter p).length := by
  have hr := Store.nodes_rising h
  have hperm : l.Perm ((st.nodes.filter p).map (·.1)) := by
    refine (List.perm_ext_iff_of_nodup hnd (Tab.filter_ids_nodup hr p)).2 fun n => (hl n).trans ?_
    rw [List.mem_map]
    constructor
    · rintro ⟨r, hn, hp⟩
      exact ⟨(n, r), List.mem_filter.2 ⟨Tab.mem_of_get hn, hp⟩, rfl⟩
    · rintro ⟨⟨i, r⟩, hq, rfl⟩
      obtain ⟨hm, hp⟩ := List.mem_filter.1 hq
      exact ⟨r, Tab.get_of_mem hr hm, hp⟩
  rw [hperm.length_eq, List.length_map]

/-! ### The counts of an island (R13) -/

namespace Store.Members

variable {st : Store} {k : Nat} {b : Island} {l : List Nat}

theorem mem_filter_iff (h : st.Members k b l) (p : Nat → Bool) (q : NodeRec → Prop) [DecidablePred q]
    (hpq : ∀ n r, st.node n = some r → (p n = true ↔ q r)) (n : Nat) :
    n ∈ l.filter p ↔ ∃ r, st.node n = some r ∧ decide (r.island = some k ∧ q r) = true := by
  rw [List.mem_filter, h.mem, Option.bind_eq_some_iff]
  constructor
  · rintro ⟨⟨r, hr, hi⟩, hp⟩
    exact ⟨r, hr, decide_eq_true ⟨hi, (hpq n r hr).1 hp⟩⟩
  · rintro ⟨r, hr, hd⟩
    obtain ⟨hi, hq⟩ := of_decide_eq_true hd
    exact ⟨⟨r, hr, hi⟩, (hpq n r hr).2 hq⟩

theorem memberCount_eq (h : st.Members k b l) (hc : st.canonical = true) :
    b.memberCount = (st.nodes.filter fun p => decide (p.2.island = some k)).length := by
  rw [← h.count]
  refine Store.length_eq_filter hc h.nodup _ fun n => ?_
  rw [h.mem, Option.bind_eq_some_iff]
  simp

theorem sourceCount_eq (h : st.Members k b l) (hc : st.canonical = true) :
    b.sourceCount =
      (st.nodes.filter fun p => decide (p.2.island = some k ∧ p.2.online = some true)).length := by
  rw [h.sources]
  refine Store.length_eq_filter hc (h.nodup.filter _) _
    (h.mem_filter_iff st.onlineAt (fun r => r.online = some true) fun n r hr => ?_)
  simp [Store.onlineAt, hr]

theorem loadCount_eq (h : st.Members k b l) (hc : st.canonical = true) :
    b.loadCount = (st.nodes.filter fun p => decide (p.2.island = some k ∧ p.2.kind = .load)).length := by
  rw [h.loads]
  refine Store.length_eq_filter hc (h.nodup.filter _) _
    (h.mem_filter_iff st.loadAt (fun r => r.kind = .load) fun n r hr => ?_)
  simp [Store.loadAt, hr]

end Store.Members

/-! ### The islands of a finished labelling -/

namespace Store.Labelled

variable {st w : Store} {now count : Nat}

theorem island_of_node (h : st.Labelled now count w) {n k : Nat} {r : NodeRec} (hr : w.node n = some r)
    (hk : r.island = some k) : ∃ b, w.island k = some b :=
  Option.isSome_iff_exists.1 ((h.exists_iff k).2 (h.home n k (by simp [hr, hk])))

/-- Nodes joined by an effectively CLOSED switch belong to one island: the search that reaches the first of them reaches
the other, which is open to it (R12). -/
theorem island_eq_of_joined (h : st.Labelled now count w) (hp : w.Placed) (hi : st.ListsIncident)
    (hd : st.EndsDefined) {m n : Nat} {q r : NodeRec} (hj : st.Joined m n) (hq : w.node m = some q)
    (hr : w.node n = some r) : q.island = r.island := by
  obtain ⟨i, hqi⟩ := Option.isSome_iff_exists.1 (hp m q hq)
  obtain ⟨j, hrj⟩ := Option.isSome_iff_exists.1 (hp n r hr)
  wlog hij : i ≤ j generalizing m n q r i j
  · exact (this hj.symm hr hq j hrj i hqi (by omega)).symm
  obtain ⟨b, hb⟩ := h.island_of_node hq hqi
  obtain ⟨l, hl, hreach, -⟩ := h.island i b hb
  obtain ⟨hm, -⟩ := (Store.isMemberList_iff ..).1 hl
  have hml : m ∈ l := (hm.mem m).2 (by simp [hq, hqi])
  have hopen : w.openTo i n = true :=
    (Store.openTo_iff ..).2 ⟨r, hr, fun k hk => by rw [hrj] at hk; cases hk; exact hij⟩
  have hleads : w.Leads m n := by
    rw [Store.leads_congr h.switches h.same]
    exact hj.leads hi hd
  have hnl : n ∈ l := by rw [hreach]; exact Store.mem_reach hml hleads hopen
  obtain ⟨r', hr', hri⟩ := hm.node_of_mem hnl
  rw [hr] at hr'
  cases hr'
  rw [hqi, hri]

/-- Nodes of one island are joined by a path through its first node (R12). -/
theorem path (h : st.Labelled now count w) (ht : st.ListsOnlyIncident) {m n k : Nat} {q r : NodeRec}
    (hq : w.node m = some q) (hr : w.node n = some r) (hqk : q.island = some k) (hrk : r.island = some k) :
    Relation.ReflTransGen st.Joined m n := by
  obtain ⟨b, hb⟩ := h.island_of_node hq hqk
  obtain ⟨l, hl, -, hpath, -⟩ := h.island k b hb
  obtain ⟨hm, -⟩ := (Store.isMemberList_iff ..).1 hl
  have joined : ∀ v p, w.node v = some p → p.island = some k → Relation.ReflTransGen st.Joined b.first v :=
    fun v p hv hpk => (hpath v ((hm.mem v).2 (by simp [hv, hpk]))).lift id fun _ _ hab => Store.Leads.joined ht hab
  have back : Relation.ReflTransGen st.Joined m b.first :=
    Relation.reflTransGen_swap.1 ((joined m q hq hqk).lift id fun _ _ hab => hab.symm)
  exact back.trans (joined n r hr hrk)

/-- Every island holds a node lower than each node of the islands after it. -/
theorem lower_first (h : st.Labelled now count w) {n j k : Nat} {r : NodeRec} (hr : w.node n = some r)
    (hk : r.island = some k) (hjk : j < k) : ∃ m q, m < n ∧ w.node m = some q ∧ q.island = some j := by
  have hj : (w.island j).isSome = true := (h.exists_iff j).2 (hjk.trans (h.home n k (by simp [hr, hk])))
  obtain ⟨b, hb⟩ := Option.isSome_iff_exists.1 hj
  obtain ⟨l, hl, -, -, hopen, -⟩ := h.island j b hb
  obtain ⟨hm, hne⟩ := (Store.isMemberList_iff ..).1 hl
  obtain ⟨q, hq, hqj⟩ := hm.node_of_mem (List.mem_of_mem_head? (hm.ends hne).1)
  have hle : b.first ≤ n := hopen n ((Store.openTo_iff ..).2 ⟨r, hr, fun i hi => by rw [hk] at hi; cases hi; omega⟩)
  refine ⟨b.first, q, lt_of_le_of_ne hle ?_, hq, hqj⟩
  intro he
  rw [he, hr] at hq
  cases hq
  rw [hk] at hqj
  cases hqj
  exact lt_irrefl _ hjk

/-- The members of an island stand in the order of a search that looks at reached nodes alone: the far ends of its
members are members (R12). -/
theorem search_order (h : st.Labelled now count w) (hp : w.Placed) (hi : st.ListsIncident) (hd : st.EndsDefined)
    (ht : st.ListsOnlyIncident) {k : Nat} {b : Island} (hb : w.island k = some b) :
    ∃ l, w.IsMemberList k b l ∧ (∀ n ∈ l, b.first ≤ n) ∧
      l = l.foldl (fun reached n => reached ++ st.newEnds n (st.incidenceOf n) reached) [b.first] := by
  obtain ⟨l, hl, hreach, -, hopen, -⟩ := h.island k b hb
  obtain ⟨hm, -⟩ := (Store.isMemberList_iff ..).1 hl
  have openOf : ∀ n r, w.node n = some r → r.island = some k → w.openTo k n = true := fun n r hr hk =>
    (Store.openTo_iff ..).2 ⟨r, hr, fun i hi => by rw [hk] at hi; cases hi; exact le_refl k⟩
  refine ⟨l, hl, fun n hn => ?_, ?_⟩
  · obtain ⟨r, hr, hk⟩ := hm.node_of_mem hn
    exact hopen n (openOf n r hr hk)
  · refine hreach.trans (List.foldl_ext _ _ _ fun reached n hn => ?_)
    obtain ⟨r, hr, hk⟩ := hm.node_of_mem hn
    have far : ∀ m ∈ st.closedEnds n (st.incidenceOf n), w.openTo k m = true := fun m hmem => by
      have hj : st.Joined n m := Store.Leads.joined ht hmem
      obtain ⟨q, hq⟩ := Option.isSome_iff_exists.1 ((h.same.isSome m).trans (hj.symm.defined hd))
      exact openOf m q hq (by rw [← h.island_eq_of_joined hp hi hd hj hr hq, hk])
    rw [Store.freshEnds, Store.newEnds, Store.closedEnds_congr h.switches, h.same.incidenceOf]
    congr 2
    exact List.filter_congr fun m hmem => by rw [far m hmem, Bool.true_and]

end Store.Labelled

/-- Settles O26: the clauses are read off what the labelling leaves of each island (`Store.Labelled`). -/
theorem labellingJoinsClosedSwitches : Obligations.LabellingJoinsClosedSwitches := by
  intro st now hc hk hn hi hd
  obtain ⟨count, h, hp⟩ := Store.labelAll_labelled hc now hk hn
  refine ⟨fun n r hr => ?_, fun k x ra rb hx hcl ha hb => ?_, fun ht m n k q r hq hr hqk hrk => h.path ht hq hr hqk hrk,
    ⟨count, h.exists_iff⟩, fun n r j k hr hrk hjk => h.lower_first hr hrk hjk, fun k b hb => ?_,
    fun ht k b hb => h.search_order hp hi hd ht hb, h.switches, h.same⟩
  · obtain ⟨k, hk⟩ := Option.isSome_iff_exists.1 (hp n r hr)
    obtain ⟨b, hb⟩ := h.island_of_node hr hk
    exact ⟨k, b, hk, hb⟩
  · exact h.island_eq_of_joined hp hi hd ⟨k, x, hx, hcl, .inl ⟨rfl, rfl⟩⟩ ha hb
  · obtain ⟨l, hl, -, -, -, hfeed, hsince⟩ := h.island k b hb
    obtain ⟨hm, -⟩ := (Store.isMemberList_iff ..).1 hl
    exact ⟨hm.memberCount_eq h.canonical, hm.sourceCount_eq h.canonical, hm.loadCount_eq h.canonical, hfeed, hsince,
      h.generation k⟩

end Sys2Proof.Machine
end

section
/-! DEFINE NODE and DEFINE SWITCH (O24): what their grants do (R4 to R7), and the commands that only write the
tables. -/

namespace Sys2Proof.Machine

/-! ### Commands whose grant writes the tables alone -/

/-- With no job in progress and no entry due the store stays free. -/
theorem Arbiter.next_free {u : State} (hcur : u.resolver.current = none) (hseq : u.sequencerReady = false) :
    Arbiter.next u = .free := by simp [Arbiter.next, hcur, hseq, Arbiter.free]

/-- When the grant of a command writes the tables alone, on a quiet part nothing but the tables and the link changes. -/
theorem hostCommand_writes {c : Command} {check : Option Byte} {s : State} {st : Store} (h : Taken c check s)
    (ha : accessOf c = .claim) (hq : Quiet s)
    (hu : carryOut c (s.inGrant c) = answer .ok [] { s.inGrant c with store := st }) :
    hostCommand c check s = { s with link := s.link.replied c .ok [], store := st } := by
  rw [hostCommand_answered h ha hq hu rfl (by rw [State.inGrant, hq.1])]
  obtain ⟨hfree, -, hcur, -, hseq, -⟩ := hq
  rw [Arbiter.next_free (u := { s.inGrant c with store := st }) hcur hseq, ← hfree]
  rfl

/-! ### The codes of a definition (R193) -/

theorem code_of_parseKind {b : Byte} {k : NodeKind} (h : parseKind b = some k) : k.code = b := by
  unfold parseKind at h
  split at h <;> cases h <;> exact BitVec.eq_of_toNat_eq (Eq.symm ‹b.toNat = _›)

theorem parseKind_isSome (b : Byte) : (parseKind b).isSome = true ↔ b.toNat < 3 := by
  unfold parseKind
  split <;> grind

theorem code_of_parseContact {b : Byte} {p : Contact} (h : parseContact b = some p) : p.code = b := by
  unfold parseContact at h
  split at h <;> cases h <;> exact BitVec.eq_of_toNat_eq (Eq.symm ‹b.toNat = _›)

theorem parseContact_isSome (b : Byte) : (parseContact b).isSome = true ↔ b.toNat < 2 := by
  unfold parseContact
  split <;> grind

theorem Contact.asPosition_code (p : Contact) : p.asPosition.code = p.code := by cases p <;> rfl

/-- Only the initial online of a SOURCE is read, and it must be 0 or 1 (R4). -/
theorem parseInitialOnline_eq (k : NodeKind) (b : Byte) :
    parseInitialOnline k b =
      if k = .source then if b.toNat < 2 then some (some (b == 1)) else none else some none := by
  cases k with
  | bus => rfl
  | load => rfl
  | source =>
    rw [parseInitialOnline, parseFlag]
    split
    · rw [show b = 0 from BitVec.eq_of_toNat_eq ‹b.toNat = _›]; rfl
    · rw [show b = 1 from BitVec.eq_of_toNat_eq ‹b.toNat = _›]; rfl
    · rw [if_pos rfl, if_neg (by grind)]; rfl

theorem kind_source_iff {b : Byte} {k : NodeKind} (h : parseKind b = some k) : k = .source ↔ b.toNat = 1 := by
  rw [← code_of_parseKind h]
  cases k <;> decide

/-! ### The grants -/

theorem grantDefineNode_protect {node : U16} {kind online : Byte} {s : State} (h : s.run.state ≠ .build) :
    grantDefineNode node kind online s = answer .protect [] s := by rw [grantDefineNode, if_pos h]

theorem grantDefineNode_range {node : U16} {kind online : Byte} {s : State} (h : s.run.state = .build)
    (hr : 4096 ≤ node.toNat ∨ 3 ≤ kind.toNat ∨ kind.toNat = 1 ∧ 2 ≤ online.toNat) :
    grantDefineNode node kind online s = answer .range [] s := by
  rw [grantDefineNode, if_neg (not_not.2 h)]
  split
  · rfl
  rename_i hn
  cases hk : parseKind kind with
  | none => rfl
  | some k =>
    have hlt := (parseKind_isSome kind).1 (by rw [hk]; rfl)
    obtain hr | hr | ⟨h1, h2⟩ := hr
    · exact absurd hr hn
    · omega
    · have ho : parseInitialOnline k online = none := by
        rw [parseInitialOnline_eq, if_pos ((kind_source_iff hk).2 h1), if_neg (by omega)]
      simp [ho]

theorem grantDefineNode_ok {node : U16} {kind online : Byte} {s : State} (h : s.run.state = .build)
    (hn : node.toNat < 4096) (hk : kind.toNat < 3) (ho : kind.toNat = 1 → online.toNat < 2) :
    ∃ k o, k.code = kind ∧ o = (if kind.toNat = 1 then some (online == 1) else none) ∧
      grantDefineNode node kind online s =
        answer .ok [] { s with store.nodes := Tab.put s.store.nodes node.toNat (definedNode k o) } := by
  obtain ⟨k, hk⟩ := Option.isSome_iff_exists.1 ((parseKind_isSome kind).2 hk)
  refine ⟨k, _, code_of_parseKind hk, rfl, ?_⟩
  have hp : parseInitialOnline k online = some (if kind.toNat = 1 then some (online == 1) else none) := by
    rw [parseInitialOnline_eq]
    by_cases h1 : kind.toNat = 1
    · rw [if_pos ((kind_source_iff hk).2 h1), if_pos (ho h1), if_pos h1]
    · rw [if_neg (mt (kind_source_iff hk).1 h1), if_neg h1]
  rw [grantDefineNode, if_neg (not_not.2 h), if_neg (c := Config.nodeCapacity ≤ _) (Nat.not_le.2 hn)]
  simp only [hk, hp]

theorem goodEnd_iff (st : Store) (n : U16) :
    st.goodEnd n = true ↔ n.toNat < 4096 ∧ (st.node n.toNat).isSome = true := by
  rw [Store.goodEnd, Bool.and_eq_true, decide_eq_true_iff]
  rfl

theorem grantDefineSwitch_protect {sw endA endB : U16} {position : Byte} {s : State} (h : s.run.state ≠ .build) :
    grantDefineSwitch sw endA endB position s = answer .protect [] s := by rw [grantDefineSwitch, if_pos h]

/-- What DEFINE SWITCH asks of its operands (R6). -/
def DefinesSwitch (sw endA endB : U16) (position : Byte) (st : Store) : Prop :=
  sw.toNat < 8192 ∧ st.goodEnd endA = true ∧ st.goodEnd endB = true ∧ endA ≠ endB ∧ position.toNat < 2

theorem grantDefineSwitch_range {sw endA endB : U16} {position : Byte} {s : State} (h : s.run.state = .build)
    (hr : ¬DefinesSwitch sw endA endB position s.store) :
    grantDefineSwitch sw endA endB position s = answer .range [] s := by
  rw [grantDefineSwitch, if_neg (not_not.2 h)]
  split; · rfl
  rename_i hsw
  split; · rfl
  rename_i ha
  split; · rfl
  rename_i hb
  split; · rfl
  rename_i hab
  cases hp : parseContact position with
  | none => rfl
  | some p =>
    refine absurd ⟨Nat.not_le.1 hsw, ?_, ?_, hab, (parseContact_isSome position).1 (by rw [hp]; rfl)⟩ hr
    · simpa using ha
    · simpa using hb

theorem grantDefineSwitch_ok {sw endA endB : U16} {position : Byte} {s : State} (h : s.run.state = .build)
    (hd : DefinesSwitch sw endA endB position s.store) :
    ∃ p, parseContact position = some p ∧
      grantDefineSwitch sw endA endB position s =
        answer .ok []
          { s with
            store.switches := Tab.put s.store.switches sw.toNat (definedSwitch endA.toNat endB.toNat p) } := by
  obtain ⟨hsw, ha, hb, hab, hp⟩ := hd
  obtain ⟨p, hp⟩ := Option.isSome_iff_exists.1 ((parseContact_isSome position).2 hp)
  refine ⟨p, hp, ?_⟩
  rw [grantDefineSwitch, if_neg (not_not.2 h), if_neg (c := Config.switchCapacity ≤ _) (Nat.not_le.2 hsw)]
  simp only [ha, hb, hab, hp, Bool.not_true, Bool.false_eq_true, if_false]

/-! ### The obligation -/

theorem defineNode_writes {node : U16} {kind online : Byte} {check : Option Byte} {s : State}
    (h : Taken (.defineNode node kind online) check s) (hq : Quiet s) (hb : s.run.state = .build)
    (hn : node.toNat < 4096) (hk : kind.toNat < 3) (ho : kind.toNat = 1 → online.toNat < 2) :
    ∃ t r, exec (.defineNode node kind online check) s = .next t ∧
      t = { s with
            link := s.link.replied (.defineNode node kind online) .ok []
            store.nodes := t.store.nodes } ∧
      t.store.node node.toNat = some r ∧ r.kind.code = kind ∧
      r.initialOnline = (if kind.toNat = 1 then some (online == 1) else none) ∧
      r.online = r.initialOnline ∧ r.island = none ∧ r.prev = none ∧ r.next = none ∧ r.incidence = [] ∧
      (∀ m, m ≠ node.toNat → t.store.node m = s.store.node m) := by
  obtain ⟨k, o, hkind, ho, he⟩ :=
    grantDefineNode_ok (s := s.inGrant (.defineNode node kind online)) hb hn hk ho
  refine ⟨_, definedNode k o, (exec_toInstr _ check s).trans (congrArg _ (hostCommand_writes h rfl hq he)), rfl,
    Tab.get_put_same .., hkind, ho, rfl, rfl, rfl, rfl, rfl, fun m hm => Tab.get_put_other _ _ _ _ hm⟩

theorem defineSwitch_writes {sw endA endB : U16} {position : Byte} {check : Option Byte} {s : State}
    (h : Taken (.defineSwitch sw endA endB position) check s) (hq : Quiet s) (hb : s.run.state = .build)
    (hd : DefinesSwitch sw endA endB position s.store) :
    ∃ t r, exec (.defineSwitch sw endA endB position check) s = .next t ∧
      t = { s with
            link := s.link.replied (.defineSwitch sw endA endB position) .ok []
            store.switches := t.store.switches } ∧
      t.store.switch sw.toNat = some r ∧ r.endA = endA.toNat ∧ r.endB = endB.toNat ∧
      r.initial.code = position ∧ r.archived.code = position ∧ r.held = r.initial ∧ r.override = none ∧
      r.effective = r.initial ∧ r.retired = false ∧ r.discrepancy = false ∧ r.changeCount = 0 ∧
      r.lastChange = none ∧
      (∀ m, m ≠ sw.toNat → t.store.switch m = s.store.switch m) := by
  obtain ⟨p, hp, he⟩ :=
    grantDefineSwitch_ok (s := s.inGrant (.defineSwitch sw endA endB position)) hb hd
  have hcode := code_of_parseContact hp
  refine ⟨_, definedSwitch endA.toNat endB.toNat p,
    (exec_toInstr _ check s).trans (congrArg _ (hostCommand_writes h rfl hq he)), rfl, Tab.get_put_same .., rfl, rfl,
    hcode, (Contact.asPosition_code p).trans hcode, rfl, rfl, rfl, rfl, rfl, rfl, rfl,
    fun m hm => Tab.get_put_other _ _ _ _ hm⟩

/-- Settles O24: each command is its grant's branch, met on a quiet part. -/
theorem definesWriteTheRecords : Obligations.DefinesWriteTheRecords := by
  refine ⟨fun node kind online check s h hq => ⟨defineNode_writes h hq, fun hb => ?_, fun hb hr => ?_⟩,
    fun sw endA endB position check s h hq => ⟨fun hb hsw ha hna hbn hnb hab hp => ?_, fun hb => ?_, fun hb hr => ?_⟩⟩
  · exact (exec_toInstr _ check s).trans (congrArg _ (hostCommand_refused h rfl hq (grantDefineNode_protect hb)))
  · exact (exec_toInstr _ check s).trans (congrArg _ (hostCommand_refused h rfl hq (grantDefineNode_range hb hr)))
  · exact defineSwitch_writes h hq hb ⟨hsw, (goodEnd_iff ..).2 ⟨ha, hna⟩, (goodEnd_iff ..).2 ⟨hbn, hnb⟩, hab, hp⟩
  · exact (exec_toInstr _ check s).trans (congrArg _ (hostCommand_refused h rfl hq (grantDefineSwitch_protect hb)))
  · refine (exec_toInstr _ check s).trans (congrArg _ (hostCommand_refused h rfl hq
      (grantDefineSwitch_range hb fun hd => ?_)))
    obtain ⟨hsw, ha, hb, hab, hp⟩ := hd
    obtain ⟨ha, hna⟩ := (goodEnd_iff ..).1 ha
    obtain ⟨hb, hnb⟩ := (goodEnd_iff ..).1 hb
    obtain hr | hr | hr | hr | hr | hr | hr := hr
    · omega
    · omega
    · exact absurd (hr ▸ hna) (by simp)
    · omega
    · exact absurd (hr ▸ hnb) (by simp)
    · exact hab hr
    · omega

end Sys2Proof.Machine
end

section
/-! Hardware reset (O4) and the invariants right after it (O54) (R19). -/

namespace Sys2Proof.Machine

/-- Settles O4: whatever was in flight, the row leads to the reset values, whose tables are empty. -/
theorem hardwareResetEmptiesTheModel : Obligations.HardwareResetEmptiesTheModel := by
  intro lmode0 lmode1 lchk selLow s
  exact ⟨_, rfl, fun _ => rfl, fun _ => rfl, fun _ => rfl, fun _ => ⟨rfl, rfl⟩, rfl, rfl, rfl, rfl, rfl, rfl, rfl, rfl,
    rfl, rfl⟩

theorem reset_watch_conditions (n : Fin 4) : State.reset.watch.conditions.get n = .initial :=
  Vector.getElem_replicate ..

theorem reset_holdCondition : State.reset.panel.holdCondition = false := by decide

theorem clockInv_reset : ClockInv State.reset := by
  have hhold : State.reset.clock.holdLine = State.reset.panel.holdCondition := reset_holdCondition.symm
  have hstep : State.reset.clock.boundary.isSome = true ↔ State.reset.run.state = .stepping := by decide
  have hpause : State.reset.clock.pausedState = true ↔ State.reset.run.state = .paused := by decide
  refine ⟨by decide, by decide, by decide, by decide, by decide, by decide, by decide, fun m hm => ?_, fun b hb => ?_,
    hstep, hpause, hhold, fun h => ?_⟩
  · cases hm
  · cases hb
  · cases h

theorem watchInv_reset : WatchInv State.reset := by
  intro n
  rw [reset_watch_conditions]
  decide

theorem queueInv_reset : QueueInv State.reset :=
  ⟨fun _ hp => absurd hp List.not_mem_nil, Nat.zero_le _, fun _ => rfl⟩

theorem feedInv_reset : FeedInv State.reset :=
  ⟨reset_canonical, fun _ hp => absurd hp List.not_mem_nil⟩

theorem bufferGood_reset (n : BufferName) : BufferGood State.reset n := by
  have hb : State.reset.sequencer.buffer n = .cleared := by cases n <;> rfl
  have harm : State.reset.sequencer.armOrder = [] := rfl
  have hload : State.reset.link.load = none := rfl
  simp [BufferGood, hb, harm, hload, Buffer.cleared]

theorem bufferInv_reset : BufferInv State.reset := by
  have frame : FrameInv State.reset := by
    refine ⟨fun h => ?_, fun h => ?_, fun h => ?_, fun h => ?_, fun h => ?_⟩ <;> cases h
  exact ⟨frame, fun _ => ⟨rfl, rfl, rfl, rfl, rfl, rfl⟩, bufferGood_reset .a, bufferGood_reset .b, List.nodup_nil,
    fun h => by cases h.1⟩

/-- No node is defined and no island exists. -/
theorem listInv_reset : ListInv State.reset :=
  (listInv_iff reset_canonical).2 <|
    .of_empty reset_canonical (fun _ => rfl) (fun _ _ hr => by cases hr) (fun _ _ hr => by cases hr) rfl

/-- Settles O54: every claim of the invariants is about a table, a buffer or a claim that reset leaves empty, or a clock
field at its reset value. -/
theorem invariantsHoldAtReset : Obligations.InvariantsHoldAtReset :=
  ⟨clockInv_reset, ⟨Nat.zero_le _, Nat.zero_le _, fun _ => rfl, fun _ => rfl⟩, watchInv_reset, queueInv_reset,
    feedInv_reset, ⟨reset_canonical, fun _ => rfl⟩, bufferInv_reset, listInv_reset⟩

end Sys2Proof.Machine
end

section
/-! SUPPORT. The event flags one by one (R153), and what an evaluation and a hand-over make of the watch conditions and
of their flags (R146 to R148). -/

namespace Sys2Proof.Machine

/-! ### Flags (R153, R194) -/

theorem Event.bit_lt (e : Event) : e.bit < 19 := by cases e <;> decide

theorem Event.bit_eq_ctorIdx (e : Event) : e.bit = e.ctorIdx := by cases e <;> rfl

/-- Each event has its own flag. -/
theorem Event.bit_inj {e f : Event} : e.bit = f.bit ↔ e = f := by
  refine ⟨fun h => ?_, congrArg _⟩
  rw [Event.bit_eq_ctorIdx, Event.bit_eq_ctorIdx] at h
  rw [← Event.ofNat_ctorIdx e, h, Event.ofNat_ctorIdx]

/-- Raising an event makes its flag yes and leaves the others. -/
theorem raise_flag (e f : Event) (s : State) : (raise e s).flag f = (s.flag f || decide (f = e)) := by
  have hf := f.bit_lt
  rw [State.flag, State.flag, raise_flags, BitVec.getLsbD_or, BitVec.getLsbD_shiftLeft, BitVec.getLsbD_one]
  congr 1
  rw [Bool.eq_iff_iff]
  simp only [Bool.and_eq_true, Bool.not_eq_true', decide_eq_true_eq, decide_eq_false_iff_not, ← Event.bit_inj]
  omega

theorem raise_flag_same (e : Event) (s : State) : (raise e s).flag e = true := by simp [raise_flag]

theorem raise_flag_other {e f : Event} (h : f ≠ e) (s : State) : (raise e s).flag f = s.flag f := by
  simp [raise_flag, h]

/-- The flag view reads the Watch Unit alone. -/
theorem flag_congr {s t : State} (h : t.watch.flags = s.watch.flags) (e : Event) : t.flag e = s.flag e := by
  rw [State.flag, State.flag, h]

/-! ### One evaluation of a condition (R147, R148) -/

theorem watchEvent_inj {m n : Fin 4} : watchEvent m = watchEvent n ↔ m = n := by
  revert m n
  decide

theorem Watch.test_iff (w : Watch) (v : Nat) :
    w.test v = true ↔ w.relation = .atLeast ∧ w.threshold ≤ v ∨ w.relation = .atMost ∧ v ≤ w.threshold := by
  unfold Watch.test
  cases w.relation <;> simp

@[simp] theorem Watch.handed_quantity (v now : Nat) (w : Watch) : (w.handed v now).quantity = w.quantity := by
  unfold Watch.handed
  split <;> rfl

/-- A condition either trips, and is then no longer ARMED, or stands. -/
theorem Watch.handed_cases (v now : Nat) (w : Watch) :
    w.state = .armed ∧ w.test v = true ∧ w.handed v now = { w with state := .tripped, tripTime := some now } ∨
      ¬(w.state = .armed ∧ w.test v = true) ∧ w.handed v now = w := by
  rw [Watch.test_iff, Watch.handed]
  split
  · rename_i h; exact .inl ⟨h.1, h.2, rfl⟩
  · rename_i h; exact .inr ⟨h, rfl⟩

/-- A second evaluation finds nothing to do. -/
theorem Watch.handed_handed (v now : Nat) (w : Watch) : (w.handed v now).handed v now = w.handed v now := by
  obtain ⟨-, -, e⟩ | ⟨-, e⟩ := w.handed_cases v now
  · rw [e, Watch.handed, if_neg (by simp)]
  · rw [e, e]

/-! ### Evaluations of several conditions -/

/-- From `s` to `t` the conditions that `sel` chooses have been evaluated, and nothing else was done. -/
structure Evaluates (sel : Fin 4 → Bool) (s t : State) : Prop where
  rest : t = { s with watch := { s.watch with conditions := t.watch.conditions, flags := t.watch.flags } }
  condition : ∀ n, t.watch.conditions.get n =
    if sel n then
      (s.watch.conditions.get n).handed (s.quantity (s.watch.conditions.get n).quantity) s.clock.time
    else s.watch.conditions.get n
  flag : ∀ n, t.flag (watchEvent n) =
    (s.flag (watchEvent n) || decide (t.watch.conditions.get n ≠ s.watch.conditions.get n))
  other : ∀ e, (∀ n, e ≠ watchEvent n) → t.flag e = s.flag e

namespace Evaluates

variable {p q : Fin 4 → Bool} {s t u : State}

theorem quantity (h : Evaluates p s t) (x : Quantity) : t.quantity x = s.quantity x := by
  rw [h.rest]
  cases x <;> rfl

theorem time (h : Evaluates p s t) : t.clock.time = s.clock.time := by rw [h.rest]

theorem watched (h : Evaluates p s t) (n : Fin 4) :
    (t.watch.conditions.get n).quantity = (s.watch.conditions.get n).quantity := by
  rw [h.condition]
  split <;> simp

theorem none (s : State) : Evaluates (fun _ => false) s s :=
  ⟨rfl, fun _ => rfl, fun _ => by simp, fun _ _ => rfl⟩

theorem congr (h : Evaluates p s t) (e : ∀ n, p n = q n) : Evaluates q s t := by
  rwa [← show p = q from funext e]

/-- A condition chosen twice stands as after its first evaluation. -/
theorem condition_trans (h : Evaluates p s t) (k : Evaluates q t u) (n : Fin 4) :
    u.watch.conditions.get n =
      if p n || q n then
        (s.watch.conditions.get n).handed (s.quantity (s.watch.conditions.get n).quantity) s.clock.time
      else s.watch.conditions.get n := by
  rw [k.condition, h.watched, h.quantity, h.time, h.condition]
  cases p n <;> cases q n <;> simp [Watch.handed_handed]

theorem trans (h : Evaluates p s t) (k : Evaluates q t u) : Evaluates (fun n => p n || q n) s u where
  rest := by
    have e := k.rest
    rw [h.rest] at e
    exact e
  condition := h.condition_trans k
  flag n := by
    have stands : t.watch.conditions.get n ≠ s.watch.conditions.get n →
        u.watch.conditions.get n = t.watch.conditions.get n := fun hne => by
      rw [h.condition_trans k, h.condition]
      cases hp : p n with
      | true => rfl
      | false => exact absurd (by rw [h.condition, hp]; rfl) hne
    rw [k.flag, h.flag, Bool.or_assoc]
    congr 1
    by_cases ht : t.watch.conditions.get n = s.watch.conditions.get n
    · simp [ht]
    · simp [stands ht, ht]
  other e he := (k.other e he).trans (h.other e he)

end Evaluates

/-- One evaluation. -/
theorem evaluate_evaluates (n : Fin 4) (s : State) : Evaluates (fun m => decide (m = n)) s (evaluate n s) := by
  unfold evaluate
  dsimp only
  obtain ⟨ha, ht, e⟩ | ⟨hn, e⟩ :=
    (s.watch.conditions.get n).handed_cases (s.quantity (s.watch.conditions.get n).quantity) s.clock.time
  · rw [if_pos ⟨ha, ht⟩, ← e]
    have hne : (s.watch.conditions.get n).handed (s.quantity (s.watch.conditions.get n).quantity) s.clock.time ≠
        s.watch.conditions.get n := fun hc => by
      have := congrArg Watch.state (e.symm.trans hc)
      rw [ha] at this
      cases this
    have hget : ∀ (w : Watch) (m : Fin 4), (s.watch.conditions.set n.val w n.isLt).get m =
        if m = n then w else s.watch.conditions.get m := fun w m => by
      simp [Vector.get_eq_getElem, Vector.getElem_set, Fin.ext_iff, eq_comm]
    refine ⟨rfl, fun m => ?_, fun m => ?_, fun f hf => raise_flag_other (hf n) _⟩
    · rw [raise_conditions, setCondition_conditions, hget]
      by_cases hm : m = n
      · subst hm; simp
      · simp [hm]
    · rw [raise_flag, raise_conditions, setCondition_conditions, hget]
      by_cases hm : m = n
      · subst hm; simp [hne]
      · simp [hm, watchEvent_inj, State.flag]
  · rw [if_neg hn]
    refine ⟨rfl, fun m => ?_, fun m => by simp, fun _ _ => rfl⟩
    by_cases hm : m = n
    · subst hm; simp [e]
    · simp [hm]

/-! ### Hand-overs (R147) -/

/-- From `s` to `t` the quantities that `P` chooses have been handed, and nothing else was done. -/
def Hands (P : Quantity → Bool) (s t : State) : Prop := Evaluates (fun n => P (s.watch.conditions.get n).quantity) s t

theorem Hands.none (s : State) : Hands (fun _ => false) s s := Evaluates.none s

theorem Hands.trans {P Q : Quantity → Bool} {s t u : State} (h : Hands P s t) (k : Hands Q t u) :
    Hands (fun q => P q || Q q) s u :=
  (Evaluates.trans h k).congr fun n => by rw [Evaluates.watched h]

theorem Hands.congr {P Q : Quantity → Bool} {s t : State} (h : Hands P s t) (e : ∀ q, P q = Q q) : Hands Q s t :=
  Evaluates.congr h fun _ => e _

theorem handOver_hands (q : Quantity) (s : State) : Hands (fun x => decide (x = q)) s (handOver q s) := by
  have fold : ∀ (l : List (Fin 4)) (s : State),
      Evaluates (fun n => decide (n ∈ l) && decide ((s.watch.conditions.get n).quantity = q)) s
        (l.foldl (fun s n => if (s.watch.conditions.get n).quantity = q then evaluate n s else s) s) := by
    intro l
    induction l with
    | nil => exact fun s => (Evaluates.none s).congr fun n => by simp
    | cons a l ih =>
      intro s
      rw [List.foldl_cons]
      split
      · rename_i ha
        have h := evaluate_evaluates a s
        refine (h.trans (ih _)).congr fun n => ?_
        rw [h.watched]
        by_cases hn : n = a
        · subst hn; simp [ha]
        · simp [hn]
      · rename_i ha
        refine (ih s).congr fun n => ?_
        by_cases hn : n = a
        · subst hn; simp [ha]
        · simp [hn]
  have all : ∀ n, n ∈ conditionOrder := by decide
  exact (fold conditionOrder s).congr fun n => by simp [all n]

theorem handIf_hands (c : Bool) (q : Quantity) (s : State) : Hands (fun x => c && decide (x = q)) s (handIf c q s) := by
  cases c with
  | false => exact (Hands.none s).congr fun _ => rfl
  | true => exact (handOver_hands q s).congr fun _ => (Bool.true_and _).symm

/-- Whether the device count `q` differs between `a` and `b`; false of a statistic. -/
def Counts.differ (a b : Counts) : Quantity → Bool
  | .liveIslands => decide (a.live ≠ b.live)
  | .deadNodes => decide (a.deadNodes ≠ b.deadNodes)
  | .deadLoads => decide (a.deadLoads ≠ b.deadLoads)
  | .maxLag => false
  | .discrepancies => false

/-- Whether the watched statistic `q` differs between `a` and `b`; false of a device count. -/
def Stats.differ (a b : Stats) : Quantity → Bool
  | .maxLag => decide (a.maxLag ≠ b.maxLag)
  | .discrepancies => decide (a.discrepancies ≠ b.discrepancies)
  | .liveIslands => false
  | .deadNodes => false
  | .deadLoads => false

theorem handCounts_hands (before : Counts) (s : State) :
    Hands (before.differ s.resolver.counts) s (handCounts before s) := by
  refine (((handIf_hands _ .liveIslands s).trans (handIf_hands _ .deadNodes _)).trans
    (handIf_hands _ .deadLoads _)).congr fun q => ?_
  cases q <;> simp [Counts.differ]

theorem handStats_hands (before : Stats) (s : State) :
    Hands (before.differ s.sequencer.stats) s (handStats before s) := by
  refine ((handIf_hands _ .maxLag s).trans (handIf_hands _ .discrepancies _)).congr fun q => ?_
  cases q <;> simp [Stats.differ]

/-! ### What the watch conditions see -/

/-- The conditions stand, and so do their flags. -/
structure SameWatches (s t : State) : Prop where
  conditions : t.watch.conditions = s.watch.conditions
  flags : ∀ n, t.flag (watchEvent n) = s.flag (watchEvent n)

theorem SameWatches.of_watch {s t : State} (h : t.watch = s.watch) : SameWatches s t :=
  ⟨by rw [h], fun _ => flag_congr (by rw [h]) _⟩

theorem SameWatches.trans {s t u : State} (h : SameWatches s t) (k : SameWatches t u) : SameWatches s u :=
  ⟨k.conditions.trans h.conditions, fun n => (k.flags n).trans (h.flags n)⟩

theorem SameWatches.raise {s t : State} (h : SameWatches s t) {e : Event} (he : ∀ n, watchEvent n ≠ e) :
    SameWatches s (raise e t) :=
  ⟨h.conditions, fun n => (raise_flag_other (he n) t).trans (h.flags n)⟩

/-- From the Watch Unit `a` to `b` the event enables and the interrupt line's configuration stand. -/
def SameSettings (a b : WatchUnit) : Prop := b = { a with conditions := b.conditions, flags := b.flags }

theorem SameSettings.trans {a b c : WatchUnit} (h : SameSettings a b) (k : SameSettings b c) : SameSettings a c := by
  unfold SameSettings at h k ⊢
  rw [h] at k
  exact k

theorem raise_settings (e : Event) (s : State) : SameSettings s.watch (raise e s).watch := rfl

theorem Hands.settings {P : Quantity → Bool} {s t : State} (h : Hands P s t) : SameSettings s.watch t.watch :=
  congrArg State.watch (Evaluates.rest h)

/-- Nothing that the watch conditions show or see changes: they and their flags stand, and so do the quantities and the
clock's time. -/
structure Unwatched (s t : State) : Prop extends SameWatches s t where
  counts : t.resolver.counts = s.resolver.counts
  stats : t.sequencer.stats = s.sequencer.stats
  time : t.clock.time = s.clock.time

namespace Unwatched

variable {s t u : State}

theorem quantity (h : Unwatched s t) (q : Quantity) : t.quantity q = s.quantity q := by
  cases q <;> simp [State.quantity, h.counts, h.stats]

theorem refl (s : State) : Unwatched s s := ⟨.of_watch rfl, rfl, rfl, rfl⟩

theorem trans (h : Unwatched s t) (k : Unwatched t u) : Unwatched s u :=
  ⟨h.toSameWatches.trans k.toSameWatches, k.counts.trans h.counts, k.stats.trans h.stats, k.time.trans h.time⟩

theorem raise {e : Event} (h : Unwatched s t) (he : ∀ n, watchEvent n ≠ e) : Unwatched s (raise e t) :=
  ⟨h.toSameWatches.raise he, h.counts, h.stats, h.time⟩

end Unwatched

/-- A hand-over of exactly the quantities that differ from `before`, between parts of a unit of work that leave the
conditions alone and, behind it, the quantities too. -/
theorem Hands.changes {P : Quantity → Bool} {before : Quantity → Nat} {s a b t : State} (h : Hands P a b)
    (hs : SameWatches s a) (ht : Unwatched b t)
    (hP : ∀ q, P q = true ↔ before q ≠ a.quantity q) : HandsChanges before s t := by
  have quantity : ∀ q, t.quantity q = a.quantity q := fun q =>
    (ht.quantity q).trans (Evaluates.quantity h q)
  have condition : ∀ n, t.watch.conditions.get n = b.watch.conditions.get n := fun n => by rw [ht.conditions]
  intro n
  refine ⟨?_, ?_⟩
  · have := hP (s.watch.conditions.get n).quantity
    rw [condition, h.condition, hs.conditions, quantity, ht.time, Evaluates.time h]
    by_cases he : before (s.watch.conditions.get n).quantity = a.quantity (s.watch.conditions.get n).quantity
    · rw [if_pos he, if_neg fun hp => this.1 hp he]
    · rw [if_neg he, if_pos (this.2 he)]
  · rw [ht.flags, h.flag, hs.flags, condition, hs.conditions]

/-- Where no quantity differs from what it was nothing is handed. -/
theorem Unwatched.changes {s t : State} (h : Unwatched s t) : HandsChanges s.quantity s t := by
  intro n
  rw [if_pos (h.quantity _).symm, h.conditions, h.flags]
  simp

end Sys2Proof.Machine
end

section
/-! BUILD END and the stages of compile (O25) (R9 to R14). -/

namespace Sys2Proof.Machine

/-! ### Shared laws -/

theorem mapVector_get {α β : Type} {n : Nat} (f : α → β) (v : Vector α n) (i : Fin n) :
    (mapVector f v).get i = f (v.get i) := by
  simp [mapVector, Vector.get_eq_getElem]

/-- A hand-over of counts writes the Watch Unit alone. -/
theorem handCounts_eq (before : Counts) (s : State) : ∃ w, handCounts before s = { s with watch := w } :=
  ⟨_, Evaluates.rest (handCounts_hands before s)⟩

/-- With no CLEAR MODEL waiting the choice of the arbiter is a claimant's or none. -/
theorem arbitrate_grant_ne_compile {s : State} (hg : s.arbiter.grant = .none) (h : s.arbiter.clearPending = false) :
    (arbitrate s).arbiter.grant ≠ .compileRestore := by
  rw [arbitrate_none hg h]
  obtain ⟨e, -⟩ | ⟨e, -⟩ | ⟨e, -⟩ | ⟨e, -⟩ := choose_cases s.link.stream.isSome (refreshClaims s).arbiter <;>
    simp [e, Arbiter.grantLink, Arbiter.grantSequencer, Arbiter.grantResolver, hg]

/-- While compile holds the store, a stage that is due is taken and the claims are refreshed. -/
theorem engineStep_compileWork {stage : CompileStage} {effect : State → State} {s : State}
    (hg : s.arbiter.grant = .compileRestore) (hr : s.run.state = .compiling)
    (hs : s.run.compileStage = some stage) :
    engineStep (compileWork stage effect) s = .next (arbitrate (effect s)) := by
  have hf : finishLinkGrant s = s := by rw [finishLinkGrant, if_neg (by rw [hg]; decide)]
  rw [engineStep, hf, compileWork, if_pos ⟨hg, hr, hs⟩]
  rfl

/-! ### BUILD END -/

theorem grantBuildEnd_protect {s : State} (h : s.run.state ≠ .build) : grantBuildEnd s = answer .protect [] s := by
  rw [grantBuildEnd, if_pos h]

theorem grantBuildEnd_range {s : State} (h : s.run.state = .build) (hn : s.store.nodes = []) :
    grantBuildEnd s = answer .range [] s := by
  rw [grantBuildEnd, if_neg (not_not.2 h), hn]
  rfl

theorem grantBuildEnd_ok {s : State} (h : s.run.state = .build) (hn : s.store.nodes ≠ []) :
    grantBuildEnd s =
      answer .ok []
        (followNone
          { s with
            run.state := .compiling
            run.compileStage := some .incidence
            arbiter.grant := .compileRestore }) := by
  rw [grantBuildEnd, if_neg (not_not.2 h), if_neg (by simpa using hn)]

/-- On a quiet part the grant of BUILD END passes to compile, and no claim waits. -/
theorem hostCommand_buildEnd {check : Option Byte} {s : State} (h : Taken .buildEnd check s) (hq : Quiet s)
    (hb : s.run.state = .build) (hn : s.store.nodes ≠ []) :
    hostCommand .buildEnd check s =
      { followNone s with
        link := s.link.replied .buildEnd .ok []
        run := { s.run with state := .compiling, compileStage := some .incidence }
        arbiter.grant := .compileRestore } := by
  have hfree := hq.1
  rw [hostCommand_claim h rfl hq, carryOut, grantBuildEnd_ok (s := s.inGrant .buildEnd) hb hn, endLinkGrant,
    if_neg (by simp [answer, followNone]),
    arbitrate_busy _ (by simp [answer, followNone]), refreshClaims_self, beginWait_of_ne (by simp [answer])]
  · rfl
  all_goals simp [answer, followNone, State.inGrant, hfree, Arbiter.free]

/-! ### The first two stages -/

theorem Store.mem_incidentSwitches {st : Store} (h : st.canonical = true) (n k : Nat) :
    k ∈ st.incidentSwitches n ↔ ∃ x, st.switch k = some x ∧ (x.endA = n ∨ x.endB = n) := by
  have hr := Store.switches_rising h
  rw [Store.incidentSwitches, List.mem_map]
  constructor
  · rintro ⟨⟨i, x⟩, hp, rfl⟩
    obtain ⟨hm, he⟩ := List.mem_filter.1 hp
    exact ⟨x, Tab.get_of_mem hr hm, by simpa using he⟩
  · rintro ⟨x, hx, he⟩
    exact ⟨(k, x), List.mem_filter.2 ⟨Tab.mem_of_get hx, by simpa using he⟩, rfl⟩

theorem Store.incidentSwitches_ascending {st : Store} (h : st.canonical = true) (n : Nat) :
    (st.incidentSwitches n).Pairwise (· < ·) := by
  rw [Store.incidentSwitches, List.pairwise_map]
  exact ((Tab.rising_iff _).1 (Store.switches_rising h)).filter _

theorem exec_compileIncidenceLists {s : State} (hg : s.arbiter.grant = .compileRestore)
    (hr : s.run.state = .compiling) (hs : s.run.compileStage = some .incidence) :
    exec .compileIncidenceLists s = .next (refreshClaims (compileIncidenceLists s)) := by
  rw [← arbitrate_busy (compileIncidenceLists s) (by rw [compileIncidenceLists, hg]; decide)]
  exact engineStep_compileWork hg hr hs

theorem exec_compileStartingValues {s : State} (hg : s.arbiter.grant = .compileRestore)
    (hr : s.run.state = .compiling) (hs : s.run.compileStage = some .starting) :
    exec .compileStartingValues s = .next (refreshClaims (compileStartingValues s)) := by
  rw [← arbitrate_busy (compileStartingValues s) (by rw [compileStartingValues, hg]; decide)]
  exact engineStep_compileWork hg hr hs

/-! ### The third stage -/

/-- The tables are labelled and the counts adjusted, what changed is handed, and the rest is written around the Watch
Unit. -/
theorem compileEnd_eq (s : State) :
    ∃ a w, a = commitStore (s.store.labelAll s.clock.time) s ∧
      Hands (s.resolver.counts.differ a.resolver.counts) a { a with watch := w } ∧
      compileEnd s =
        releaseGrant (raise .buildDone
          { report { a with watch := w } with run := { s.run with state := .ready, compileStage := none } }) := by
  obtain ⟨w, hw⟩ := handCounts_eq s.resolver.counts (commitStore (s.store.labelAll s.clock.time) s)
  refine ⟨_, w, rfl, hw ▸ handCounts_hands .., ?_⟩
  rw [compileEnd, hw]
  rfl

theorem exec_compileEnd {s : State} (hg : s.arbiter.grant = .compileRestore) (hr : s.run.state = .compiling)
    (hs : s.run.compileStage = some .labelling) (hc : s.arbiter.clearPending = false) :
    exec .compileEnd s = .next { compileEnd s with arbiter := (arbitrate (compileEnd s)).arbiter } ∧
      (arbitrate (compileEnd s)).arbiter.grant ≠ .compileRestore := by
  obtain ⟨a, w, rfl, -, e⟩ := compileEnd_eq s
  have hgrant : (compileEnd s).arbiter.grant = .none := by rw [e]; rfl
  have hclear : (compileEnd s).arbiter.clearPending = false := by rw [e]; exact hc
  rw [← arbitrate_eq _ hclear]
  exact ⟨engineStep_compileWork hg hr hs, arbitrate_grant_ne_compile hgrant hclear⟩

/-! ### The obligation -/

theorem buildEnd_begins_compile {check : Option Byte} {s : State} (h : Taken .buildEnd check s) (hq : Quiet s)
    (hb : s.run.state = .build) (hn : s.store.nodes ≠ []) :
    ∃ t, exec (.buildEnd check) s = .next t ∧
      t = { s with
            link := s.link.replied .buildEnd .ok []
            run := { s.run with state := .compiling, compileStage := some .incidence }
            arbiter.grant := .compileRestore
            panel.indicators := t.panel.indicators } ∧
      (∀ n, t.panel.indicators.get n = { s.panel.indicators.get n with followed := .none }) ∧
      t.settleActive = true := by
  refine ⟨_, (exec_toInstr .buildEnd check s).trans (congrArg _ (hostCommand_buildEnd h hq hb hn)), rfl,
    fun n => mapVector_get .., ?_⟩
  simp [State.settleActive, RunState.holdsStore]

/-- Settles O25: BUILD END on a quiet part, and each stage as its function says. -/
theorem compileBuildsTheModel : Obligations.CompileBuildsTheModel := by
  refine ⟨fun check s h hq => ⟨buildEnd_begins_compile h hq, fun hb hn => ?_, fun hb => ?_⟩,
    fun s hg hr hs hi => ?_, fun s hg hr hs => ?_, fun s hg hr hs hc => ?_⟩
  · exact (exec_toInstr .buildEnd check s).trans
      (congrArg _ (hostCommand_refused h rfl hq (grantBuildEnd_range hb hn)))
  · exact (exec_toInstr .buildEnd check s).trans (congrArg _ (hostCommand_refused h rfl hq (grantBuildEnd_protect hb)))
  · refine ⟨_, exec_compileIncidenceLists hg hr hs, rfl, hg, fun n r hn => ?_⟩
    refine ⟨s.store.incidentSwitches n, ?_, Store.incidentSwitches_ascending hi n, Store.mem_incidentSwitches hi n⟩
    have hmap := Tab.get_mapRecords (fun n r => { r with incidence := s.store.incidentSwitches n }) s.store.nodes n
    exact hmap.trans (congrArg _ hn)
  · refine ⟨_, exec_compileStartingValues hg hr hs, rfl, hg, fun n => ?_, fun k => ?_⟩
    · exact Tab.get_mapRecords (fun _ r => r.started) s.store.nodes n
    · exact Tab.get_mapRecords (fun _ r => r.started) s.store.switches k
  · obtain ⟨a, w, ha, hw, e⟩ := compileEnd_eq s
    obtain ⟨hexec, hgrant⟩ := exec_compileEnd hg hr hs hc
    rw [e] at hexec hgrant
    subst ha
    refine ⟨_, hexec, rfl, raise_flag_same .., hgrant, hw.settings.trans (raise_settings ..), fun f hf hwf => ?_,
      fun n => mapVector_get ..⟩
    exact (raise_flag_other hf _).trans (Evaluates.other hw f hwf)

end Sys2Proof.Machine
end

section
/-! CLEAR MODEL (O27): it acts at once on a store that no other claimant holds (R16 to R18, R79). -/

namespace Sys2Proof.Machine

/-! ### What CLEAR MODEL does -/

/-- The part as CLEAR MODEL empties it, before the changed quantities are handed (R16 to R18, R79, R81, R123). -/
def State.emptied (s : State) : State :=
  { s with
    store := s.store.cleared
    resolver := { counts := .zero, queue := [], current := none, cursor := { s.resolver.cursor with valid := false } }
    arbiter := .free
    clock :=
      { s.clock with
        time := 0, frac := 0, boundary := none, starve := false, backlog := false,
        holdLine := s.panel.holdCondition, pausedState := false }
    sequencer := .cleared
    run := { state := .build, compileStage := none, restoreStage := none }
    watch := if s.settled then s.watch else (raise .settled s).watch
    panel := (followNone s).panel }

/-- What is in flight is abandoned, and only an unsettled part raises SETTLED. -/
theorem abandonJobs_eq (s : State) :
    abandonJobs s =
      { s with
        resolver.queue := []
        resolver.current := none
        watch := if s.settled then s.watch else (raise .settled s).watch } := by
  unfold abandonJobs
  dsimp only
  split <;> rfl

theorem clearModel_eq (s : State) :
    clearModel s = handStats s.sequencer.stats (handCounts s.resolver.counts s.emptied) := by
  rw [clearModel, abandonJobs_eq]
  rfl

/-- All that CLEAR MODEL hands are the quantities that were not 0. -/
theorem clearModel_hands (s : State) : Hands (fun q => decide (s.quantity q ≠ 0)) s.emptied (clearModel s) := by
  rw [clearModel_eq]
  refine ((handCounts_hands s.resolver.counts s.emptied).trans (handStats_hands s.sequencer.stats _)).congr fun q => ?_
  rw [handCounts_sequencer]
  cases q with
  | liveIslands => exact Bool.or_false _
  | deadNodes => exact Bool.or_false _
  | deadLoads => exact Bool.or_false _
  | maxLag => exact Bool.false_or _
  | discrepancies => exact Bool.false_or _

/-- A CLEAR MODEL that finds no grant acts within the arbitration, whatever claims wait, and leaves the store free. -/
theorem arbitrate_clear {s : State} (hg : s.arbiter.grant = .none) (hc : s.arbiter.clearPending = true)
    (ht : s.link.taken = some .clearModel) : arbitrate s = answer .ok [] (clearModel s) := by
  have hr : clearModel (refreshClaims s) = clearModel s := by
    rw [clearModel_eq, clearModel_eq]
    rfl
  have hlink : (clearModel s).link = s.link := by rw [Evaluates.rest (clearModel_hands s)]; rfl
  have harb : (clearModel s).arbiter = .free := by rw [Evaluates.rest (clearModel_hands s)]; rfl
  simp only [arbitrate, refreshClaims_grant, refreshClaims_clearPending, hg, hc, hr, if_true, answerClear, hlink, ht]
  have hfree : (answer .ok [] (clearModel s)).arbiter.choose (answer .ok [] (clearModel s)).link.stream.isSome =
      (answer .ok [] (clearModel s)).arbiter := by
    rw [answer_arbiter, harb]
    rfl
  rw [hfree]

/-- The command, taken while no other claimant has the store. -/
theorem hostCommand_clearModel {check : Option Byte} {s : State} (h : Taken .clearModel check s)
    (hg : s.arbiter.grant = .none ∨ s.arbiter.grant = .compileRestore) :
    ∃ w, Hands (fun q => decide (s.quantity q ≠ 0)) { s.emptied with link := s.link.waits .clearModel }
        { s.emptied with link := s.link.waits .clearModel, watch := w } ∧
      exec (.clearModel check) s =
        .next { s.emptied with link := s.link.replied .clearModel .ok [], watch := w } := by
  have hgrant : (if s.arbiter.grant = .compileRestore then Grant.none else s.arbiter.grant) = .none := by
    obtain hg | hg := hg <;> simp [hg]
  have hands := clearModel_hands
    { s with link := s.link.waits .clearModel, arbiter.clearPending := true, arbiter.grant := .none }
  refine ⟨_, Evaluates.rest hands ▸ hands, (exec_toInstr .clearModel check s).trans (congrArg _ ?_)⟩
  rw [hostCommand_taken h]
  have ha : accessOf .clearModel = .clear := rfl
  simp only [decideCommand, ha, carryOut, takeClear, hgrant]
  rw [arbitrate_clear rfl rfl rfl, beginWait_of_ne (by simp)]
  exact congrArg (answer .ok []) (Evaluates.rest hands)

/-! ### The obligation -/

theorem emptied_flag_settled (s : State) : s.emptied.flag .settled = (s.flag .settled || !s.settled) := by
  unfold State.emptied State.flag
  dsimp only
  split
  · rename_i h; simp [h]
  · rename_i h; simp [h, Event.bit]

theorem emptied_flag {e : Event} (h : e ≠ .settled) (s : State) : s.emptied.flag e = s.flag e := by
  have : s.emptied.watch = s.watch ∨ s.emptied.watch = (raise .settled s).watch := by
    unfold State.emptied
    dsimp only
    split
    · exact .inl rfl
    · exact .inr rfl
  obtain hw | hw := this
  · exact flag_congr (by rw [hw]) e
  · exact (flag_congr (by rw [hw]) e).trans (raise_flag_other h s)

theorem emptied_watch (s : State) : SameSettings s.watch s.emptied.watch ∧
    s.emptied.watch.conditions = s.watch.conditions := by
  unfold State.emptied
  dsimp only
  split <;> exact ⟨rfl, rfl⟩

/-- Settles O27: the emptied part, with what was not 0 handed to the watch conditions. -/
theorem clearModelEmptiesTheModel : Obligations.ClearModelEmptiesTheModel := by
  intro check s h hs hg
  obtain ⟨w, hands, hexec⟩ := hostCommand_clearModel h hg
  have settled : ∀ n, Event.settled ≠ watchEvent n := by decide
  have other : ∀ e, e ≠ .settled → (∀ n : Fin 4, e ≠ watchEvent n) →
      State.flag { s.emptied with watch := w } e = s.flag e := fun e he hw =>
    (Evaluates.other hands e hw).trans (emptied_flag he s)
  have hset : State.flag { s.emptied with watch := w } .settled = (s.flag .settled || !s.settled) :=
    (Evaluates.other hands _ settled).trans (emptied_flag_settled s)
  refine ⟨_, hexec, rfl, rfl, rfl, fun k => ⟨Store.cleared_island hs k, ?_⟩, fun n => mapVector_get .., hset,
    (emptied_watch s).1.trans hands.settings, other, fun e he => ?_⟩
  · refine (congrArg IslandRec.generation (Store.retireAll_islandRec hs k)).trans ?_
    split <;> rfl
  · by_cases hes : e = .settled
    · subst hes
      exact hset.trans (by rw [he]; rfl)
    by_cases hew : ∀ n : Fin 4, e ≠ watchEvent n
    · exact (other e hes hew).trans he
    · obtain ⟨n, hn⟩ := not_forall.1 hew
      obtain rfl := not_not.1 hn
      have hflag : State.flag { s.emptied with link := s.link.waits .clearModel } (watchEvent n) = true :=
        (emptied_flag hes s).trans he
      exact (Evaluates.flag hands n).trans (by rw [hflag]; rfl)

end Sys2Proof.Machine
end

section
/-! The hand-overs to the watch conditions (O40) (R14, R43, R122, R147, R148, R152). -/

namespace Sys2Proof.Machine

/-! ### Operations that the watch conditions do not see -/

theorem takeJob_unwatched (s : State) : Unwatched s (takeJob s) := by
  have time : (takeJob s).clock.time = s.clock.time := by
    unfold takeJob
    split <;> rfl
  exact ⟨.of_watch (takeJob_watch s), takeJob_counts s, by rw [takeJob_sequencer], time⟩

theorem appendJob_unwatched (j : Job) (s : State) : Unwatched s (appendJob j s) := by
  have queued : Unwatched s { s with resolver.queue := s.resolver.queue ++ [j] } := ⟨.of_watch rfl, rfl, rfl, rfl⟩
  unfold appendJob
  dsimp only
  split
  · exact queued.trans (takeJob_unwatched _)
  · exact queued

theorem commitSwitch_unwatched (sw : Nat) (old new : SwitchRec) (cause : Nat) (s : State) :
    Unwatched s (commitSwitch sw old new cause s) := by
  have put : Unwatched s { s with store.switches := Tab.put s.store.switches sw new } := ⟨.of_watch rfl, rfl, rfl, rfl⟩
  unfold commitSwitch
  dsimp only
  split
  · exact put
  · exact put.trans (appendJob_unwatched _ _)

theorem setBuffer_unwatched (n : BufferName) (b : Buffer) (s : State) : Unwatched s (setBuffer n b s) := by
  cases n <;> exact ⟨.of_watch rfl, rfl, rfl, rfl⟩

theorem activateFrom_unwatched (l : List BufferName) (s : State) : Unwatched s (activateFrom l s) := by
  induction l generalizing s with
  | nil => exact .refl s
  | cons n rest ih =>
    have head : Unwatched s { s with sequencer.armOrder := rest } := ⟨.of_watch rfl, rfl, rfl, rfl⟩
    rw [activateFrom]
    dsimp only
    split
    · exact head.trans (setBuffer_unwatched ..)
    · exact (head.trans ((setBuffer_unwatched ..).raise (by decide))).trans (ih _)

theorem activate_unwatched (s : State) : Unwatched s (activate s) := by
  unfold activate
  split
  · exact activateFrom_unwatched ..
  · exact .refl s

theorem testStarve_unwatched (s : State) : Unwatched s (testStarve s) := by
  unfold testStarve
  split
  · exact Unwatched.raise ⟨.of_watch rfl, rfl, rfl, rfl⟩ (by decide)
  · exact .refl s

theorem endSpent_unwatched (n : BufferName) (s : State) : Unwatched s (endSpent n s) := by
  unfold endSpent
  dsimp only
  split
  · exact (((setBuffer_unwatched ..).trans (setBuffer_unwatched ..)).raise (by decide)).trans
      ((activate_unwatched _).trans (testStarve_unwatched _))
  · exact .refl s

theorem applyCue_watches (s : State) : SameWatches s (applyCue s) ∧ (applyCue s).resolver.counts = s.resolver.counts ∧
    (applyCue s).clock.time = s.clock.time := by
  have cue : ∀ t : State, t.watch = s.watch → SameWatches s (raise .cue t) := fun t ht =>
    (SameWatches.of_watch ht).raise (by decide)
  unfold applyCue
  split <;> exact ⟨cue _ rfl, rfl, rfl⟩

/-- An entry that is applied leaves the conditions, the device counts and the time; it may count a discrepancy. -/
theorem applyPlan_watches (time : Nat) (p : EntryPlan) (s : State) : SameWatches s (applyPlan time p s) ∧
    (applyPlan time p s).resolver.counts = s.resolver.counts ∧ (applyPlan time p s).clock.time = s.clock.time := by
  cases p with
  | fault => exact ⟨.of_watch rfl, rfl, rfl⟩
  | switch sw old new disc =>
    have h := commitSwitch_unwatched sw old new time s
    rw [applyPlan]
    dsimp only
    split
    · exact ⟨h.toSameWatches.trans (.of_watch rfl), h.counts, h.time⟩
    · exact ⟨h.toSameWatches, h.counts, h.time⟩
  | source node v =>
    have h := appendJob_unwatched (.source node v time) s
    exact ⟨h.toSameWatches, h.counts, h.time⟩
  | cue => exact applyCue_watches s

/-- The end of a unit of work with no CLEAR MODEL waiting. -/
theorem endUnit_unwatched {s : State} (h : s.arbiter.clearPending = false) : Unwatched s (endUnit s) := by
  rw [endUnit, arbitrate_eq _ (by exact h)]
  exact ⟨.of_watch rfl, rfl, rfl, rfl⟩

/-! ### The causes of a hand-over -/

/-- At the end of a job the counts that differ from their values when it was taken are handed (R43). -/
theorem endJob_hands (j : JobInProgress) (s : State) :
    ∃ b, Hands (j.atTake.differ s.resolver.counts) s b ∧ Unwatched b (endJob j s) := by
  refine ⟨_, handCounts_hands j.atTake s, ?_⟩
  have reported : Unwatched (handCounts j.atTake s)
      { (if j.touched then report (handCounts j.atTake s) else handCounts j.atTake s) with
        resolver.current := none } := by
    split <;> exact ⟨.of_watch rfl, rfl, rfl, rfl⟩
  have closed (u : State) : Unwatched u (if u.resolver.queue.isEmpty then raise .settled u else takeJob u) := by
    split
    · exact (Unwatched.refl u).raise (by decide)
    · exact takeJob_unwatched u
  exact reported.trans (closed _)

theorem Stats.differ_of_eq {a b : Stats} (hl : b.maxLag = a.maxLag) (hd : b.discrepancies = a.discrepancies)
    (q : Quantity) : a.differ b q = false := by
  cases q <;> simp [Stats.differ, hl, hd]

/-- With a Sequencer grant the statistics that it changed are handed, once an entry has been applied; a fault and a
BACKLOG hold change none that is watched (R112, R114, R117, R122). -/
theorem serveEntry_hands (n : BufferName) (e : BitVec 64) (s : State) :
    ∃ a b, SameWatches s a ∧ a.resolver.counts = s.resolver.counts ∧ a.clock.time = s.clock.time ∧
      Hands (s.sequencer.stats.differ a.sequencer.stats) a b ∧ Unwatched b (serveEntry n e s) := by
  have standing : ∀ a : State, a.sequencer.stats.maxLag = s.sequencer.stats.maxLag →
      a.sequencer.stats.discrepancies = s.sequencer.stats.discrepancies →
      Hands (s.sequencer.stats.differ a.sequencer.stats) a a := fun a hl hd =>
    (Hands.none a).congr fun q => (Stats.differ_of_eq hl hd q).symm
  have advance : ∀ u, Unwatched u (advanceIndex n u) := fun u => setBuffer_unwatched ..
  unfold serveEntry
  dsimp only
  split
  · let a : State := { s with sequencer.stats.faults := saturate16 s.sequencer.stats.faults }
    have hfault : Unwatched a (raise .entryFault a) := (Unwatched.refl a).raise (by decide)
    exact ⟨a, a, .of_watch rfl, rfl, rfl, standing a rfl rfl, (hfault.trans (advance _)).trans (endSpent_unwatched ..)⟩
  split
  · refine ⟨s, s, .of_watch rfl, rfl, rfl, standing s rfl rfl, ?_⟩
    split
    · exact ⟨.of_watch rfl, rfl, rfl, rfl⟩
    · have hraise : Unwatched s (raise .backlog s) := (Unwatched.refl s).raise (by decide)
      exact hraise.trans ⟨.of_watch rfl, rfl, rfl, rfl⟩
  · let u : State := { s with sequencer.stats := s.sequencer.stats.afterEntry s.clock (entryTime e) }
    have hu : SameWatches s u := .of_watch rfl
    obtain ⟨hw, hc, ht⟩ := applyPlan_watches (entryTime e) (planEntry s e) u
    have hadv := advance (applyPlan (entryTime e) (planEntry s e) u)
    exact ⟨_, _, hu.trans (hw.trans hadv.toSameWatches), hadv.counts.trans hc,
      hadv.time.trans ht, handStats_hands .., endSpent_unwatched ..⟩

theorem applyPlan_clearPending (time : Nat) (p : EntryPlan) (s : State) :
    (applyPlan time p s).arbiter.clearPending = s.arbiter.clearPending := by
  cases p with
  | fault => rfl
  | switch sw old new disc =>
    rw [applyPlan]
    dsimp only
    split <;> simp
  | source node v => simp [applyPlan]
  | cue =>
    rw [applyPlan, applyCue]
    split <;> rfl

theorem serveEntry_clearPending (n : BufferName) (e : BitVec 64) (s : State) :
    (serveEntry n e s).arbiter.clearPending = s.arbiter.clearPending := by
  unfold serveEntry
  dsimp only
  split
  · simp
  split
  · split <;> simp
  · simp [applyPlan_clearPending]

/-! ### The obligation -/

theorem Counts.differ_iff {s t : State} (h : t.sequencer.stats = s.sequencer.stats) (q : Quantity) :
    s.resolver.counts.differ t.resolver.counts q = true ↔ s.quantity q ≠ t.quantity q := by
  cases q <;> simp [Counts.differ, State.quantity, h]

theorem Stats.differ_iff {s t : State} (h : t.resolver.counts = s.resolver.counts) (q : Quantity) :
    s.sequencer.stats.differ t.sequencer.stats q = true ↔ s.quantity q ≠ t.quantity q := by
  cases q <;> simp [Stats.differ, State.quantity, h]

theorem compileEnd_changes {s : State} (hg : s.arbiter.grant = .compileRestore) (hr : s.run.state = .compiling)
    (hs : s.run.compileStage = some .labelling) (hc : s.arbiter.clearPending = false) :
    ∃ t, exec .compileEnd s = .next t ∧ HandsChanges s.quantity s t := by
  obtain ⟨a, w, ha, hw, e⟩ := compileEnd_eq s
  refine ⟨_, (exec_compileEnd hg hr hs hc).1, ?_⟩
  rw [e]
  subst ha
  refine hw.changes (.of_watch rfl) ?_ (Counts.differ_iff rfl)
  exact (Unwatched.raise ⟨.of_watch rfl, rfl, rfl, rfl⟩ (by decide)).trans ⟨.of_watch rfl, rfl, rfl, rfl⟩

theorem clearModel_changes {check : Option Byte} {s : State} (h : Taken .clearModel check s)
    (hg : s.arbiter.grant = .none ∨ s.arbiter.grant = .compileRestore) :
    ∃ t, exec (.clearModel check) s = .next t ∧ t.clock.time = 0 ∧ HandsChanges s.quantity s t ∧
      ∀ q, t.quantity q = 0 := by
  obtain ⟨w, hw, hexec⟩ := hostCommand_clearModel h hg
  have zero : ∀ q, s.emptied.quantity q = 0 := fun q => by cases q <;> rfl
  have watches : SameWatches s s.emptied :=
    ⟨(emptied_watch s).2, fun n => emptied_flag (by revert n; decide) s⟩
  refine ⟨_, hexec, rfl, ?_, fun q => by cases q <;> rfl⟩
  refine hw.changes (watches.trans (.of_watch rfl)) ⟨.of_watch rfl, rfl, rfl, rfl⟩ fun q => ?_
  rw [decide_eq_true_iff]
  cases q <;> rfl

theorem applyEntry_changes {n : BufferName} {e : BitVec 64} {s : State} (hg : s.arbiter.grant = .sequencer)
    (hh : s.sequencer.head = some (n, e)) (hc : s.arbiter.clearPending = false) :
    ∃ t, exec .applyEntry s = .next t ∧ t.clock.time = s.clock.time ∧ HandsChanges s.quantity s t := by
  have hf : finishLinkGrant s = s := by rw [finishLinkGrant, if_neg (by rw [hg]; decide)]
  have hexec : exec .applyEntry s = .next (endUnit (serveEntry n e s)) := by
    show engineStep sequencerWork s = _
    rw [engineStep, hf, sequencerWork, if_pos hg, hh]
    rfl
  obtain ⟨a, b, hs, hcounts, htime, hab, hu⟩ := serveEntry_hands n e s
  have hend := hu.trans (endUnit_unwatched ((serveEntry_clearPending n e s).trans hc))
  exact ⟨_, hexec, hend.time.trans ((Evaluates.time hab).trans htime), hab.changes hs hend (Stats.differ_iff hcounts)⟩

/-- Settles O40: one law of the hand-over, and each cause as a hand-over of what it changed. -/
theorem changedQuantitiesAreHanded : Obligations.ChangedQuantitiesAreHanded := by
  refine ⟨fun q s => ?_, fun j s => ?_, fun s hg hr hs hc => compileEnd_changes hg hr hs hc,
    fun check s h hg => clearModel_changes h hg, fun n e s hg hh hc => applyEntry_changes hg hh hc⟩
  · have h := handOver_hands q s
    refine ⟨Evaluates.rest h, fun n => ⟨?_, Evaluates.flag h n⟩, Evaluates.other h⟩
    rw [Evaluates.condition h]
    by_cases hq : (s.watch.conditions.get n).quantity = q <;> simp [hq]
  · obtain ⟨b, hb, hu⟩ := endJob_hands j s
    refine hb.changes (.of_watch rfl) hu fun q => ?_
    cases q <;> simp [Counts.differ, State.quantity]

end Sys2Proof.Machine
end

section
/-! SUPPORT. What a step is made of, said once for every invariant: a step is a chain of parts, each one operation of
the model met where its guard holds, so that what every part keeps every step keeps. -/

namespace Sys2Proof.Machine

/-! ### The parts of a step -/

/-- One part of a step: an operation of the model, with the guard under which a step carries it out. -/
inductive Part : State → State → Prop
  /-- The Link Port alone is written. -/
  | link {s t : State} (h : t = { s with link := t.link }) : Part s t
  /-- The front command leaves the queue. -/
  | front (rest : List Instr) (s : State) : Part s { s with pending := rest }
  /-- The end of a step or of an edge (R70, R79). -/
  | arbitrate (s : State) : Part s (arbitrate s)
  /-- A unit of work ends its grant (R68). -/
  | release (s : State) : Part s (releaseGrant s)
  /-- A command places its claim (R75). -/
  | claim (s : State) : Part s { s with arbiter.linkClaim := true }
  /-- A command does what it is for (R76, R78, R79). -/
  | carryOut (c : Command) (s : State) : Part s (carryOut c s)
  /-- A check byte does not match (R186). -/
  | badCheck (s : State) : Part s (raise .linkCheck s)
  /-- A READ EVENTS makes its capture (R154). -/
  | capture (s : State) : Part s (captureEvents s)
  /-- A byte of a batch entry (R101). -/
  | gather (byte : Byte) (s : State) : Part s (gatherByte byte s)
  /-- SEL rises (R183). -/
  | endFrame (s : State) : Part s (endFrame s)
  /-- A cue line is sampled, with the HOLD condition formed anew (R162, R164). -/
  | sample (n : Fin 8) (level : Bool) (s : State) :
      Part s (refreshHold (setCue n ((s.panel.cues.get n).sampled level) s))
  /-- An asserting edge sets the flag of its line (R163). -/
  | edge (n : Fin 8) (s : State) : Part s (setCue n { s.panel.cues.get n with flag := true } s)
  /-- An edge whose interrupt enable is on (R163). -/
  | cueLine (s : State) : Part s (raise .cueLine s)
  /-- The function of an edge (R134). -/
  | takeFunction (f : CueFunction) (s : State) : Part s (takeFunction f s)
  /-- The pacing tick (R83). -/
  | tick (s : State) : Part s (pacingTick s)
  /-- The flash phase turns (R171). -/
  | flash (s : State) : Part s (flashPhaseTurn s)
  /-- Hardware reset (R19). -/
  | reset (lmode0 lmode1 lchk selLow : Bool) (s : State) :
      Part s (State.afterReset lmode0 lmode1 lchk selLow s.pending)
  /-- The stages of compile (R10 to R14). -/
  | compileLists {s : State} (grant : s.arbiter.grant = .compileRestore) (run : s.run.state = .compiling)
      (stage : s.run.compileStage = some .incidence) : Part s (compileIncidenceLists s)
  | compileValues {s : State} (grant : s.arbiter.grant = .compileRestore) (run : s.run.state = .compiling)
      (stage : s.run.compileStage = some .starting) : Part s (compileStartingValues s)
  | compileEnd {s : State} (grant : s.arbiter.grant = .compileRestore) (run : s.run.state = .compiling)
      (stage : s.run.compileStage = some .labelling) : Part s (compileEnd s)
  /-- The stages of restore (R138 to R140). -/
  | restoreFirst {s : State} (grant : s.arbiter.grant = .compileRestore) (run : s.run.state = .restoring)
      (stage : s.run.restoreStage = some .first) : Part s (restoreFirstStage s)
  | restoreSecond {s : State} (grant : s.arbiter.grant = .compileRestore) (run : s.run.state = .restoring)
      (stage : s.run.restoreStage = some .second) : Part s (restoreSecondStage s)
  | restoreEnd {s : State} (grant : s.arbiter.grant = .compileRestore) (run : s.run.state = .restoring)
      (stage : s.run.restoreStage = some .labelling) : Part s (restoreEnd s)
  /-- The Sequencer serves the head entry (R112). -/
  | serve {n : BufferName} {e : BitVec 64} {s : State} (grant : s.arbiter.grant = .sequencer)
      (head : s.sequencer.head = some (n, e)) : Part s (serveEntry n e s)
  /-- The claims of the job in progress (R49 to R57). -/
  | mergeGuard {sw cause : Nat} {j : JobInProgress} {s : State} (grant : s.arbiter.grant = .resolver)
      (current : s.resolver.current = some j) (job : j.job = .merge sw cause) (stage : j.stage = .guard) :
      Part s (mergeGuard sw j s)
  | mergeRelabel {sw cause : Nat} {j : JobInProgress} {s : State} (grant : s.arbiter.grant = .resolver)
      (current : s.resolver.current = some j) (job : j.job = .merge sw cause) (stage : j.stage = .relabel) :
      Part s (mergeRelabel cause j s)
  | splitGuard {sw cause : Nat} {j : JobInProgress} {s : State} (grant : s.arbiter.grant = .resolver)
      (current : s.resolver.current = some j) (job : j.job = .split sw cause) (stage : j.stage = .guard) :
      Part s (splitGuard sw j s)
  | splitTurn {sw cause : Nat} {j : JobInProgress} {s : State} (grant : s.arbiter.grant = .resolver)
      (current : s.resolver.current = some j) (job : j.job = .split sw cause) (stage : j.stage = .search) :
      Part s (splitTurn j s)
  | splitRelabel {sw cause : Nat} {j : JobInProgress} {s : State} (grant : s.arbiter.grant = .resolver)
      (current : s.resolver.current = some j) (job : j.job = .split sw cause) (stage : j.stage = .relabel) :
      Part s (splitRelabel cause j s)
  | sourceJob {n cause : Nat} {v : Bool} {j : JobInProgress} {s : State} (grant : s.arbiter.grant = .resolver)
      (current : s.resolver.current = some j) (job : j.job = .source n v cause) (stage : j.stage = .guard) :
      Part s (sourceJob n v cause j s)

/-- A chain of parts. -/
abbrev Parts : State → State → Prop := Relation.ReflTransGen Part

theorem Part.parts {s t : State} (h : Part s t) : Parts s t := .single h

/-- What writes the Link Port alone is one part. -/
theorem Parts.of_link {s t : State} (h : t = { s with link := t.link }) : Parts s t := (Part.link h).parts

/-! ### The link -/

theorem answer_parts (st : Status) (data : List Byte) (s : State) : Parts s (answer st data s) := Parts.of_link rfl

theorem endUnit_parts (s : State) : Parts s (endUnit s) := (Part.release s).parts.trans (Part.arbitrate _).parts

theorem finishLinkGrant_parts (s : State) : Parts s (finishLinkGrant s) := by
  unfold finishLinkGrant
  split
  · split
    · rename_i c _
      refine (Part.carryOut c s).parts.trans (.trans ?_ (Part.arbitrate _).parts)
      unfold endLinkGrant
      split
      · exact (Part.release _).parts
      · exact .refl
    · exact .refl
  · exact .refl

theorem readRecord_parts (x : Stream) (s : State) : Parts s (readRecord x s) := by
  refine Parts.of_link ?_
  unfold readRecord pushRecord
  dsimp only
  split <;> rfl

theorem readAwaited_parts (s : State) : Parts s (readAwaited s) := by
  obtain h | ⟨x, -, -, -, -, h⟩ := readAwaited_cases s <;> rw [h]
  exact (readRecord_parts x s).trans (endUnit_parts _)

theorem finishLink_parts (s : State) : Parts s (finishLink s) :=
  (finishLinkGrant_parts s).trans (readAwaited_parts _)

theorem placeClaim_parts (s : State) : Parts s (placeClaim s) :=
  ((Part.claim s).parts.trans (Part.arbitrate _).parts).trans (finishLinkGrant_parts _)

theorem beginWait_parts (s : State) : Parts s (beginWait s) := by
  obtain ⟨h, -⟩ | ⟨h, -⟩ := beginWait_cases s <;> rw [h]
  exact Parts.of_link rfl

theorem decideCommand_parts (c : Command) (s : State) : Parts s (decideCommand c s) := by
  have latched : Parts s { s with link.frame := .waiting, link.taken := some c } := Parts.of_link rfl
  unfold decideCommand
  refine latched.trans ?_
  dsimp only
  split
  · exact (Part.carryOut c _).parts
  · exact (Part.carryOut c _).parts.trans (beginWait_parts _)
  · split
    · exact answer_parts ..
    · exact (placeClaim_parts _).trans (beginWait_parts _)

theorem refuseCheck_parts (c : Command) (s : State) : Parts s (refuseCheck c s) := by
  unfold refuseCheck
  refine (Part.badCheck s).parts.trans ?_
  dsimp only
  split
  · exact Parts.of_link rfl
  · exact answer_parts ..

theorem testCheck_parts (c : Command) (byte : Byte) (s : State) : Parts s (testCheck c byte s) := by
  unfold testCheck
  split
  · exact decideCommand_parts c s
  · exact refuseCheck_parts c s

theorem endArguments_parts (c : Command) (s : State) : Parts s (endArguments c s) := by
  unfold endArguments
  split
  · exact Parts.of_link rfl
  · exact decideCommand_parts c s

theorem commandByte_parts (code : Byte) (s : State) : Parts s (commandByte code s) := by
  have latched : Parts s (latchCode code s) := Parts.of_link rfl
  unfold commandByte
  refine latched.trans ?_
  dsimp only
  split
  · exact answer_parts ..
  · split
    · exact endArguments_parts ..
    · exact Parts.of_link rfl

theorem argumentByte_parts (byte : Byte) (s : State) : Parts s (argumentByte byte s) := by
  have latched : Parts s (latchArgument byte s) := Parts.of_link rfl
  unfold argumentByte
  refine latched.trans ?_
  dsimp only
  split
  · exact endArguments_parts ..
  · exact .refl

theorem checkByte_parts (byte : Byte) (s : State) : Parts s (checkByte byte s) := by
  unfold checkByte
  split
  · exact testCheck_parts ..
  · exact .refl

theorem endReply_parts (s : State) : Parts s (endReply s) := by
  refine Parts.of_link ?_
  unfold endReply
  split
  · rfl
  · split <;> rfl

theorem takeItems_parts (s : State) : Parts s (takeItems s) := by
  cases hl : s.link.late with
  | none => rw [takeItems_none hl]
  | some r =>
    rw [takeItems_some hl]
    refine .trans (b := r.effect s) ?_ (Parts.of_link rfl)
    cases r with
    | events => exact (Part.capture s).parts
    | status => exact .refl
    | interrupt => exact .refl
    | lines => exact .refl

theorem sendStatus_parts (s : State) : Parts s (sendStatus s) := by
  obtain ⟨u, hu, h⟩ := sendStatus_cases s
  refine .trans (b := u) ((takeItems_parts s).trans (by rw [hu]; exact Parts.of_link rfl)) ?_
  obtain ⟨-, h⟩ | ⟨-, -, h⟩ | ⟨-, -, -, h⟩ | ⟨-, -, -, h⟩ := h <;> rw [h]
  · exact Parts.of_link rfl
  · exact Parts.of_link rfl
  · exact endReply_parts u
  · exact Parts.of_link rfl

theorem endStatus_parts (s : State) : Parts s (endStatus s) := by
  unfold endStatus
  split
  · exact Parts.of_link rfl
  · exact sendStatus_parts s

theorem sendReply_parts (s : State) : Parts s (sendReply s) := by
  have sent : Parts s { s with link.reply := s.link.reply.tail } := Parts.of_link rfl
  unfold sendReply
  refine sent.trans ?_
  dsimp only
  split
  · exact endReply_parts _
  · exact .refl

/-- One byte position. -/
theorem hostByte_parts (s : State) (byte : Byte) : Parts s (hostByte s byte) := by
  unfold hostByte
  split
  · exact .refl
  · exact commandByte_parts byte s
  · exact argumentByte_parts byte s
  · exact checkByte_parts byte s
  · exact beginWait_parts s
  · exact ((endStatus_parts s).trans (readAwaited_parts _)).trans (beginWait_parts _)
  · exact ((sendReply_parts s).trans (readAwaited_parts _)).trans (beginWait_parts _)
  · exact (Part.gather byte s).parts
  · exact .refl
  · exact .refl

theorem hostBytes_parts (bytes : List Byte) (s : State) : Parts s (hostBytes bytes s) := by
  unfold hostBytes
  induction bytes generalizing s with
  | nil => exact .refl
  | cons b l ih => exact (hostByte_parts s b).trans (ih _)

theorem hostCommand_parts (c : Command) (check : Option Byte) (s : State) : Parts s (hostCommand c check s) := by
  have latched : Parts s
      { s with
        link.code := some c.code
        link.args := c.argBytes
        link.xor := xorBytes c.argBytes
        link.waitBegun := false
        link.frameCheck := s.link.checkMode } := Parts.of_link rfl
  unfold hostCommand
  split
  · refine latched.trans ?_
    dsimp only
    split
    · exact testCheck_parts ..
    · exact Parts.of_link rfl
    · exact (decideCommand_parts ..).trans (hostByte_parts ..)
    · exact decideCommand_parts ..
  · exact (finishLink_parts s).trans (hostBytes_parts ..)

theorem selRelease_parts (clocked : List Byte) (s : State) : Parts s (selRelease clocked s) :=
  ((finishLink_parts s).trans (hostBytes_parts ..)).trans (Part.endFrame _).parts

theorem batchEntry_parts (bytes : List Byte) (s : State) :
    Parts s (hostBytes bytes (readStatusFirst (finishLink s))) := by
  refine ((finishLink_parts s).trans ?_).trans (hostBytes_parts ..)
  unfold readStatusFirst
  split
  · exact sendStatus_parts _
  · exact .refl

theorem selAssert_parts (s : State) : Parts s (selAssert s) := by
  refine Parts.of_link ?_
  unfold selAssert
  split <;> rfl

/-! ### The cue lines -/

theorem assertingEdge_parts (n : Fin 8) (s : State) : Parts s (assertingEdge n s) := by
  unfold assertingEdge
  refine (Part.edge n s).parts.trans (.trans ?_ (Part.arbitrate _).parts)
  split
  · exact (Part.cueLine _).parts.trans (Part.takeFunction _ _).parts
  · exact (Part.takeFunction _ _).parts

theorem sampleLine_parts (levels : Byte) (s : State) (n : Fin 8) : Parts s (sampleLine levels s n) := by
  unfold sampleLine
  refine (Part.sample n (levels.getLsbD n.val) s).parts.trans ?_
  dsimp only
  split
  · exact assertingEdge_parts n _
  · exact .refl

theorem sampleEvent_parts (levels : Byte) (order : List (Fin 8)) (s : State) :
    Parts s (sampleEvent levels order s) := by
  unfold sampleEvent
  induction cueOrder order generalizing s with
  | nil => exact .refl
  | cons n l ih => exact (sampleLine_parts levels s n).trans (ih _)

/-! ### The engines -/

/-- The step of an engine is the end of a LINK grant and then its work, if it is due. -/
theorem engineStep_parts {work : State → Option State} {s t : State} (h : engineStep work s = .next t)
    (hw : ∀ u v, work u = some v → Parts u v) : Parts s t := by
  unfold engineStep at h
  cases hv : work (finishLinkGrant s) with
  | none =>
    rw [hv] at h
    cases h
    exact finishLinkGrant_parts s
  | some v =>
    rw [hv] at h
    cases h
    exact (finishLinkGrant_parts s).trans (hw _ _ hv)

theorem compileWork_parts {stage : CompileStage} {effect : State → State} {s t : State}
    (h : compileWork stage effect s = some t)
    (he : s.arbiter.grant = .compileRestore → s.run.state = .compiling → s.run.compileStage = some stage →
      Part s (effect s)) : Parts s t := by
  unfold compileWork at h
  split at h
  · rename_i hd
    cases h
    exact (he hd.1 hd.2.1 hd.2.2).parts.trans (Part.arbitrate _).parts
  · cases h

theorem restoreWork_parts {stage : RestoreStage} {effect : State → State} {s t : State}
    (h : restoreWork stage effect s = some t)
    (he : s.arbiter.grant = .compileRestore → s.run.state = .restoring → s.run.restoreStage = some stage →
      Part s (effect s)) : Parts s t := by
  unfold restoreWork at h
  split at h
  · rename_i hd
    cases h
    exact (he hd.1 hd.2.1 hd.2.2).parts.trans (Part.arbitrate _).parts
  · cases h

theorem streamWork_parts {s t : State} (h : streamWork s = some t) : Parts s t := by
  unfold streamWork at h
  split at h
  · rename_i x _ _ _
    cases h
    exact (readRecord_parts x s).trans (endUnit_parts _)
  · cases h

theorem sequencerWork_parts {s t : State} (h : sequencerWork s = some t) : Parts s t := by
  unfold sequencerWork at h
  split at h
  · rename_i hg
    obtain ⟨⟨n, e⟩, hh, rfl⟩ := Option.map_eq_some_iff.1 h
    exact (Part.serve hg hh).parts.trans (endUnit_parts _)
  · cases h

theorem resolverWork_parts {unit : JobInProgress → Option (State → State)} {s t : State}
    (h : resolverWork unit s = some t)
    (hu : ∀ (j : JobInProgress) (effect : State → State), unit j = some effect → s.arbiter.grant = .resolver →
      s.resolver.current = some j → Part s (effect s)) : Parts s t := by
  unfold resolverWork at h
  split at h
  · rename_i hg
    obtain ⟨effect, he, rfl⟩ := Option.map_eq_some_iff.1 h
    obtain ⟨j, hj, hje⟩ := Option.bind_eq_some_iff.1 he
    exact (hu j effect hje hg hj).parts.trans (endUnit_parts _)
  · cases h

/-! ### A step -/

/-- Every row is a chain of parts. -/
theorem exec_parts (i : Instr) {s t : State} (h : exec i s = .next t) : Parts s t := by
  cases i
  case hardwareReset lmode0 lmode1 lchk selLow => cases h; exact (Part.reset ..).parts
  case selAssert => cases h; exact selAssert_parts s
  case selRelease clocked => cases h; exact selRelease_parts clocked s
  case unknownCommand code => cases h; exact (finishLink_parts s).trans (hostByte_parts ..)
  case batchEntry bytes => cases h; exact batchEntry_parts bytes s
  case compileIncidenceLists => exact engineStep_parts h fun u v hv => compileWork_parts hv .compileLists
  case compileStartingValues => exact engineStep_parts h fun u v hv => compileWork_parts hv .compileValues
  case compileEnd => exact engineStep_parts h fun u v hv => compileWork_parts hv .compileEnd
  case restoreFirstStage => exact engineStep_parts h fun u v hv => restoreWork_parts hv .restoreFirst
  case restoreSecondStage => exact engineStep_parts h fun u v hv => restoreWork_parts hv .restoreSecond
  case restoreEnd => exact engineStep_parts h fun u v hv => restoreWork_parts hv .restoreEnd
  case readTableRecord => exact engineStep_parts h fun u v hv => streamWork_parts hv
  case applyEntry => exact engineStep_parts h fun u v hv => sequencerWork_parts hv
  case mergeGuard =>
    refine engineStep_parts h fun u v hv => resolverWork_parts hv fun j effect he hg hj => ?_
    split at he <;> cases he
    exact .mergeGuard hg hj ‹_› ‹_›
  case mergeRelabel =>
    refine engineStep_parts h fun u v hv => resolverWork_parts hv fun j effect he hg hj => ?_
    split at he <;> cases he
    exact .mergeRelabel hg hj ‹_› ‹_›
  case splitGuard =>
    refine engineStep_parts h fun u v hv => resolverWork_parts hv fun j effect he hg hj => ?_
    split at he <;> cases he
    exact .splitGuard hg hj ‹_› ‹_›
  case splitVisit =>
    refine engineStep_parts h fun u v hv => resolverWork_parts hv fun j effect he hg hj => ?_
    split at he <;> cases he
    exact .splitTurn hg hj ‹_› ‹_›
  case splitRelabel =>
    refine engineStep_parts h fun u v hv => resolverWork_parts hv fun j effect he hg hj => ?_
    split at he <;> cases he
    exact .splitRelabel hg hj ‹_› ‹_›
  case sourceJob =>
    refine engineStep_parts h fun u v hv => resolverWork_parts hv fun j effect he hg hj => ?_
    split at he <;> cases he
    exact .sourceJob hg hj ‹_› ‹_›
  case pacingTick => cases h; exact (Part.tick s).parts.trans (Part.arbitrate _).parts
  case sampleEvent levels order =>
    cases h
    exact (sampleEvent_parts levels order s).trans (Part.arbitrate _).parts
  case flashPhaseTurn => cases h; exact (Part.flash s).parts
  all_goals cases h; exact hostCommand_parts ..

/-- Every step of the machine is a chain of parts. -/
theorem step_parts {s t : State} (h : step s = .next t) : Parts s t := by
  unfold step at h
  split at h
  · cases h
    exact finishLinkGrant_parts s
  · rename_i c rest _
    exact (Part.front rest s).parts.trans (exec_parts c h)

/-- What every part keeps, every step keeps. -/
theorem step_keeps {P : State → Prop} (hP : ∀ s t, P s → Part s t → P t) {s t : State} (hs : P s)
    (h : step s = .next t) : P t := by
  have chain : ∀ {u : State}, Parts s u → P u := fun hu => by
    induction hu with
    | refl => exact hs
    | tail _ hp ih => exact hP _ _ ih hp
  exact chain (step_parts h)

end Sys2Proof.Machine
end

section
/-! SUPPORT. The work queue and the jobs that changed switches append (R23, R44, R45): what appending makes of the
resolver, and SET POLICY as the jobs it appends (R25, R26). -/

namespace Sys2Proof.Machine

/-! ### Appending jobs -/

/-- Several jobs are appended, one after the other. -/
def appendJobs (js : List Job) (s : State) : State := js.foldl (fun s j => appendJob j s) s

@[simp] theorem appendJobs_nil (s : State) : appendJobs [] s = s := rfl

theorem appendJobs_cons (j : Job) (js : List Job) (s : State) :
    appendJobs (j :: js) s = appendJobs js (appendJob j s) := rfl

theorem appendJobs_append (js ks : List Job) (s : State) :
    appendJobs (js ++ ks) s = appendJobs ks (appendJobs js s) := List.foldl_append

/-- Behind a job in progress a job waits in the queue (R44). -/
theorem appendJob_busy {s : State} (h : s.resolver.current ≠ none) (j : Job) :
    appendJob j s = { s with resolver.queue := s.resolver.queue ++ [j] } := by
  rw [appendJob, if_neg (by simpa using h)]

/-- With no job in progress and none queued a job is taken at once (R45, R117; log 17). -/
theorem appendJob_idle {s : State} (h : s.resolver.current = none) (hq : s.resolver.queue = []) (j : Job) :
    appendJob j s =
      { s with
        resolver.current := some (JobInProgress.begin j s.resolver.counts)
        clock.backlog := false } := by
  rw [appendJob, if_pos (by simp [h])]
  simp [takeJob, hq]

theorem appendJobs_busy {s : State} (h : s.resolver.current ≠ none) (js : List Job) :
    appendJobs js s = { s with resolver.queue := s.resolver.queue ++ js } := by
  induction js generalizing s with
  | nil => simp
  | cons j js ih =>
    rw [appendJobs_cons, appendJob_busy h, ih (by exact h)]
    simp

/-- On a settled part with no BACKLOG hold the first job is taken and the others wait. -/
theorem appendJobs_idle {s : State} (h : s.resolver.current = none) (hq : s.resolver.queue = [])
    (hb : s.clock.backlog = false) (js : List Job) :
    appendJobs js s =
      { s with
        resolver.queue := js.tail
        resolver.current := js.head?.map fun j => JobInProgress.begin j s.resolver.counts } := by
  cases js with
  | nil =>
    rw [appendJobs_nil, List.tail_nil, List.head?_nil, Option.map_none, ← h, ← hq]
  | cons j js =>
    rw [appendJobs_cons, appendJob_idle h hq, appendJobs_busy (by simp)]
    simp [hq, ← hb]

/-- Writing a table before or after the jobs are appended comes to the same. -/
theorem appendJob_writeStore (j : Job) (st : Store) (s : State) :
    appendJob j { s with store := st } = { appendJob j s with store := st } := by
  unfold appendJob takeJob
  dsimp only
  repeat' split
  all_goals rfl

theorem appendJobs_writeStore (js : List Job) (st : Store) (s : State) :
    appendJobs js { s with store := st } = { appendJobs js s with store := st } := by
  induction js generalizing s with
  | nil => rfl
  | cons j js ih => rw [appendJobs_cons, appendJob_writeStore, ih]; rfl

@[simp] theorem appendJobs_store (js : List Job) (s : State) : (appendJobs js s).store = s.store := by
  rw [show s = { s with store := s.store } from rfl, appendJobs_writeStore]

@[simp] theorem appendJob_time (j : Job) (s : State) : (appendJob j s).clock.time = s.clock.time :=
  (appendJob_unwatched j s).time

@[simp] theorem appendJobs_time (js : List Job) (s : State) : (appendJobs js s).clock.time = s.clock.time := by
  induction js generalizing s with
  | nil => rfl
  | cons j js ih => rw [appendJobs_cons, ih, appendJob_time]

/-! ### The job of a changed switch (R23) -/

/-- The job that a switch's new record asks for: one exactly when the effective position changed. -/
def changeJob (sw : Nat) (old new : SwitchRec) (cause : Nat) : Option Job :=
  if old.effective = new.effective then none else some (jobFor sw new.effective cause)

/-- A switch's new record is written, and its job appended. -/
theorem commitSwitch_eq (sw : Nat) (old new : SwitchRec) (cause : Nat) (s : State) :
    commitSwitch sw old new cause s =
      appendJobs (changeJob sw old new cause).toList
        { s with store.switches := Tab.put s.store.switches sw new } := by
  unfold commitSwitch changeJob
  dsimp only
  split <;> rfl

/-! ### SET POLICY (R25, R26) -/

/-- The INVALID switches of a table, in ascending order (R26). -/
def Store.invalidSwitches (st : Store) : Tab SwitchRec :=
  st.switches.filter fun q => decide (q.2.archived = .invalid)

/-- The switch table with the switches of `l` derived under the policy. -/
def rederiveSwitches (p : Policy) (l t : Tab SwitchRec) : Tab SwitchRec :=
  l.foldl (fun t q => Tab.put t q.1 (q.2.underPolicy p)) t

/-- The tables with every INVALID switch derived under the policy (R26). -/
def Store.underPolicy (p : Policy) (st : Store) : Store :=
  { st with switches := rederiveSwitches p st.invalidSwitches st.switches }

/-- The jobs that the switches of `l` ask for under the policy (R23, R26). -/
def policyJobs (p : Policy) (time : Nat) (l : Tab SwitchRec) : List Job :=
  l.filterMap fun q => changeJob q.1 q.2 (q.2.underPolicy p) time

/-- SET POLICY writes the policy and the INVALID switches, and appends their jobs. -/
theorem applyPolicy_eq (p : Policy) (s : State) :
    applyPolicy p s =
      appendJobs (policyJobs p s.clock.time s.store.invalidSwitches)
        { s with policy := p, store := s.store.underPolicy p } := by
  have fold : ∀ (l : Tab SwitchRec) (u : State),
      l.foldl (fun s q => commitSwitch q.1 q.2 (q.2.underPolicy p) s.clock.time s) u =
        appendJobs (policyJobs p u.clock.time l)
          { u with store.switches := rederiveSwitches p l u.store.switches } := by
    intro l
    induction l with
    | nil => intro u; rfl
    | cons q l ih =>
      intro u
      have jobs : policyJobs p u.clock.time (q :: l) =
          (changeJob q.1 q.2 (q.2.underPolicy p) u.clock.time).toList ++ policyJobs p u.clock.time l := by
        unfold policyJobs
        rw [List.filterMap_cons]
        cases changeJob q.1 q.2 (q.2.underPolicy p) u.clock.time <;> rfl
      rw [List.foldl_cons, ih, commitSwitch_eq, appendJobs_time, appendJobs_store, jobs, appendJobs_append,
        ← appendJobs_writeStore]
      rfl
  exact fold s.store.invalidSwitches { s with policy := p }

/-- Reading a table after several writes at different ids. -/
theorem rederiveSwitches_get (p : Policy) {l : Tab SwitchRec} (hl : (l.map (·.1)).Nodup) (t : Tab SwitchRec)
    (k : Nat) :
    Tab.get (rederiveSwitches p l t) k = ((Tab.get l k).map (·.underPolicy p)).or (Tab.get t k) := by
  induction l generalizing t with
  | nil => rfl
  | cons q l ih =>
    obtain ⟨i, r⟩ := q
    rw [List.map_cons, List.nodup_cons] at hl
    rw [rederiveSwitches, List.foldl_cons]
    refine (ih hl.2 _).trans ?_
    by_cases hk : k = i
    · subst hk
      have none : Tab.get l k = none :=
        Tab.get_eq_none fun q hq he => hl.1 (List.mem_map.2 ⟨q, hq, he⟩)
      simp [none, Tab.get]
    · simp [Tab.get, Ne.symm hk, Tab.get_put_other _ _ _ _ hk]

/-- Filtering a rising table by its records leaves an id what it held, or nothing. -/
theorem Tab.get_filter {α : Type} {t : Tab α} (h : Tab.Rising t = true) (f : α → Bool) (k : Nat) :
    Tab.get (t.filter fun q => f q.2) k = (Tab.get t k).filter f := by
  rw [Tab.rising_iff] at h
  induction t with
  | nil => rfl
  | cons q t ih =>
    obtain ⟨i, r⟩ := q
    have hi := ih h.of_cons
    by_cases hk : i = k
    · subst hk
      have none : Tab.get t i = none :=
        Tab.get_eq_none fun q hq => (Nat.ne_of_lt (List.rel_of_pairwise_cons h hq)).symm
      rw [none] at hi
      cases hf : f r <;> simp [Tab.get, hf, Option.filter, hi]
    · cases hf : f r <;> simp [Tab.get, hf, hk, hi]

/-- Each INVALID switch is derived under the policy and the others stand (R26). -/
theorem Store.underPolicy_switch {st : Store} (h : st.canonical = true) (p : Policy) (k : Nat) :
    (st.underPolicy p).switch k =
      (st.switch k).map fun r => if r.archived = .invalid then r.underPolicy p else r := by
  have rising := Store.switches_rising h
  have hnd : (st.invalidSwitches.map (·.1)).Nodup := by
    rw [List.Nodup, List.pairwise_map]
    exact (((Tab.rising_iff _).1 rising).filter _).imp fun h => Nat.ne_of_lt h
  refine (rederiveSwitches_get p hnd st.switches k).trans ?_
  rw [Store.invalidSwitches, Tab.get_filter rising (fun r => decide (r.archived = .invalid)) k]
  show _ = (Tab.get st.switches k).map _
  cases Tab.get st.switches k with
  | none => rfl
  | some r => by_cases hr : r.archived = .invalid <;> simp [Option.filter, hr]

/-! ### Derived positions and the count of changes (R22, R25) -/

/-- The effective position is the one R22 derives. -/
def SwitchRec.Derived (r : SwitchRec) : Prop := r.effective = deriveEffective r.retired r.override r.held

theorem SwitchRec.rederive_derived (r : SwitchRec) : r.rederive.Derived := rfl

theorem SwitchRec.underPolicy_derived (p : Policy) (r : SwitchRec) : (r.underPolicy p).Derived := rfl

theorem definedSwitch_derived (endA endB : Nat) (c : Contact) : (definedSwitch endA endB c).Derived := rfl

theorem SwitchRec.started_derived (r : SwitchRec) : r.started.Derived := rfl

theorem SwitchRec.applyReport_derived {r : SwitchRec} (h : r.Derived) (policy : Policy) (expected target : Position)
    (time : Nat) : (r.applyReport policy expected target time).Derived := by
  unfold SwitchRec.applyReport
  dsimp only
  split
  · exact h
  · exact SwitchRec.rederive_derived _

/-- A switch with a derived position is counted exactly when the policy changes its effective position (R25). -/
theorem SwitchRec.countsFor_iff {r : SwitchRec} (h : r.Derived) (hi : r.archived = .invalid) (p : Policy) :
    r.countsFor p = true ↔ r.effective ≠ (r.underPolicy p).effective := by
  have he : r.effective = deriveEffective r.retired r.override r.held := h
  have hu : (r.underPolicy p).effective = deriveEffective r.retired r.override (deriveHeld p .invalid r.held) := rfl
  rw [hu, he, SwitchRec.countsFor, deriveEffective, deriveEffective]
  cases r.retired with
  | true => simp
  | false =>
    cases r.override with
    | none => simpa [hi] using ne_comm
    | some x => simp

/-- The count of R25 is the number of jobs. -/
theorem Store.policyCount_eq {st : Store} (h : ∀ q ∈ st.switches, q.2.Derived) (p : Policy) (time : Nat) :
    st.policyCount p = (policyJobs p time st.invalidSwitches).length := by
  have count : ∀ l : Tab SwitchRec, (∀ q ∈ l, q.2.Derived) →
      (l.filter fun q => q.2.countsFor p).length =
        (policyJobs p time (l.filter fun q => decide (q.2.archived = .invalid))).length := by
    intro l
    induction l with
    | nil => exact fun _ => rfl
    | cons q l ih =>
      intro h
      have hl := ih fun r hr => h r (List.mem_cons_of_mem _ hr)
      by_cases hi : q.2.archived = .invalid
      · have hc := SwitchRec.countsFor_iff (h q (List.mem_cons_self ..)) hi p
        by_cases he : q.2.effective = (q.2.underPolicy p).effective
        · have hn : q.2.countsFor p = false := by simpa [he] using hc
          simpa [hi, hn, policyJobs, changeJob, he] using hl
        · simpa [hi, hc.2 he, policyJobs, changeJob, he] using hl
      · have hn : q.2.countsFor p = false := by simp [SwitchRec.countsFor, hi]
        simpa [hi, hn] using hl
  exact count st.switches h

end Sys2Proof.Machine
end

section
/-! The effective positions and the work queue (O57) (R22, R44, R45): what every part of a step keeps. -/

namespace Sys2Proof.Machine

/-! ### Derived tables -/

/-- Every switch's effective position is the one R22 derives. -/
def Store.Derived (st : Store) : Prop := ∀ q ∈ st.switches, q.2.Derived

theorem Store.Derived.congr {st u : Store} (h : st.Derived) (e : u.switches = st.switches) : u.Derived := by
  unfold Store.Derived
  rwa [e]

theorem Store.Derived.switch {st : Store} (h : st.Derived) {k : Nat} {r : SwitchRec} (hr : st.switch k = some r) :
    r.Derived := h _ (Tab.mem_of_get hr)

theorem put_derived {t : Tab SwitchRec} (h : ∀ q ∈ t, q.2.Derived) (k : Nat) {r : SwitchRec} (hr : r.Derived) :
    ∀ q ∈ Tab.put t k r, q.2.Derived := by
  intro q hq
  obtain rfl | hq := Tab.mem_put hq
  · exact hr
  · exact h q hq

theorem mapRecords_derived {f : Nat → SwitchRec → SwitchRec} (hf : ∀ k r, (f k r).Derived) (t : Tab SwitchRec) :
    ∀ q ∈ Tab.mapRecords f t, q.2.Derived := by
  intro q hq
  obtain ⟨r, -, e⟩ := Tab.mem_mapRecords.1 hq
  rw [e]
  exact hf _ _

theorem Store.Derived.underPolicy {st : Store} (h : st.Derived) (p : Policy) : (st.underPolicy p).Derived := by
  have fold : ∀ l t : Tab SwitchRec, (∀ q ∈ t, q.2.Derived) → ∀ q ∈ rederiveSwitches p l t, q.2.Derived := by
    intro l
    induction l with
    | nil => exact fun t ht => ht
    | cons q l ih => exact fun t ht => ih _ (put_derived ht q.1 (q.2.underPolicy_derived p))
  exact fold _ _ h

@[simp] theorem Store.unlinkMember_switches (st : Store) (n : Nat) : (st.unlinkMember n).switches = st.switches := by
  unfold Store.unlinkMember
  dsimp only
  repeat' split
  all_goals simp

@[simp] theorem Store.moveNode_switches (st : Store) (n dst cause : Nat) :
    (st.moveNode n dst cause).switches = st.switches := by
  unfold Store.moveNode
  split <;> simp

@[simp] theorem Store.setOnline_switches (st : Store) (n k : Nat) (v : Bool) (cause : Nat) :
    (st.setOnline n k v cause).switches = st.switches := by simp [Store.setOnline]

@[simp] theorem Store.retireAll_switches (st : Store) : st.retireAll.switches = st.switches :=
  (Store.retireEach_tables _ st).2

/-- The labelling writes no switch (R12). -/
@[simp] theorem Store.labelAll_switches (st : Store) (now : Nat) : (st.labelAll now).switches = st.switches := by
  have search : ∀ (k n : Nat) (u : Store), (u.labelIsland now k n).switches = u.switches := fun k n u => by
    rw [Store.labelIsland, Store.refreshFeed_switches]
    exact Store.labelSearch_keeps (P := fun v => v.switches = u.switches)
      (fun v m q hv _ _ => (Store.appendMember_switches v k m).trans hv) _ _ (by simp)
  have label : ∀ (fuel k : Nat) (u : Store), (Store.labelFrom now fuel k u).switches = u.switches := by
    intro fuel
    induction fuel with
    | zero => exact fun _ _ => rfl
    | succ fuel ih =>
      intro k u
      cases hn : u.firstUnlabelled with
      | none => rw [Store.labelFrom_none hn]
      | some n => rw [Store.labelFrom_some hn, ih, search]
  exact label _ _ _

/-! ### The queue of the resolver -/

/-- At most 64 jobs are queued, and none while no job is in progress (R44, R45). -/
def Resolver.Queued (r : Resolver) : Prop :=
  r.queue.length ≤ Config.queueCapacity ∧ (r.current = none → r.queue = [])

theorem queueInv_iff (s : State) : QueueInv s ↔ s.store.Derived ∧ s.resolver.Queued := .rfl

theorem Resolver.Queued.of_empty {r : Resolver} (h : r.queue = []) : r.Queued :=
  ⟨by rw [h]; exact Nat.zero_le _, fun _ => h⟩

theorem Resolver.Queued.congr {r u : Resolver} (h : r.Queued) (hq : u.queue = r.queue) (hc : u.current = r.current) :
    u.Queued := by
  unfold Resolver.Queued
  rwa [hq, hc]

/-- Jobs for which there is room leave at most 64 in the queue. -/
theorem Resolver.Queued.appendJobs {s : State} (h : s.resolver.Queued) {js : List Job}
    (room : s.resolver.queue.length + js.length ≤ Config.queueCapacity) : (appendJobs js s).resolver.Queued := by
  induction js generalizing s with
  | nil => exact h
  | cons j js ih =>
    rw [List.length_cons] at room
    by_cases hc : s.resolver.current = none
    · have hq := h.2 hc
      have idle := appendJob_idle hc hq j
      exact ih (s := appendJob j s) (.of_empty (by rw [idle]; exact hq)) (by rw [idle]; simp only; omega)
    · have busy := appendJob_busy hc j
      refine ih (s := appendJob j s) ?_ (by rw [busy]; simp only [List.length_append, List.length_singleton]; omega)
      rw [busy]
      exact ⟨by simp only [List.length_append, List.length_singleton]; omega, fun hn => absurd hn hc⟩

/-- The next job is taken as one ends (R45, R48). -/
theorem endJob_queued {s : State} (j : JobInProgress) (h : s.resolver.queue.length ≤ Config.queueCapacity) :
    (endJob j s).resolver.Queued := by
  have closed : ∀ u : State, u.resolver.queue.length ≤ Config.queueCapacity →
      (if u.resolver.queue.isEmpty then raise .settled u else takeJob u).resolver.Queued := by
    intro u hu
    unfold takeJob
    cases hq : u.resolver.queue with
    | nil => exact .of_empty hq
    | cons k rest =>
      rw [hq, List.length_cons] at hu
      exact ⟨Nat.le_of_succ_le hu, fun hn => by cases hn⟩
  unfold endJob
  refine closed _ ?_
  dsimp only
  split <;> simpa using h

/-! ### The parts of a step -/

theorem QueueInv.congr {s t : State} (h : QueueInv s) (hsw : t.store.switches = s.store.switches)
    (hq : t.resolver.queue = s.resolver.queue) (hc : t.resolver.current = s.resolver.current) : QueueInv t :=
  ⟨Store.Derived.congr h.1 hsw, Resolver.Queued.congr h.2 hq hc⟩

/-- What leaves the tables and the resolver alone. -/
theorem QueueInv.of_frame {s t : State} (h : QueueInv s) (hst : t.store = s.store) (hr : t.resolver = s.resolver) :
    QueueInv t := h.congr (by rw [hst]) (by rw [hr]) (by rw [hr])

theorem QueueInv.appendJobs {s : State} (h : QueueInv s) {js : List Job}
    (room : s.resolver.queue.length + js.length ≤ Config.queueCapacity) : QueueInv (appendJobs js s) :=
  (queueInv_iff _).2 ⟨Store.Derived.congr h.1 (by simp), Resolver.Queued.appendJobs h.2 room⟩

theorem QueueInv.appendJob {s : State} (h : QueueInv s) (j : Job) (room : s.hasRoom = true) :
    QueueInv (appendJob j s) := by
  rw [State.hasRoom, decide_eq_true_iff] at room
  exact h.appendJobs (js := [j]) room

/-- A switch record with a derived position is written where its job finds room. -/
theorem QueueInv.commitSwitch {s : State} (h : QueueInv s) (sw : Nat) (old : SwitchRec) {new : SwitchRec}
    (cause : Nat) (hnew : new.Derived) (room : old.effective ≠ new.effective → s.hasRoom = true) :
    QueueInv (commitSwitch sw old new cause s) := by
  have put : QueueInv { s with store.switches := Tab.put s.store.switches sw new } :=
    ⟨put_derived h.1 sw hnew, h.2⟩
  unfold Machine.commitSwitch
  dsimp only
  split
  · exact put
  · rename_i he
    exact put.appendJob _ (room he)

theorem clearModel_queueInv (s : State) : QueueInv (clearModel s) := by
  refine QueueInv.of_frame (s := s.emptied) ⟨fun q hq => ?_, Resolver.Queued.of_empty rfl⟩ ?_ ?_
  · cases hq
  · rw [Evaluates.rest (clearModel_hands s)]
  · rw [Evaluates.rest (clearModel_hands s)]

theorem QueueInv.arbitrate {s : State} (h : QueueInv s) : QueueInv (arbitrate s) := by
  unfold Machine.arbitrate
  dsimp only
  split
  · split
    · exact (clearModel_queueInv _).of_frame (answerClear_store _) (answerClear_resolver _)
    · exact h.of_frame rfl rfl
  · exact h.of_frame rfl rfl

theorem QueueInv.changeSwitch {s : State} (h : QueueInv s) (sw : Nat) (old : SwitchRec) {new : SwitchRec}
    (hnew : new.Derived) : QueueInv (changeSwitch sw old new s) := by
  unfold Machine.changeSwitch
  split
  · exact h.of_frame rfl rfl
  · rename_i hroom
    exact (h.commitSwitch sw old s.clock.time hnew fun he => by simpa [he] using hroom).of_frame rfl rfl

theorem QueueInv.grantSetPolicy {s : State} (h : QueueInv s) (policy : Byte) : QueueInv (grantSetPolicy policy s) := by
  have refused : ∀ st data, QueueInv (answer st data s) := fun st data => h.of_frame rfl rfl
  unfold Machine.grantSetPolicy
  split; · exact refused ..
  split
  · rename_i p _
    dsimp only
    split; · exact refused ..
    rename_i hroom
    have ⟨hd, hq, _⟩ := h
    rw [Store.policyCount_eq hd p s.clock.time] at hroom
    have put : QueueInv { s with policy := p, store := s.store.underPolicy p } :=
      ⟨Store.Derived.underPolicy hd p, h.2⟩
    rw [applyPolicy_eq]
    refine (put.appendJobs ?_).of_frame rfl rfl
    dsimp only
    omega
  · exact refused ..

/-- Every command keeps the invariant: five write the switch table or append jobs, two empty the queue, and the others
leave both alone. -/
theorem QueueInv.carryOut {s : State} (h : QueueInv s) (c : Command) : QueueInv (carryOut c s) := by
  cases c <;> simp only [Machine.carryOut]
  case defineSwitch sw endA endB position =>
    unfold grantDefineSwitch
    repeat' split
    case h_1 => exact ⟨put_derived h.1 _ (definedSwitch_derived ..), h.2⟩
    all_goals exact h.of_frame rfl rfl
  case setPolicy policy => exact h.grantSetPolicy policy
  case overrideSwitch sw action =>
    unfold grantOverrideSwitch
    repeat' split
    case h_1 => exact h.changeSwitch _ _ (SwitchRec.rederive_derived _)
    all_goals exact h.of_frame rfl rfl
  case retireSwitch sw =>
    unfold grantRetireSwitch
    repeat' split
    case h_1.isFalse => exact h.changeSwitch _ _ (SwitchRec.rederive_derived _)
    all_goals exact h.of_frame rfl rfl
  case clearModel => exact QueueInv.arbitrate (h.of_frame rfl rfl)
  case restore =>
    unfold grantRestore
    split
    · refine QueueInv.of_frame (s := abandonJobs s) ?_ rfl rfl
      rw [abandonJobs_eq]
      exact ⟨h.1, Resolver.Queued.of_empty rfl⟩
    · exact h.of_frame rfl rfl
  all_goals
    refine h.congr ?_ ?_ ?_ <;>
      simp only [grantDefineNode, grantBuildEnd, grantLookupSwitch, grantLookupNode, grantLookupIsland, grantWalkSet,
        grantWalkMove, grantReadTable, grantReadClock, grantSetPacing, grantSetEnd, grantSetEnd.leaveEndedForward,
        grantSetMark, grantSetStepSpan, directLoadBatch, acceptLoad, grantArmBatch, grantDiscardBatch,
        grantDiscardBatch.discard, grantReadBatch, grantStart, grantPause, grantResume, grantStep, directReadStatus,
        grantSetWatch, grantClearWatch, rewriteWatch, grantReadWatch, directReadEvents, directSetEventEnables,
        directSetInterruptLine, directReadInterrupt, directSetCueLine, directClearLineFlags, directReadCueLine,
        directSetIndicator, directReadIndicator, grantRefreshIndicators, directReadLines, directSetCheckMode] <;>
      (repeat' split) <;> simp

/-- The record that a SWITCH entry leaves has its position derived. -/
theorem planEntry_derived {s : State} (h : s.store.Derived) {e : BitVec 64} {sw : Nat} {old new : SwitchRec} {d : Bool}
    (hp : planEntry s e = .switch sw old new d) : new.Derived := by
  have planned : ∀ {sw' time : Nat} {f t : Option Position},
      planSwitch s time sw' f t = .switch sw old new d → new.Derived := by
    intro sw' time f t hp
    unfold planSwitch at hp
    split at hp
    · rename_i hr
      have hd := h.switch hr
      split at hp
      · cases hp
      · split at hp <;> cases hp <;> exact SwitchRec.applyReport_derived hd ..
    · cases hp
  unfold planEntry planSource at hp
  repeat' split at hp
  case h_1 => exact planned hp
  all_goals cases hp

theorem QueueInv.applyPlan {s : State} (h : QueueInv s) {p : EntryPlan} (time : Nat)
    (hp : ∀ sw old new d, p = .switch sw old new d → new.Derived) (room : p.needsRoom = true → s.hasRoom = true) :
    QueueInv (applyPlan time p s) := by
  cases p with
  | fault => exact h
  | switch sw old new d =>
    have put := h.commitSwitch sw old time (hp sw old new d rfl) fun he => room (by simpa [EntryPlan.needsRoom] using he)
    unfold Machine.applyPlan
    dsimp only
    split
    · exact put.of_frame rfl rfl
    · exact put
  | source n v => exact h.appendJob _ (room rfl)
  | cue => exact h.of_frame (applyCue_store s) (applyCue_resolver s)

/-- A Sequencer grant: an entry is applied only where its job finds room (R28, R112). -/
theorem QueueInv.serveEntry {s : State} (h : QueueInv s) (n : BufferName) (e : BitVec 64) :
    QueueInv (serveEntry n e s) := by
  unfold Machine.serveEntry
  dsimp only
  split
  · exact h.of_frame (by simp) (by simp)
  split
  · split <;> exact h.of_frame rfl rfl
  · rename_i hroom
    have stats : QueueInv { s with sequencer.stats := s.sequencer.stats.afterEntry s.clock (entryTime e) } :=
      h.of_frame rfl rfl
    have room : (planEntry s e).needsRoom = true → s.hasRoom = true := fun hn => by simpa [hn] using hroom
    refine (stats.applyPlan (entryTime e) (p := planEntry s e) (fun _ _ _ _ hp => planEntry_derived h.1 hp) room).of_frame
      ?_ ?_ <;> simp

/-- What a claim of the resolver may do to the queue: go on with its job, or end it; the switches stand. -/
theorem QueueInv.endJob {s t : State} (h : QueueInv s) (j : JobInProgress)
    (hsw : t.store.switches = s.store.switches) (hq : t.resolver.queue = s.resolver.queue) :
    QueueInv (endJob j t) :=
  ⟨Store.Derived.congr h.1 (by simpa using hsw), endJob_queued j (by rw [hq]; exact h.2.1)⟩

theorem QueueInv.continueJob {s t : State} (h : QueueInv s) (j : JobInProgress)
    (hsw : t.store.switches = s.store.switches) (hq : t.resolver.queue = s.resolver.queue) :
    QueueInv (continueJob j t) :=
  ⟨Store.Derived.congr h.1 hsw, by rw [Machine.continueJob, hq]; exact h.2.1, fun hc => by cases hc⟩

theorem QueueInv.mergeGuard {s : State} (h : QueueInv s) (sw : Nat) (j : JobInProgress) :
    QueueInv (mergeGuard sw j s) := by
  unfold Machine.mergeGuard
  repeat' split
  all_goals first | exact h.endJob j rfl rfl | exact h.continueJob _ rfl rfl

theorem QueueInv.mergeRelabel {s : State} (h : QueueInv s) (cause : Nat) (j : JobInProgress) :
    QueueInv (mergeRelabel cause j s) := by
  unfold Machine.mergeRelabel
  repeat' split
  · dsimp only
    split
    · exact h.endJob _ (by simp [commitStore]) rfl
    · exact h.continueJob _ (by simp [commitStore]) rfl
  all_goals exact h.endJob j rfl rfl

theorem QueueInv.splitTurn {s : State} (h : QueueInv s) (j : JobInProgress) : QueueInv (splitTurn j s) := by
  unfold Machine.splitTurn
  repeat' split
  · exact h.continueJob _ rfl rfl
  · exact h.endJob j rfl rfl
  · exact h.continueJob _ rfl rfl

theorem QueueInv.splitGuard {s : State} (h : QueueInv s) (sw : Nat) (j : JobInProgress) :
    QueueInv (splitGuard sw j s) := by
  unfold Machine.splitGuard
  repeat' split
  all_goals first | exact h.endJob j rfl rfl | exact h.splitTurn _

theorem QueueInv.splitRelabel {s : State} (h : QueueInv s) (cause : Nat) (j : JobInProgress) :
    QueueInv (splitRelabel cause j s) := by
  unfold Machine.splitRelabel
  dsimp only
  repeat' split
  all_goals
    first
    | exact h.endJob _ (by simp [commitStore]) rfl
    | exact h.continueJob _ (by simp [commitStore]) rfl

theorem QueueInv.sourceJob {s : State} (h : QueueInv s) (n : Nat) (v : Bool) (cause : Nat) (j : JobInProgress) :
    QueueInv (sourceJob n v cause j s) := by
  unfold Machine.sourceJob
  dsimp only
  repeat' split
  all_goals exact h.endJob _ (by simp [commitStore]) rfl

/-- Every part of a step keeps the invariant. -/
theorem QueueInv.part {s t : State} (h : QueueInv s) (hp : Part s t) : QueueInv t := by
  cases hp with
  | link e => exact h.of_frame (by rw [e]) (by rw [e])
  | front rest => exact h
  | arbitrate => exact h.arbitrate
  | release => exact h
  | claim => exact h
  | carryOut c => exact h.carryOut c
  | badCheck => exact h
  | capture => exact h
  | gather byte => exact h.of_frame (by simp) (by simp)
  | endFrame =>
    unfold endFrame
    split
    · exact h
    · exact QueueInv.arbitrate (h.of_frame (by simp) (by simp))
  | sample n level => exact h
  | edge n => exact h
  | cueLine => exact h
  | takeFunction f => exact h.of_frame (by simp) (by simp)
  | tick => exact h.of_frame (by simp) (by simp)
  | flash => exact h
  | reset =>
    refine (queueInv_iff _).2 ⟨fun q hq => ?_, Resolver.Queued.of_empty rfl⟩
    cases hq
  | compileLists grant run stage => exact h
  | compileValues grant run stage => exact ⟨mapRecords_derived (fun _ r => r.started_derived) _, h.2⟩
  | compileEnd grant run stage =>
    obtain ⟨a, w, rfl, -, e⟩ := compileEnd_eq s
    rw [e]
    exact h.congr (Store.labelAll_switches ..) rfl rfl
  | restoreFirst grant run stage =>
    refine ⟨Store.Derived.congr h.1 (by simp), Resolver.Queued.of_empty ?_⟩
    simp [restoreFirstStage, abandonJobs_eq]
  | restoreSecond grant run stage =>
    exact ⟨mapRecords_derived (f := fun _ r => r.restored) (fun _ r => SwitchRec.rederive_derived _) _, h.2⟩
  | restoreEnd grant run stage =>
    refine h.congr ?_ ?_ ?_ <;> simp [restoreEnd, commitStore]
  | serve grant head => exact h.serveEntry ..
  | mergeGuard grant current job stage => exact h.mergeGuard ..
  | mergeRelabel grant current job stage => exact h.mergeRelabel ..
  | splitGuard grant current job stage => exact h.splitGuard ..
  | splitTurn grant current job stage => exact h.splitTurn _
  | splitRelabel grant current job stage => exact h.splitRelabel ..
  | sourceJob grant current job stage => exact h.sourceJob ..

/-- Settles O57: every part of a step keeps the invariant. -/
theorem stepsKeepTheQueueInvariant : Obligations.StepsKeepTheQueueInvariant :=
  fun _ _ hs h => step_keeps (fun _ _ hs hp => QueueInv.part hs hp) hs h

end Sys2Proof.Machine
end

section
/-! OVERRIDE SWITCH and RETIRE SWITCH (O28, O29): what their grants do (R33 to R35), on a settled part and behind a job
in progress. -/

namespace Sys2Proof.Machine

/-! ### Grants that a command finds in progress -/

/-- A step on an empty queue carries out the command of the LINK grant in progress, and the arbiter chooses anew. -/
theorem step_answers {c : Command} {s u : State} {st : Status} {data : List Byte} (hp : s.pending = [])
    (hg : s.arbiter.grant = .link) (ht : s.link.taken = some c) (hu : carryOut c s = answer st data u)
    (hc : u.arbiter.clearPending = false) : ∃ a, step s = .next { answer st data u with arbiter := a } := by
  have hend : (endLinkGrant (answer st data u)).arbiter.clearPending = false := by
    unfold endLinkGrant
    split <;> exact hc
  have hrest : ∀ a, { endLinkGrant (answer st data u) with arbiter := a } = { answer st data u with arbiter := a } := by
    intro a
    unfold endLinkGrant
    split <;> rfl
  refine ⟨(arbitrate (endLinkGrant (answer st data u))).arbiter, ?_⟩
  rw [← hrest, ← arbitrate_eq _ hend, ← hu, step, hp]
  simp only [finishLinkGrant, hg, ht, if_true]

/-- On a part with no entry due the store goes to the resolver when a job is in progress, and is free otherwise. -/
theorem Arbiter.next_of_not_ready {u : State} (h : u.sequencerReady = false) :
    Arbiter.next u =
      { Arbiter.free with grant := if u.resolver.current = none then .none else .resolver } := by
  cases hc : u.resolver.current <;> simp [Arbiter.next, h, hc, Arbiter.free]

/-! ### A change of one switch -/

theorem changeSwitch_ok {s : State} {old new : SwitchRec} (h : old.effective = new.effective ∨ s.hasRoom = true)
    (sw : Nat) : changeSwitch sw old new s = answer .ok [] (commitSwitch sw old new s.clock.time s) := by
  rw [changeSwitch, if_neg]
  rintro ⟨he, hr⟩
  obtain h | h := h
  · exact he h
  · exact Bool.false_ne_true (hr.symm.trans h)

theorem changeSwitch_full {s : State} {old new : SwitchRec} (h : old.effective ≠ new.effective)
    (hr : s.hasRoom = false) (sw : Nat) : changeSwitch sw old new s = answer .full [] s := by
  rw [changeSwitch, if_pos ⟨h, hr⟩]

/-- What a command makes of a switch's record: OVERRIDE SWITCH the override its action leaves, RETIRE SWITCH of a
switch not retired the retirement, each with the position R22 derives (R33, R35). -/
inductive ChangesTo (sw : U16) (r : SwitchRec) : Command → SwitchRec → Prop
  | override (action : Byte) (o : Option Contact) (ha : parseAction action = some o) :
      ChangesTo sw r (.overrideSwitch sw action) { r with override := o }.rederive
  | retire (hr : r.retired = false) : ChangesTo sw r (.retireSwitch sw) { r with retired := true }.rederive

theorem ChangesTo.access {sw : U16} {r r' : SwitchRec} {c : Command} (h : ChangesTo sw r c r') :
    accessOf c = .claim := by cases h <;> rfl

theorem ChangesTo.carryOut {sw : U16} {r r' : SwitchRec} {c : Command} (h : ChangesTo sw r c r') {s : State}
    (hm : s.run.state.hasModel = true) (hsw : sw.toNat < 8192) (hr : s.store.switch sw.toNat = some r) :
    carryOut c s = changeSwitch sw.toNat r r' s := by
  have hsw : ¬Config.switchCapacity ≤ sw.toNat := Nat.not_le.2 hsw
  cases h with
  | override action o ha => simp [Machine.carryOut, grantOverrideSwitch, hm, hsw, hr, ha]
  | retire hret => simp [Machine.carryOut, grantRetireSwitch, hm, hsw, hr, hret]

/-- The actions of OVERRIDE SWITCH (R193). -/
theorem ChangesTo.of_action {sw : U16} {r r' : SwitchRec} {action : Byte} {o : Option Contact}
    (ha : action = 0 ∧ o = some .opened ∨ action = 1 ∧ o = some .closed ∨ action = 2 ∧ o = none)
    (h : r' = { r with override := o, effective := if r.retired then .opened else o.getD r.held }) :
    ChangesTo sw r (.overrideSwitch sw action) r' := by
  have parsed : parseAction action = some o := by
    obtain ⟨rfl, rfl⟩ | ⟨rfl, rfl⟩ | ⟨rfl, rfl⟩ := ha <;> rfl
  exact h ▸ .override action o parsed

theorem ChangesTo.of_retire {sw : U16} {r r' : SwitchRec} (hr : r.retired = false)
    (h : r' = { r with retired := true, effective := .opened }) : ChangesTo sw r (.retireSwitch sw) r' :=
  h ▸ .retire hr

/-- On a settled part the job that the switch's new position asks for is taken at once, and the resolver has the store
(R45; log 17). -/
theorem ChangesTo.hostCommand {sw : U16} {r r' : SwitchRec} {c : Command} (h : ChangesTo sw r c r')
    {check : Option Byte} {s : State} (ht : Taken c check s) (hq : Quiet s) (hm : s.run.state.hasModel = true)
    (hsw : sw.toNat < 8192) (hr : s.store.switch sw.toNat = some r) :
    hostCommand c check s =
      { s with
        link := s.link.replied c .ok []
        store.switches := Tab.put s.store.switches sw.toNat r'
        arbiter.grant := if r.effective = r'.effective then .none else .resolver
        resolver.current := (changeJob sw.toNat r r' s.clock.time).map
          fun j => JobInProgress.begin j s.resolver.counts } := by
  have ⟨hfree, hqueue, hcur, hback, hseq, _⟩ := hq
  have hroom : (s.inGrant c).hasRoom = true := by simp [State.inGrant, State.hasRoom, hqueue, Config.queueCapacity]
  have hu := (h.carryOut (s := s.inGrant c) hm hsw hr).trans (changeSwitch_ok (.inr hroom) _)
  rw [commitSwitch_eq, appendJobs_idle (by exact hcur) (by exact hqueue) (by exact hback)] at hu
  rw [hostCommand_answered ht h.access hq hu rfl (by rw [State.inGrant, hfree]),
    Arbiter.next_of_not_ready (by exact hseq), ← hfree]
  unfold changeJob
  split <;> simp [State.inGrant, hqueue]

/-- Behind a job in progress the job waits in the queue. -/
theorem ChangesTo.step {sw : U16} {r r' : SwitchRec} {c : Command} (h : ChangesTo sw r c r') {s : State}
    (hp : s.pending = []) (hg : s.arbiter.grant = .link) (ht : s.link.taken = some c)
    (hc : s.arbiter.clearPending = false) (hm : s.run.state.hasModel = true) (hsw : sw.toNat < 8192)
    (hr : s.store.switch sw.toNat = some r) (hcur : s.resolver.current ≠ none)
    (hroom : s.resolver.queue.length < 64) :
    ∃ a, Machine.step s = .next
      { answer .ok []
          { s with
            store.switches := Tab.put s.store.switches sw.toNat r'
            resolver.queue := s.resolver.queue ++ (changeJob sw.toNat r r' s.clock.time).toList } with
        arbiter := a } := by
  have hroom : s.hasRoom = true := decide_eq_true hroom
  have hu := (h.carryOut hm hsw hr).trans (changeSwitch_ok (.inr hroom) _)
  rw [commitSwitch_eq, appendJobs_busy (by exact hcur)] at hu
  exact step_answers hp hg ht hu hc

/-! ### The obligations -/

/-- Settles O28: the grant of either command is one change of a switch, whose job is taken or waits. -/
theorem overrideAndRetireChangeTheSwitch : Obligations.OverrideAndRetireChangeTheSwitch := by
  refine ⟨fun c i sw check r r' s hc ht hq hm hsw hr => ?_,
    fun c sw r r' s hc hp hg ht _ hcl hm hsw hr hcur hroom => ?_⟩
  · have hch : ChangesTo sw r c r' ∧ i = c.toInstr check := by
      obtain ⟨action, o, rfl, rfl, ha, h⟩ | ⟨rfl, rfl, hret, h⟩ := hc
      · exact ⟨.of_action ha h, rfl⟩
      · exact ⟨.of_retire hret h, rfl⟩
    obtain ⟨hch, rfl⟩ := hch
    refine ⟨_, (exec_toInstr c check s).trans (congrArg _ (hch.hostCommand ht hq hm hsw hr)), Tab.get_put_same ..,
      fun m hm => Tab.get_put_other _ _ _ _ hm, ?_⟩
    unfold changeJob jobFor
    split <;> rfl
  · have hc : ChangesTo sw r c r' := by
      obtain ⟨action, o, rfl, ha, h⟩ | ⟨rfl, hret, h⟩ := hc
      · exact .of_action ha h
      · exact .of_retire hret h
    obtain ⟨a, hstep⟩ := hc.step hp hg ht hcl hm hsw hr hcur hroom
    refine ⟨_, hstep, Tab.get_put_same .., fun m hm => Tab.get_put_other _ _ _ _ hm, ?_, rfl, rfl⟩
    unfold changeJob jobFor
    split <;> rfl

theorem grantOverrideSwitch_range {sw : U16} {action : Byte} {s : State} (hm : s.run.state.hasModel = true)
    (h : 8192 ≤ sw.toNat ∨ s.store.switch sw.toNat = none ∨ 2 < action.toNat) :
    grantOverrideSwitch sw action s = answer .range [] s := by
  rw [grantOverrideSwitch, if_neg (by simp [hm])]
  split; · rfl
  rename_i hsw
  obtain h | h | h := h
  · exact absurd h hsw
  · simp [h]
  · have hp : parseAction action = none := by
      unfold parseAction
      split <;> grind
    simp only [hp]
    split <;> rfl

theorem grantRetireSwitch_range {sw : U16} {s : State} (hm : s.run.state.hasModel = true)
    (h : 8192 ≤ sw.toNat ∨ s.store.switch sw.toNat = none) : grantRetireSwitch sw s = answer .range [] s := by
  rw [grantRetireSwitch, if_neg (by simp [hm])]
  split; · rfl
  rename_i hsw
  simp [h.resolve_left hsw]

theorem grantRetireSwitch_retired {sw : U16} {r : SwitchRec} {s : State} (hm : s.run.state.hasModel = true)
    (hsw : sw.toNat < 8192) (hr : s.store.switch sw.toNat = some r) (hret : r.retired = true) :
    grantRetireSwitch sw s = answer .ok [] s := by
  rw [grantRetireSwitch, if_neg (by simp [hm]), if_neg (c := Config.switchCapacity ≤ _) (Nat.not_le.2 hsw)]
  simp [hr, hret]

/-- Settles O29: each refusal is a branch of the grant. -/
theorem overrideAndRetireAreRefused : Obligations.OverrideAndRetireAreRefused := by
  have refused : ∀ {c : Command} {check : Option Byte} {s : State} {st : Status}, Taken c check s →
      accessOf c = .claim → Quiet s → carryOut c (s.inGrant c) = answer st [] (s.inGrant c) →
      exec (c.toInstr check) s = .next (s.replied c st []) := fun ht ha hq hu =>
    (exec_toInstr ..).trans (congrArg _ (hostCommand_refused ht ha hq hu))
  refine ⟨fun sw action check s hq => ⟨fun ht => ⟨fun hb => ?_, fun hm h => ?_⟩,
    fun ht => ⟨fun hb => ?_, fun hm h => ?_, fun r hm hsw hr hret => ?_⟩⟩,
    fun c sw r s hp hg ht _ hcl hm hsw hr hfull hc => ?_⟩
  · exact refused ht rfl hq (if_pos (by simp [State.inGrant, hb, RunState.hasModel]))
  · exact refused ht rfl hq (grantOverrideSwitch_range hm h)
  · exact refused ht rfl hq (if_pos (by simp [State.inGrant, hb, RunState.hasModel]))
  · exact refused ht rfl hq (grantRetireSwitch_range hm h)
  · exact refused ht rfl hq (grantRetireSwitch_retired hm hsw hr hret)
  · have hroom : s.hasRoom = false := decide_eq_false (Nat.not_lt.2 hfull)
    have hc : ∃ r', ChangesTo sw r c r' ∧ r.effective ≠ r'.effective := by
      obtain ⟨rfl, hret, he⟩ | ⟨rfl, hret, he⟩ | ⟨rfl, hret, he⟩ | ⟨rfl, hret, he⟩ := hc
      · exact ⟨_, .override 0 (some .opened) rfl, by simp [SwitchRec.rederive, deriveEffective, hret, he]⟩
      · exact ⟨_, .override 1 (some .closed) rfl, by simp [SwitchRec.rederive, deriveEffective, hret, he]⟩
      · exact ⟨_, .override 2 none rfl, by simpa [SwitchRec.rederive, deriveEffective, hret] using he⟩
      · exact ⟨_, .retire hret, by simp [SwitchRec.rederive, deriveEffective, he]⟩
    obtain ⟨r', hc, he⟩ := hc
    obtain ⟨a, hstep⟩ := step_answers hp hg ht ((hc.carryOut hm hsw hr).trans (changeSwitch_full he hroom _)) hcl
    exact ⟨_, hstep, rfl, rfl, rfl⟩

end Sys2Proof.Machine
end

section
/-! Hardware reset (O5): the other blocks (R24, R62, R68, R80, R98, R119, R145, R160, R161, R167, R171, R190). -/

namespace Sys2Proof.Machine

theorem afterReset_watch_conditions (lmode0 lmode1 lchk selLow : Bool) (pending : List Instr) (n : Fin 4) :
    (State.afterReset lmode0 lmode1 lchk selLow pending).watch.conditions.get n = .initial :=
  Vector.getElem_replicate ..

theorem afterReset_cues (lmode0 lmode1 lchk selLow : Bool) (pending : List Instr) (n : Fin 8) :
    (State.afterReset lmode0 lmode1 lchk selLow pending).panel.cues.get n = .initial :=
  Vector.getElem_replicate ..

theorem afterReset_indicators (lmode0 lmode1 lchk selLow : Bool) (pending : List Instr) (n : Fin 16) :
    (State.afterReset lmode0 lmode1 lchk selLow pending).panel.indicators.get n = .initial :=
  Vector.getElem_replicate ..

theorem afterReset_buffer (lmode0 lmode1 lchk selLow : Bool) (pending : List Instr) (n : BufferName) :
    (State.afterReset lmode0 lmode1 lchk selLow pending).sequencer.buffer n = .cleared := by cases n <;> rfl

/-- Settles O5: whatever was in flight, the row leads to the reset values; the lines, conditions and buffers are each
at their one initial record. -/
theorem hardwareResetSetsEveryBlock : Obligations.HardwareResetSetsEveryBlock := by
  intro lmode0 lmode1 lchk selLow s
  refine ⟨_, rfl, ?_⟩
  simp only [afterReset_watch_conditions, afterReset_cues, afterReset_indicators, afterReset_buffer]
  refine ⟨rfl, rfl, rfl, rfl, rfl, rfl, rfl, rfl, rfl, rfl, rfl, rfl, rfl, rfl, rfl, rfl, rfl, rfl, rfl, rfl, rfl, rfl,
    rfl, fun _ => ⟨rfl, rfl, rfl, rfl, rfl⟩, rfl, rfl, rfl, rfl, rfl, rfl, rfl, rfl,
    fun _ => ⟨rfl, rfl, rfl, rfl, rfl⟩, rfl, rfl, rfl, rfl, rfl, rfl, fun _ => ⟨rfl, rfl, rfl, rfl, rfl, rfl⟩,
    fun _ => ⟨rfl, rfl, rfl, rfl, rfl, rfl⟩, rfl, rfl, rfl, rfl, rfl, rfl, rfl, rfl, rfl⟩

end Sys2Proof.Machine
end

section
/-! SET POLICY (O30): the branches of its grant (R25, R26), on a settled part and behind a job in progress, and the
derivation of positions (R21, R22). -/

namespace Sys2Proof.Machine

/-! ### The grant -/

/-- The run states in which SET POLICY is taken (R25). -/
def RunState.takesPolicy (r : RunState) : Prop := r = .ready ∨ r = .paused

theorem grantSetPolicy_protect {policy : Byte} {s : State} (h : ¬s.run.state.takesPolicy) :
    grantSetPolicy policy s = answer .protect [] s := by
  rw [grantSetPolicy, if_pos (not_or.1 h)]

theorem grantSetPolicy_range {policy : Byte} {s : State} (h : s.run.state.takesPolicy) (hp : 2 < policy.toNat) :
    grantSetPolicy policy s = answer .range [] s := by
  have parsed : parsePolicy policy = none := by
    unfold parsePolicy
    split <;> grind
  rw [grantSetPolicy, if_neg (not_and_or.2 (h.imp not_not.2 not_not.2)), parsed]

/-- The changes that the policy asks for, with derived positions as many as the count of R25, are held against the room
in the queue. -/
theorem grantSetPolicy_eq {policy : Byte} {p : Policy} {s : State} (h : s.run.state.takesPolicy)
    (hp : parsePolicy policy = some p) (hq : QueueInv s) {jobs : List Job}
    (hj : jobs = policyJobs p s.clock.time s.store.invalidSwitches) :
    grantSetPolicy policy s =
      if 64 < s.resolver.queue.length + jobs.length then answer .full (reply16 jobs.length) s
      else
        answer .ok (reply16 jobs.length)
          (appendJobs jobs { s with policy := p, store := s.store.underPolicy p }) := by
  have ⟨hd, hlen, _⟩ := hq
  have full : Config.queueCapacity - s.resolver.queue.length < jobs.length ↔
      64 < s.resolver.queue.length + jobs.length := by
    have hcap : Config.queueCapacity = 64 := rfl
    omega
  rw [grantSetPolicy, if_neg (not_and_or.2 (h.imp not_not.2 not_not.2)), hp]
  simp only [Store.policyCount_eq hd p s.clock.time, applyPolicy_eq, ← hj, full]

/-- The codes of the policies (R193). -/
theorem parsePolicy_of_code {policy : Byte} {p : Policy}
    (h : policy = 0 ∧ p = .hold ∨ policy = 1 ∧ p = .asOpen ∨ policy = 2 ∧ p = .asClosed) :
    parsePolicy policy = some p := by
  obtain ⟨rfl, rfl⟩ | ⟨rfl, rfl⟩ | ⟨rfl, rfl⟩ := h <;> rfl

/-- The jobs of SET POLICY, switch by switch of the whole table. -/
theorem policyJobs_eq (p : Policy) (time : Nat) (st : Store) :
    policyJobs p time st.invalidSwitches =
      st.switches.filterMap (fun q =>
        if q.2.archived = .invalid ∧
            deriveEffective q.2.retired q.2.override (deriveHeld p .invalid q.2.held) ≠ q.2.effective then
          some (jobFor q.1 (deriveEffective q.2.retired q.2.override (deriveHeld p .invalid q.2.held)) time)
        else none) := by
  rw [policyJobs, Store.invalidSwitches, List.filterMap_filter]
  refine congrArg (fun f => st.switches.filterMap f) (funext fun q => ?_)
  have derived : (q.2.underPolicy p).effective =
      deriveEffective q.2.retired q.2.override (deriveHeld p .invalid q.2.held) := rfl
  rw [changeJob, derived]
  by_cases hi : q.2.archived = .invalid <;> simp [hi, eq_comm]

/-! ### The command on a settled part, and behind a job in progress -/

/-- On a settled part the first job is taken and the others wait (R45; log 17). -/
theorem hostCommand_setPolicy {policy : Byte} {p : Policy} {check : Option Byte} {s : State} {jobs : List Job}
    (ht : Taken (.setPolicy policy) check s) (hq : Quiet s) (hr : s.run.state.takesPolicy) (hinv : QueueInv s)
    (hp : parsePolicy policy = some p) (hj : jobs = policyJobs p s.clock.time s.store.invalidSwitches)
    (hlen : jobs.length ≤ 64) :
    hostCommand (.setPolicy policy) check s =
      { s with
        link := s.link.replied (.setPolicy policy) .ok (reply16 jobs.length)
        policy := p
        store := s.store.underPolicy p
        arbiter := { Arbiter.free with grant := if jobs = [] then .none else .resolver }
        resolver.queue := jobs.tail
        resolver.current := jobs.head?.map fun j => JobInProgress.begin j s.resolver.counts } := by
  have ⟨hfree, hqueue, hcur, hback, hseq, _⟩ := hq
  have hu := grantSetPolicy_eq (s := s.inGrant (.setPolicy policy)) hr hp hinv hj
  rw [if_neg (by simpa [State.inGrant, hqueue] using hlen),
    appendJobs_idle (by exact hcur) (by exact hqueue) (by exact hback)] at hu
  rw [hostCommand_answered ht rfl hq hu rfl (by rw [State.inGrant, hfree]), Arbiter.next_of_not_ready (by exact hseq)]
  cases jobs <;> rfl

theorem hostCommand_setPolicy_full {policy : Byte} {p : Policy} {check : Option Byte} {s : State} {jobs : List Job}
    (ht : Taken (.setPolicy policy) check s) (hq : Quiet s) (hr : s.run.state.takesPolicy) (hinv : QueueInv s)
    (hp : parsePolicy policy = some p) (hj : jobs = policyJobs p s.clock.time s.store.invalidSwitches)
    (hlen : 64 < jobs.length) :
    hostCommand (.setPolicy policy) check s = s.replied (.setPolicy policy) .full (reply16 jobs.length) := by
  refine hostCommand_refused ht rfl hq ?_
  refine (grantSetPolicy_eq (s := s.inGrant (.setPolicy policy)) hr hp hinv hj).trans (if_pos ?_)
  exact Nat.lt_of_lt_of_le hlen (Nat.le_add_left ..)

/-- A switch after SET POLICY (R26). -/
theorem underPolicy_record {st : Store} (h : st.canonical = true) (p : Policy) (k : Nat) :
    (st.underPolicy p).switch k = (st.switch k).map fun r =>
      if r.archived = .invalid then
        { r with
          held := deriveHeld p .invalid r.held
          effective := deriveEffective r.retired r.override (deriveHeld p .invalid r.held) }
      else r := Store.underPolicy_switch h p k

/-! ### The obligation -/

/-- Settles O30: the grant's branches, met on a settled part and by the step of a LINK grant in progress. -/
theorem setPolicyDerivesInvalidSwitches : Obligations.SetPolicyDerivesInvalidSwitches := by
  refine ⟨fun policy check s ht hq => ⟨fun p jobs hr hst hinv hp hj => ?_, fun hr hr' => ?_, fun hr hp => ?_⟩,
    fun policy p jobs s hpend hg ht hc hr hst hinv hcur hp hj => ?_, ?_, ?_⟩
  · rw [← policyJobs_eq] at hj
    have hp := parsePolicy_of_code hp
    have exec := exec_toInstr (.setPolicy policy) check s
    refine ⟨fun hlen => ?_, fun hlen => ?_⟩
    · exact ⟨_, exec.trans (congrArg _ (hostCommand_setPolicy ht hq hr hinv hp hj hlen)), rfl, rfl,
        underPolicy_record hst p⟩
    · exact exec.trans (congrArg _ (hostCommand_setPolicy_full ht hq hr hinv hp hj hlen))
  · exact (exec_toInstr (.setPolicy policy) check s).trans (congrArg _
      (hostCommand_refused ht rfl hq (grantSetPolicy_protect (not_or.2 ⟨hr, hr'⟩))))
  · exact (exec_toInstr (.setPolicy policy) check s).trans (congrArg _
      (hostCommand_refused ht rfl hq (grantSetPolicy_range hr hp)))
  · rw [← policyJobs_eq] at hj
    have hu := grantSetPolicy_eq hr (parsePolicy_of_code hp) hinv hj
    refine ⟨fun hlen => ?_, fun hlen => ?_⟩
    · rw [if_neg (Nat.not_lt.2 hlen), appendJobs_busy (by exact hcur)] at hu
      obtain ⟨a, hstep⟩ := step_answers hpend hg ht hu hc
      exact ⟨_, hstep, rfl, rfl, rfl, underPolicy_record hst p⟩
    · rw [if_pos hlen] at hu
      obtain ⟨a, hstep⟩ := step_answers hpend hg ht hu hc
      exact ⟨_, hstep, rfl, rfl, rfl⟩
  · exact fun p held => ⟨rfl, rfl, rfl, rfl, rfl, rfl⟩
  · exact fun o held x => ⟨rfl, rfl, rfl⟩

end Sys2Proof.Machine
end

section
/-! The reads that take a claim (O31): each grant's answer (R36, R60, R61, R82, R107, R151), and the records field by
field (R144, R192). -/

namespace Sys2Proof.Machine

/-! ### The codes of the fields (R192, R193) -/

theorem Contact.code_eq (c : Contact) : c.code = if c = .closed then 1 else 0 := by cases c <;> rfl

theorem Feed.code_eq (f : Feed) : f.code = if f = .live then 1 else 0 := by cases f <;> rfl

/-- The settled flag as one byte. -/
theorem settled_byte (s : State) :
    flagByte s.settled = if s.resolver.queue = [] ∧ s.resolver.current = none then 1 else 0 := by
  have settled : s.settled = true ↔ s.resolver.queue = [] ∧ s.resolver.current = none := by
    simp [State.settled]
  by_cases h : s.resolver.queue = [] ∧ s.resolver.current = none
  · rw [if_pos h, settled.2 h]; rfl
  · rw [if_neg h, Bool.eq_false_iff.2 (mt settled.1 h)]; rfl

@[simp] theorem reply16_length (n : Nat) : (reply16 n).length = 2 := rfl
@[simp] theorem reply32_length (n : Nat) : (reply32 n).length = 4 := rfl
@[simp] theorem replyTime_length (t : Option Nat) : (replyTime t).length = 5 := by cases t <;> rfl
@[simp] theorem replyId_length (n : Option Nat) : (replyId n).length = 2 := by cases n <;> rfl

/-! ### The records (R192) -/

theorem nodeRecord_undefined {n : Nat} {s : State} (h : s.store.node n = none) :
    nodeRecord n s = reply16 n ++ [0, 0xFF, 0xFF, 0xFF, 0xFF, 0, 0xFF, flagByte s.settled] := by
  simp [nodeRecord, h, absentCode, replyId]

/-- The online field of a node record. -/
def onlineByte (o : Option Bool) : Byte := (o.map flagByte).getD absentCode

theorem nodeRecord_member {n k : Nat} {r : NodeRec} {b : Island} {s : State} (h : s.store.node n = some r)
    (hk : r.island = some k) (hb : s.store.island k = some b) :
    nodeRecord n s = reply16 n ++ [1, r.kind.code, onlineByte r.online] ++ reply16 k ++
      [(s.store.islandRec k).generation, b.feed.code, flagByte s.settled] := by
  simp only [nodeRecord, h, hk, hb, Option.bind_some, Option.map_some]
  cases r.online <;> rfl

theorem nodeRecord_alone {n : Nat} {r : NodeRec} {s : State} (h : s.store.node n = some r)
    (hk : (r.island.bind fun k => s.store.island k) = none) :
    nodeRecord n s = reply16 n ++ [1, r.kind.code, onlineByte r.online] ++
      [0xFF, 0xFF, 0, 0xFF, flagByte s.settled] := by
  have hbind : (r.island.bind fun k => (s.store.island k).map fun b => (k, b)) = none := by
    rw [Option.bind_eq_none_iff] at hk ⊢
    exact fun k hr => by rw [hk k hr]; rfl
  simp only [nodeRecord, h, hbind]
  cases r.online <;> simp [onlineByte, replyId, absentCode]

theorem switchRecord_undefined {n : Nat} {s : State} (h : s.store.switch n = none) :
    switchRecord n s = reply16 n ++
      [0, 0xFF, 0xFF, 0xFF, 0xFF, 0xFF, 0xFF, 0xFF, 0xFF, 0xFF, 0xFF, 0xFF, 0, 0, 0, 0, 0, 0, 0] := by
  rw [switchRecord, h]
  rfl

/-- The override field of a switch record. -/
def overrideByte (o : Option Contact) : Byte := (o.map Contact.code).getD absentCode

theorem switchRecord_defined {n : Nat} {r : SwitchRec} {s : State} (h : s.store.switch n = some r) :
    switchRecord n s = reply16 n ++ [1] ++ reply16 r.endA ++ reply16 r.endB ++
      [r.initial.code, r.archived.code, r.held.code, overrideByte r.override, r.effective.code, flagByte r.retired,
       flagByte r.discrepancy] ++ reply16 r.changeCount ++ replyTime r.lastChange := by
  simp only [switchRecord, h]
  cases r.override <;> rfl

theorem islandRecord_existing {k : Nat} {b : Island} {s : State} (h : s.store.island k = some b) :
    islandRecord k s = reply16 k ++ [1, (s.store.islandRec k).generation, b.feed.code] ++ reply16 b.memberCount ++
      reply16 b.sourceCount ++ reply16 b.loadCount ++ reply16 b.first ++ reply16 b.last ++
      reply32 b.since ++ [flagByte s.settled] := by
  rw [islandRecord, h]

theorem islandRecord_absent {k : Nat} {s : State} (h : s.store.island k = none) :
    islandRecord k s = reply16 k ++
      [0, (s.store.islandRec k).generation, 0xFF, 0, 0, 0, 0, 0, 0, 0xFF, 0xFF, 0xFF, 0xFF, 0, 0, 0, 0,
       flagByte s.settled] := by
  rw [islandRecord, h]
  rfl

theorem nodeRecord_length (n : Nat) (s : State) : (nodeRecord n s).length = 10 := by
  cases h : s.store.node n with
  | none => simp [nodeRecord_undefined h]
  | some r =>
    cases hk : r.island.bind fun k => s.store.island k with
    | none => simp [nodeRecord_alone h hk]
    | some b =>
      obtain ⟨k, hk, hb⟩ := Option.bind_eq_some_iff.1 hk
      simp [nodeRecord_member h hk hb]

theorem switchRecord_length (n : Nat) (s : State) : (switchRecord n s).length = 21 := by
  cases h : s.store.switch n with
  | none => simp [switchRecord_undefined h]
  | some r => simp [switchRecord_defined h]

theorem islandRecord_length (k : Nat) (s : State) : (islandRecord k s).length = 20 := by
  cases h : s.store.island k with
  | none => simp [islandRecord_absent h]
  | some b => simp [islandRecord_existing h]

theorem statusReply_length (s : State) : (statusReply s).length = 25 := by simp [statusReply]

/-! ### The reads -/

/-- A read whose grant only answers changes the link alone, and the answer is the grant's. -/
theorem exec_read {c : Command} {check : Option Byte} {s : State} {st : Status} {data : List Byte}
    (ht : Taken c check s) (ha : accessOf c = .claim) (hq : Quiet s)
    (hu : carryOut c (s.inGrant c) = answer st data (s.inGrant c)) :
    exec (c.toInstr check) s = .next (s.replied c st data) :=
  (exec_toInstr ..).trans (congrArg _ (hostCommand_refused ht ha hq hu))

theorem exec_lookupSwitch {sw : U16} {check : Option Byte} {s : State} (ht : Taken (.lookupSwitch sw) check s)
    (hq : Quiet s) :
    exec (.lookupSwitch sw check) s = .next
      (if sw.toNat < 8192 then s.replied (.lookupSwitch sw) .ok (switchRecord sw.toNat s)
       else s.replied (.lookupSwitch sw) .range []) := by
  split
  · exact exec_read ht rfl hq (if_neg (Nat.not_le.2 ‹_›))
  · exact exec_read ht rfl hq (if_pos (Nat.not_lt.1 ‹_›))

theorem exec_lookupNode {node : U16} {check : Option Byte} {s : State} (ht : Taken (.lookupNode node) check s)
    (hq : Quiet s) :
    exec (.lookupNode node check) s = .next
      (if node.toNat < 4096 then s.replied (.lookupNode node) .ok (nodeRecord node.toNat s)
       else s.replied (.lookupNode node) .range []) := by
  split
  · exact exec_read ht rfl hq (if_neg (Nat.not_le.2 ‹_›))
  · exact exec_read ht rfl hq (if_pos (Nat.not_lt.1 ‹_›))

theorem goodHandle_iff (st : Store) (k : Nat) (generation : Byte) :
    st.goodHandle k generation = true ↔ (st.island k).isSome = true ∧ (st.islandRec k).generation = generation := by
  rw [Store.goodHandle, Bool.and_eq_true, decide_eq_true_iff]

theorem exec_lookupIsland {island : U16} {generation : Byte} {check : Option Byte} {s : State}
    (ht : Taken (.lookupIsland island generation) check s) (hq : Quiet s) :
    exec (.lookupIsland island generation check) s = .next
      (if 4096 ≤ island.toNat then s.replied (.lookupIsland island generation) .range []
       else if (s.store.island island.toNat).isSome = true ∧
          (s.store.islandRec island.toNat).generation = generation then
        s.replied (.lookupIsland island generation) .ok (islandRecord island.toNat s)
       else s.replied (.lookupIsland island generation) .stale
        [flagByte (s.store.island island.toNat).isSome, (s.store.islandRec island.toNat).generation]) := by
  split
  · exact exec_read ht rfl hq (if_pos ‹_›)
  rename_i hid
  split
  · rename_i hgood
    exact exec_read ht rfl hq ((if_neg hid).trans (if_pos ((goodHandle_iff ..).2 hgood)))
  · rename_i hgood
    exact exec_read ht rfl hq ((if_neg hid).trans (if_neg (mt (goodHandle_iff ..).1 hgood)))

theorem exec_readWatch {number : Byte} {check : Option Byte} {s : State} (ht : Taken (.readWatch number) check s)
    (hq : Quiet s) :
    exec (.readWatch number check) s = .next
      (if h : number.toNat < 4 then
        s.replied (.readWatch number) .ok
          ([(s.watch.conditions[number.toNat]).quantity.code, (s.watch.conditions[number.toNat]).relation.code] ++
            reply16 (s.watch.conditions[number.toNat]).threshold ++
            [(s.watch.conditions[number.toNat]).state.code] ++
            replyTime (s.watch.conditions[number.toNat]).tripTime ++
            reply16 (s.quantity (s.watch.conditions[number.toNat]).quantity))
       else s.replied (.readWatch number) .range []) := by
  split
  · rename_i h
    refine exec_read ht rfl hq ?_
    have parsed : parseCondition number = some ⟨number.toNat, h⟩ := dif_pos h
    rw [carryOut, grantReadWatch, parsed]
    rfl
  · rename_i h
    have parsed : parseCondition number = none := dif_neg h
    exact exec_read ht rfl hq (by simp only [carryOut, grantReadWatch, parsed])

/-- The head entry of a buffer, byte by byte (R107). -/
theorem headBytes_eq (b : Buffer) :
    headBytes b =
      match b.state, b.entries[b.index]? with
      | .active, some e =>
        [1, entryByte e 0, entryByte e 1, entryByte e 2, entryByte e 3, entryByte e 4, entryByte e 5,
         entryByte e 6, entryByte e 7]
      | _, _ => [0, 0, 0, 0, 0, 0, 0, 0, 0] := by
  unfold headBytes
  cases b.state <;> cases b.entries[b.index]? <;> rfl

theorem exec_readBatch {letter : Byte} {check : Option Byte} {s : State} {n : BufferName}
    (ht : Taken (.readBatch letter) check s) (hq : Quiet s) (hn : parseBuffer letter = some n) :
    exec (.readBatch letter check) s = .next (s.replied (.readBatch letter) .ok
      ([(s.sequencer.buffer n).state.code,
        (match (s.sequencer.buffer n).tag with
          | some d => d.code
          | none => 0)] ++
        reply16 (s.sequencer.buffer n).entries.length ++ reply16 (s.sequencer.buffer n).index ++
        [if s.sequencer.armOrder[0]? = some n then 1
         else if s.sequencer.armOrder[1]? = some n then 2
         else 0] ++
        (match (s.sequencer.buffer n).lastLoad with
          | some l => [1, l.outcome.code] ++ reply16 l.counted ++ [flagByte l.torn]
          | none => [0, 0, 0, 0, 0]) ++
        headBytes (s.sequencer.buffer n))) := by
  have armed : byteOf (armPosition s.sequencer.armOrder n) =
      if s.sequencer.armOrder[0]? = some n then 1 else if s.sequencer.armOrder[1]? = some n then 2 else 0 := by
    rw [armPosition]
    repeat' split
    all_goals rfl
  refine exec_read ht rfl hq ?_
  rw [carryOut, grantReadBatch, hn, ← armed]
  rfl

theorem exec_readBatch_range {letter : Byte} {check : Option Byte} {s : State}
    (ht : Taken (.readBatch letter) check s) (hq : Quiet s) (hn : parseBuffer letter = none) :
    exec (.readBatch letter check) s = .next (s.replied (.readBatch letter) .range []) :=
  exec_read ht rfl hq (by rw [carryOut, grantReadBatch, hn])

/-! ### The obligation -/

/-- Settles O31: each read is its grant's branch on a quiet part, and each record its fields. -/
theorem lookupsReply : Obligations.LookupsReply := by
  refine ⟨⟨fun sw check s => exec_lookupSwitch, fun node check s => exec_lookupNode,
    fun island generation check s => exec_lookupIsland, fun check s ht hq => exec_read ht rfl hq rfl,
    fun number check s => exec_readWatch, fun letter check s ht hq => ⟨fun n hn => ?_, exec_readBatch_range ht hq⟩⟩,
    fun n s => ⟨nodeRecord_length n s, switchRecord_length n s, islandRecord_length n s, statusReply_length s⟩,
    fun n kind online settled r s hr hkind honline hsettled => ?_, fun n s hn => ?_,
    fun n archived override r s hr harchived hoverride => ?_, fun n s => switchRecord_undefined, fun k b s hb => ?_,
    fun k s hk => ?_⟩
  · have h := exec_readBatch ht hq hn
    rw [headBytes_eq] at h
    exact h
  · have hkind : r.kind.code = kind := by rw [hkind]; cases r.kind <;> rfl
    have honline : onlineByte r.online = online := by
      rw [honline]
      rcases r.online with _ | _ | _ <;> rfl
    have hsettled : flagByte s.settled = settled := (settled_byte s).trans hsettled.symm
    refine ⟨fun k b hk hb => ?_, fun hk => ?_⟩
    · rw [nodeRecord_member hr hk hb, hkind, honline, hsettled, Feed.code_eq]
      rfl
    · rw [nodeRecord_alone hr hk, hkind, honline, hsettled]
      exact List.append_assoc ..
  · rw [nodeRecord_undefined hn, settled_byte]
    rfl
  · have harchived : r.archived.code = archived := by rw [harchived]; cases r.archived <;> rfl
    have hoverride : overrideByte r.override = override := by
      rw [hoverride]
      rcases r.override with _ | _ | _ <;> rfl
    rw [switchRecord_defined hr, harchived, hoverride, Contact.code_eq, Contact.code_eq, Contact.code_eq]
    cases r.lastChange <;> rfl
  · rw [islandRecord_existing hb, Feed.code_eq, settled_byte]
    rfl
  · rw [islandRecord_absent hk, settled_byte]
    rfl

end Sys2Proof.Machine
end

section
/-! The entries of a batch (O49, O50): their layout (R191), the entry that is skipped or handed back (R27, R28, R112,
R114, R117), and the SWITCH entry that is applied (R29 to R32, R120, R121). -/

namespace Sys2Proof.Machine

/-! ### The layout of an entry (R191) -/

theorem entryByte_toNat (e : BitVec 64) (i : Nat) :
    (entryByte e i).toNat = e.toNat / 2 ^ (8 * (7 - i)) % 256 := by
  rw [entryByte, BitVec.extractLsb'_toNat, Nat.shiftRight_eq_div_pow]

theorem entryId_eq (e : BitVec 64) : entryId e = 256 * (entryByte e 1).toNat + (entryByte e 2).toNat := by
  rw [entryId, BitVec.extractLsb'_toNat, Nat.shiftRight_eq_div_pow, entryByte_toNat, entryByte_toNat]
  omega

theorem entryTime_eq (e : BitVec 64) :
    entryTime e = 16777216 * (entryByte e 4).toNat + 65536 * (entryByte e 5).toNat +
      256 * (entryByte e 6).toNat + (entryByte e 7).toNat := by
  rw [entryTime, BitVec.extractLsb'_toNat, Nat.shiftRight_eq_div_pow]
  simp only [entryByte_toNat]
  omega

theorem readEntry_switch {e : BitVec 64} (h : (entryByte e 0).toNat = 1) :
    readEntry e = .switch (entryId e) (parsePosition ((entryByte e 3).toNat / 16))
      (parsePosition ((entryByte e 3).toNat % 16)) := by rw [readEntry, h]; rfl

theorem readEntry_source {e : BitVec 64} (h : (entryByte e 0).toNat = 2) :
    readEntry e = .source (entryId e) (parseFlag (entryByte e 3)) := by rw [readEntry, h]; rfl

theorem readEntry_cue {e : BitVec 64} (h : (entryByte e 0).toNat = 3) : readEntry e = .cue := by rw [readEntry, h]; rfl

theorem readEntry_bad {e : BitVec 64} (h1 : (entryByte e 0).toNat ≠ 1) (h2 : (entryByte e 0).toNat ≠ 2)
    (h3 : (entryByte e 0).toNat ≠ 3) : readEntry e = .bad := by
  unfold readEntry
  split <;> first | rfl | contradiction

theorem parsePosition_none {n : Nat} (h : 4 ≤ n) : parsePosition n = none := by
  unfold parsePosition
  split <;> grind

theorem parseFlag_none {b : Byte} (h : 2 ≤ b.toNat) : parseFlag b = none := by
  unfold parseFlag
  split <;> grind

theorem parseFlag_eq (b : Byte) :
    parseFlag b = if b = 0 then some false else if b = 1 then some true else none := by
  by_cases h0 : b = 0
  · rw [h0]; rfl
  by_cases h1 : b = 1
  · rw [h1]; rfl
  rw [if_neg h0, if_neg h1]
  refine parseFlag_none ?_
  have h0 : b.toNat ≠ 0 := fun h => h0 (BitVec.eq_of_toNat_eq h)
  have h1 : b.toNat ≠ 1 := fun h => h1 (BitVec.eq_of_toNat_eq h)
  omega

/-! ### The plan of an entry -/

/-- What makes an entry a fault: its kind, its switch or node, or its position or online code (R27, R114). -/
def EntryFault (s : State) (e : BitVec 64) : Prop :=
  ((entryByte e 0).toNat = 0 ∨ 3 < (entryByte e 0).toNat) ∨
  (entryByte e 0).toNat = 1 ∧ (s.store.switch (entryId e) = none ∨ 64 ≤ (entryByte e 3).toNat ∨
    4 ≤ (entryByte e 3).toNat % 16) ∨
  (entryByte e 0).toNat = 2 ∧ ((∀ r, s.store.node (entryId e) = some r → r.kind ≠ .source) ∨
    2 ≤ (entryByte e 3).toNat)

theorem EntryFault.plan {s : State} {e : BitVec 64} (h : EntryFault s e) : planEntry s e = .fault := by
  unfold planEntry
  obtain hk | ⟨hk, h⟩ | ⟨hk, h⟩ := h
  · rw [readEntry_bad (by omega) (by omega) (by omega)]
  · rw [readEntry_switch hk]
    dsimp only [planSwitch]
    obtain h | h | h := h
    · rw [h]
    · rw [parsePosition_none (n := (entryByte e 3).toNat / 16) (by omega)]
      split <;> grind
    · rw [parsePosition_none h]
      split <;> grind
  · rw [readEntry_source hk]
    dsimp only [planSource]
    obtain h | h := h
    · cases hn : s.store.node (entryId e) with
      | none => rfl
      | some r => cases parseFlag (entryByte e 3) <;> simp [h r hn]
    · rw [parseFlag_none h]
      split <;> grind

/-- A switch of the table has its id in range. -/
theorem Store.switch_lt {st : Store} (h : st.canonical = true) {k : Nat} {r : SwitchRec} (hr : st.switch k = some r) :
    k < Config.switchCapacity := by
  obtain ⟨-, -, -, -, hb, -⟩ := (Store.canonical_iff st).1 h
  exact hb _ (Tab.mem_of_get hr)

/-- Forward the expected position is the entry's from-position and the target its to-position, in reverse the other way
round (R29, R30). -/
theorem planEntry_switch {s : State} {e : BitVec 64} {sw : Nat} {f g expected target : Position} {r : SwitchRec}
    (hst : s.store.canonical = true) (he : readEntry e = .switch sw (some f) (some g))
    (hr : s.store.switch sw = some r)
    (hd : s.clock.direction = .forward ∧ expected = f ∧ target = g ∨
      s.clock.direction = .reverse ∧ expected = g ∧ target = f) :
    planEntry s e =
      .switch sw r (r.applyReport s.policy expected target (entryTime e)) (decide (r.archived ≠ expected)) := by
  rw [planEntry, he]
  simp only [planSwitch, hr]
  rw [if_neg (Nat.not_le.2 (Store.switch_lt hst hr))]
  obtain ⟨hd, rfl, rfl⟩ | ⟨hd, rfl, rfl⟩ := hd <;> rw [hd]

/-! ### Flags that stay raised -/

/-- Whatever flag is raised stays raised. -/
def KeepsFlags (s t : State) : Prop := ∀ e, s.flag e = true → t.flag e = true

theorem KeepsFlags.trans {s t u : State} (h : KeepsFlags s t) (k : KeepsFlags t u) : KeepsFlags s u :=
  fun e he => k e (h e he)

theorem KeepsFlags.of_watch {s t : State} (h : t.watch = s.watch) : KeepsFlags s t := fun e he =>
  (flag_congr (by rw [h]) e).trans he

theorem raise_keepsFlags (e : Event) (s : State) : KeepsFlags s (raise e s) := fun f hf => by
  rw [raise_flag, hf]; rfl

theorem activateFrom_keepsFlags (l : List BufferName) (s : State) : KeepsFlags s (activateFrom l s) := by
  induction l generalizing s with
  | nil => exact .of_watch rfl
  | cons n rest ih =>
    rw [activateFrom]
    dsimp only
    split
    · exact .of_watch (by simp)
    · refine KeepsFlags.trans ?_ (ih _)
      unfold rejectBuffer
      exact KeepsFlags.trans (.of_watch (by simp)) (raise_keepsFlags _ _)

theorem activate_keepsFlags (s : State) : KeepsFlags s (activate s) := by
  unfold activate
  split
  · exact activateFrom_keepsFlags _ _
  · exact .of_watch rfl

theorem testStarve_keepsFlags (s : State) : KeepsFlags s (testStarve s) := by
  unfold testStarve
  split
  · exact KeepsFlags.trans (.of_watch rfl) (raise_keepsFlags _ _)
  · exact .of_watch rfl

theorem endSpent_keepsFlags (n : BufferName) (s : State) : KeepsFlags s (endSpent n s) := by
  unfold endSpent
  dsimp only
  split
  · refine KeepsFlags.trans ?_ (testStarve_keepsFlags _)
    refine KeepsFlags.trans ?_ (activate_keepsFlags _)
    exact KeepsFlags.trans (.of_watch (by simp)) (raise_keepsFlags _ _)
  · exact .of_watch rfl

/-! ### A Sequencer grant -/

/-- An entry that is not the last of its buffer leaves the buffer as it is. -/
theorem endSpent_of_lt {n : BufferName} {s : State}
    (h : (s.sequencer.buffer n).index < (s.sequencer.buffer n).entries.length) : endSpent n s = s := by
  rw [endSpent, if_neg (Nat.not_le.2 h)]

theorem advanceIndex_buffer (n : BufferName) (s : State) :
    (advanceIndex n s).sequencer.buffer n =
      { s.sequencer.buffer n with index := (s.sequencer.buffer n).index + 1 } := setBuffer_buffer ..

theorem advanceIndex_other {n m : BufferName} (h : m ≠ n) (s : State) :
    (advanceIndex n s).sequencer.buffer m = s.sequencer.buffer m := setBuffer_other _ _ _ _ h

theorem advanceIndex_stats (n : BufferName) (s : State) :
    (advanceIndex n s).sequencer.stats = s.sequencer.stats := setBuffer_stats ..

/-- With no CLEAR MODEL waiting the end of a unit of work writes the arbiter alone. -/
theorem endUnit_eq {s : State} (h : s.arbiter.clearPending = false) : ∃ a, endUnit s = { s with arbiter := a } :=
  ⟨_, arbitrate_eq (releaseGrant s) h⟩

/-- APPLY_ENTRY within a Sequencer grant serves the head entry, and the grant ends. -/
theorem exec_applyEntry {n : BufferName} {e : BitVec 64} {s : State} (hg : s.arbiter.grant = .sequencer)
    (hh : s.sequencer.head = some (n, e)) (hc : s.arbiter.clearPending = false) :
    ∃ a, exec .applyEntry s = .next { serveEntry n e s with arbiter := a } := by
  have hf : finishLinkGrant s = s := by rw [finishLinkGrant, if_neg (by rw [hg]; decide)]
  obtain ⟨a, ha⟩ := endUnit_eq ((serveEntry_clearPending n e s).trans hc)
  refine ⟨a, ?_⟩
  show engineStep sequencerWork s = _
  rw [engineStep, hf, sequencerWork, if_pos hg, hh, ← ha]
  rfl

theorem serveEntry_fault {n : BufferName} {e : BitVec 64} {s : State} (h : planEntry s e = .fault) :
    serveEntry n e s =
      endSpent n (advanceIndex n (raise .entryFault
        { s with sequencer.stats.faults := saturate16 s.sequencer.stats.faults })) := by
  rw [serveEntry, if_pos h]

theorem serveEntry_backlog {n : BufferName} {e : BitVec 64} {s : State} (hn : (planEntry s e).needsRoom = true)
    (hr : s.hasRoom = false) :
    serveEntry n e s =
      { s with
        clock.backlog := true
        watch.flags := if s.clock.backlog then s.watch.flags
          else s.watch.flags ||| (1#19 <<< Event.backlog.bit) } := by
  have hf : planEntry s e ≠ .fault := fun h => by rw [h] at hn; cases hn
  rw [serveEntry, if_neg hf, if_pos (by rw [hn, hr]; rfl)]
  cases s.clock.backlog <;> rfl

/-- A hand-over of statistics writes the Watch Unit alone. -/
theorem handStats_eq (before : Stats) (s : State) : ∃ w, handStats before s = { s with watch := w } :=
  ⟨_, Evaluates.rest (handStats_hands before s)⟩

/-- An entry that finds room is applied with its statistics, and what changed is handed to the watch conditions. -/
theorem serveEntry_applied {n : BufferName} {e : BitVec 64} {s u : State} (hf : planEntry s e ≠ .fault)
    (hr : (planEntry s e).needsRoom = true → s.hasRoom = true)
    (hu : u = applyPlan (entryTime e) (planEntry s e)
      { s with sequencer.stats := s.sequencer.stats.afterEntry s.clock (entryTime e) })
    (hlast : (u.sequencer.buffer n).index + 1 < (u.sequencer.buffer n).entries.length) :
    ∃ w, serveEntry n e s = { advanceIndex n u with watch := w } := by
  have room : ¬((planEntry s e).needsRoom && !s.hasRoom) = true := by
    intro h
    rw [Bool.and_eq_true, Bool.not_eq_true'] at h
    exact Bool.false_ne_true (h.2.symm.trans (hr h.1))
  obtain ⟨w, hw⟩ := handStats_eq s.sequencer.stats (advanceIndex n u)
  refine ⟨w, ?_⟩
  rw [serveEntry, if_neg hf, if_neg room]
  dsimp only
  rw [← hu, endSpent_of_lt]
  · exact hw
  · rw [handStats_sequencer, advanceIndex_buffer]
    exact hlast

/-! ### Skipped and handed back -/

/-- A fault is counted and skipped (R27, R114). -/
theorem applyEntry_fault {n : BufferName} {e : BitVec 64} {s : State} (hg : s.arbiter.grant = .sequencer)
    (hh : s.sequencer.head = some (n, e)) (hc : s.arbiter.clearPending = false) (hf : EntryFault s e) :
    ∃ t, exec .applyEntry s = .next t ∧
      t.sequencer.stats =
        { s.sequencer.stats with
          faults := if s.sequencer.stats.faults < 65535 then s.sequencer.stats.faults + 1
            else s.sequencer.stats.faults } ∧
      t.flag .entryFault = true ∧ t.store = s.store ∧ t.resolver = s.resolver ∧ t.run = s.run ∧
      t.panel = s.panel ∧ t.link = s.link ∧ t.clock.time = s.clock.time ∧
      ((s.sequencer.buffer n).index + 1 < (s.sequencer.buffer n).entries.length →
        t.sequencer.buffer n = { s.sequencer.buffer n with index := (s.sequencer.buffer n).index + 1 }) ∧
      (∀ m, (s.sequencer.buffer n).index + 1 < (s.sequencer.buffer n).entries.length → m ≠ n →
        t.sequencer.buffer m = s.sequencer.buffer m) := by
  let u : State := raise .entryFault { s with sequencer.stats.faults := saturate16 s.sequencer.stats.faults }
  have hbuf : ∀ m, u.sequencer.buffer m = s.sequencer.buffer m := fun m => by cases m <;> rfl
  have unspent : (s.sequencer.buffer n).index + 1 < (s.sequencer.buffer n).entries.length →
      endSpent n (advanceIndex n u) = advanceIndex n u := fun hlt =>
    endSpent_of_lt (by rw [advanceIndex_buffer, hbuf]; exact hlt)
  have hstand := endSpent_unwatched n (advanceIndex n u)
  obtain ⟨a, hexec⟩ := exec_applyEntry hg hh hc
  rw [serveEntry_fault hf.plan] at hexec
  refine ⟨_, hexec, ?_, ?_, by simp, by simp, by simp, by simp, by simp, ?_, fun hlt => ?_, fun m hlt hm => ?_⟩
  · exact hstand.stats.trans (advanceIndex_stats n u)
  · have raised : (advanceIndex n u).flag .entryFault = true :=
      (flag_congr (s := u) (by simp) _).trans (raise_flag_same ..)
    exact endSpent_keepsFlags n _ _ raised
  · exact hstand.time.trans (by simp [u])
  · show (endSpent n (advanceIndex n u)).sequencer.buffer n = _
    rw [unspent hlt, advanceIndex_buffer, hbuf]
  · show (endSpent n (advanceIndex n u)).sequencer.buffer m = _
    rw [unspent hlt, advanceIndex_other hm, hbuf]

/-- Settles O49: the layout by its bits, a fault and an entry without room by their branches of the grant. -/
theorem entriesAreSkippedOrHandedBack : Obligations.EntriesAreSkippedOrHandedBack := by
  refine ⟨fun e => ⟨entryId_eq e, entryTime_eq e, fun position hp h => ?_, fun h => ?_, fun h => ?_, fun h1 h2 h3 => ?_⟩,
    fun n e s hg hh hc _ hf => applyEntry_fault hg hh hc hf, fun n e s hg hh hc hfull hn => ?_⟩
  · rw [readEntry_switch (by rw [h]; rfl), hp]
    rfl
  · rw [readEntry_source (by rw [h]; rfl), parseFlag_eq]
  · exact readEntry_cue (by rw [h]; rfl)
  · exact readEntry_bad (fun h => h1 (BitVec.eq_of_toNat_eq h)) (fun h => h2 (BitVec.eq_of_toNat_eq h))
      (fun h => h3 (BitVec.eq_of_toNat_eq h))
  · obtain ⟨a, hexec⟩ := exec_applyEntry hg hh hc
    rw [serveEntry_backlog hn (decide_eq_false (Nat.not_lt.2 hfull))] at hexec
    exact ⟨_, hexec, rfl⟩

end Sys2Proof.Machine
end

section
/-! SWITCH entries (O50): the record, the job and the statistics of one that is applied (R23, R29 to R32, R112, R120,
R121). -/

namespace Sys2Proof.Machine

/-! ### The jobs of the resolver -/

/-- The job in progress and those that wait, oldest first (R44, R45). -/
def Resolver.jobs (r : Resolver) : List Job := r.current.toList.map (·.job) ++ r.queue

/-- A job is appended behind the others, whether it waits or is taken at once. -/
theorem appendJob_jobs {s : State} (h : s.resolver.current = none → s.resolver.queue = []) (j : Job) :
    (appendJob j s).resolver.jobs = s.resolver.jobs ++ [j] := by
  by_cases hc : s.resolver.current = none
  · rw [appendJob_idle hc (h hc)]
    simp [Resolver.jobs, hc, h hc, JobInProgress.begin]
  · rw [appendJob_busy hc]
    simp [Resolver.jobs]

theorem commitSwitch_jobs {s : State} (h : s.resolver.current = none → s.resolver.queue = []) (sw : Nat)
    (old new : SwitchRec) (cause : Nat) :
    (commitSwitch sw old new cause s).resolver.jobs =
      s.resolver.jobs ++ if old.effective = new.effective then [] else [jobFor sw new.effective cause] := by
  unfold commitSwitch
  dsimp only
  split
  · exact (List.append_nil _).symm
  · exact appendJob_jobs (s := { s with store.switches := Tab.put s.store.switches sw new }) h _

/-! ### The record and the statistics -/

/-- A discrepancy marks the switch; a target that differs is taken, counted and timed, and the positions are derived
(R29 to R31). -/
theorem SwitchRec.applyReport_eq (policy : Policy) (expected target : Position) (time : Nat) (r : SwitchRec) :
    r.applyReport policy expected target time =
      { r with
        archived := target
        held := if target = r.archived then r.held else deriveHeld policy target r.held
        effective := if target = r.archived then r.effective
          else deriveEffective r.retired r.override
            (if target = r.archived then r.held else deriveHeld policy target r.held)
        discrepancy := r.discrepancy || decide (r.archived ≠ expected)
        changeCount := if target = r.archived then r.changeCount
          else if r.changeCount < 65535 then r.changeCount + 1 else r.changeCount
        lastChange := if target = r.archived then r.lastChange else some time } := by
  unfold SwitchRec.applyReport
  by_cases h : target = r.archived
  · subst h
    simp
  · simp only [h, if_false]
    rfl

/-- The statistics after an applied SWITCH entry, a discrepancy among them or not (R32, R120, R121). -/
def Stats.afterSwitch (c : Clock) (t : Nat) (disc : Bool) (q : Stats) : Stats :=
  if disc then { q.afterEntry c t with discrepancies := saturate16 q.discrepancies } else q.afterEntry c t

theorem Stats.afterSwitch_eq (c : Clock) (t : Nat) (disc : Prop) [Decidable disc] (q : Stats) :
    q.afterSwitch c t (decide disc) =
      { q with
        applied := if q.applied < 4294967295 then q.applied + 1 else q.applied
        maxLag := max q.maxLag (min (c.lag t) 65535)
        outOfOrder := if q.outOfOrderAt c.direction t && decide (q.outOfOrder < 65535) then q.outOfOrder + 1
          else q.outOfOrder
        discrepancies := if disc ∧ q.discrepancies < 65535 then q.discrepancies + 1 else q.discrepancies
        previous := some t } := by
  have outOfOrder : (q.afterEntry c t).outOfOrder =
      if q.outOfOrderAt c.direction t && decide (q.outOfOrder < 65535) then q.outOfOrder + 1 else q.outOfOrder := by
    unfold Stats.afterEntry saturate16
    by_cases hlt : q.outOfOrder < 65535 <;> cases q.outOfOrderAt c.direction t <;> simp [Config.max16, hlt]
  rw [← outOfOrder]
  unfold Stats.afterSwitch
  by_cases hd : disc
  · rw [decide_eq_true hd, if_pos rfl]
    simp only [hd, true_and]
    rfl
  · rw [decide_eq_false hd, if_neg Bool.false_ne_true]
    simp only [hd, false_and, if_false]
    rfl

theorem Stats.outOfOrderAt_eq (q : Stats) (d : Direction) (t : Nat) :
    q.outOfOrderAt d t =
      match q.previous, d with
      | some p, .forward => decide (t < p)
      | some p, .reverse => decide (p < t)
      | none, _ => false := by
  unfold Stats.outOfOrderAt
  cases q.previous <;> cases d <;> rfl

/-! ### The obligation -/

/-- The switch and the resolver are written whatever the Sequencer holds. -/
theorem commitSwitch_writeSequencer (sw : Nat) (old new : SwitchRec) (cause : Nat) (q : Sequencer) (s : State) :
    commitSwitch sw old new cause { s with sequencer := q } = { commitSwitch sw old new cause s with sequencer := q } := by
  unfold commitSwitch appendJob takeJob
  dsimp only
  repeat' split
  all_goals rfl

/-- A SWITCH entry that is applied, with its statistics: the switch is written with its job (R112 to R114). -/
theorem applyPlan_switch (sw : Nat) (r r' : SwitchRec) (disc : Bool) (t : Nat) (s : State) :
    applyPlan t (.switch sw r r' disc)
        { s with sequencer.stats := s.sequencer.stats.afterEntry s.clock t } =
      { commitSwitch sw r r' t s with
        sequencer := { s.sequencer with stats := s.sequencer.stats.afterSwitch s.clock t disc } } := by
  rw [applyPlan, commitSwitch_writeSequencer]
  cases disc <;> rfl

/-- The grant applies the entry and advances the index; the rest is the Watch Unit's and the arbiter's. -/
theorem exec_applyEntry_switch {n : BufferName} {e : BitVec 64} {sw : Nat} {r r' : SwitchRec} {disc : Bool} {s : State}
    (hg : s.arbiter.grant = .sequencer) (hh : s.sequencer.head = some (n, e)) (hc : s.arbiter.clearPending = false)
    (hp : planEntry s e = .switch sw r r' disc) (hroom : r.effective = r'.effective ∨ s.resolver.queue.length < 64)
    (hlast : (s.sequencer.buffer n).index + 1 < (s.sequencer.buffer n).entries.length) :
    ∃ u w a,
      u = { commitSwitch sw r r' (entryTime e) s with
            sequencer := { s.sequencer with
              stats := s.sequencer.stats.afterSwitch s.clock (entryTime e) disc } } ∧
      exec .applyEntry s = .next { advanceIndex n u with watch := w, arbiter := a } := by
  have room : (planEntry s e).needsRoom = true → s.hasRoom = true := fun hn => by
    rw [hp] at hn
    exact decide_eq_true (hroom.resolve_left (of_decide_eq_true hn))
  obtain ⟨w, hserve⟩ := serveEntry_applied (n := n) (by rw [hp]; exact nofun) room
    (by rw [hp, applyPlan_switch]) (by cases n <;> exact hlast)
  obtain ⟨a, hexec⟩ := exec_applyEntry hg hh hc
  exact ⟨_, w, a, rfl, by rw [hexec, hserve]⟩

/-- Settles O50: the plan of the entry, applied. -/
theorem switchEntriesAreApplied : Obligations.SwitchEntriesAreApplied := by
  intro n e sw f g expected target r r' effective held s hg hh hc hst he hr hd hheld heff hr' hroom hlast
  have hplan := planEntry_switch hst he hr hd
  have hrec : r.applyReport s.policy expected target (entryTime e) = r' := by
    rw [SwitchRec.applyReport_eq, hr', heff, hheld]
  have heffective : r'.effective = effective := by rw [hr']
  rw [hrec] at hplan
  rw [← heffective] at hroom ⊢
  obtain ⟨u, w, a, hu, hexec⟩ := exec_applyEntry_switch hg hh hc hplan hroom hlast
  have hstore : (advanceIndex n u).store = { s.store with switches := Tab.put s.store.switches sw r' } := by
    rw [advanceIndex_store, hu]
    exact commitSwitch_store ..
  have hresolver : (advanceIndex n u).resolver = (commitSwitch sw r r' (entryTime e) s).resolver := by
    rw [advanceIndex_resolver, hu]
  have hbuffer : ∀ m, u.sequencer.buffer m = s.sequencer.buffer m := fun m => by rw [hu]; cases m <;> rfl
  have hstats : (advanceIndex n u).sequencer.stats =
      s.sequencer.stats.afterSwitch s.clock (entryTime e) (decide (r.archived ≠ expected)) :=
    (advanceIndex_stats n u).trans (by rw [hu])
  rw [Stats.afterSwitch_eq, Stats.outOfOrderAt_eq] at hstats
  have hnodes := congrArg Store.nodes hstore
  have hislands := congrArg Store.islands hstore
  refine ⟨_, hexec, ?_, fun m hm => ?_, hnodes, hislands, ?_, ?_, fun m hm => (advanceIndex_other hm u).trans (hbuffer m),
    hstats, ?_, ?_, ?_, ?_⟩
  · exact (congrArg (·.switch sw) hstore).trans (Tab.get_put_same ..)
  · exact (congrArg (·.switch m) hstore).trans (Tab.get_put_other _ _ _ _ hm)
  · by_cases hidle : s.resolver.current = none → s.resolver.queue = []
    · exact .inl ((congrArg Resolver.jobs hresolver).trans (commitSwitch_jobs hidle ..))
    · exact .inr (Classical.not_imp.1 hidle)
  · exact (advanceIndex_buffer n u).trans (by rw [hbuffer])
  · exact (advanceIndex_run u n).trans (by rw [hu, commitSwitch_run])
  · exact (advanceIndex_panel u n).trans (by rw [hu, commitSwitch_panel])
  · exact (advanceIndex_link u n).trans (by rw [hu, commitSwitch_link])
  · exact (advanceIndex_policy u n).trans (by rw [hu, commitSwitch_policy])

end Sys2Proof.Machine
end

section
/-! SUPPORT. The invariant of the batch buffers (O59) taken apart: the frame discipline (R177), the part at rest (R73,
R143) and the two buffers with their arm order (R98, R99), each with what keeps it. -/

namespace Sys2Proof.Machine

/-! ### The frame discipline -/

/-- What leaves the link alone and brings no CLEAR MODEL to wait. -/
theorem FrameInv.congr {s t : State} (h : FrameInv s) (hl : t.link = s.link)
    (hc : t.arbiter.clearPending = true → s.arbiter.clearPending = true) : FrameInv t := by
  obtain ⟨taken, clear, load, late, wait⟩ := h
  unfold FrameInv
  rw [hl]
  exact ⟨taken, clear ∘ hc, load, late, wait⟩

/-- A CLEAR MODEL waits only while its frame does (R79). -/
theorem FrameInv.clearPending_of_taken {s : State} (h : FrameInv s) (ht : s.link.taken ≠ some .clearModel) :
    s.arbiter.clearPending = false := by
  obtain ⟨-, clear, -, -, -⟩ := h
  exact Bool.eq_false_iff.2 (mt clear ht)

/-- A frame that does not wait has no command in hand. -/
theorem FrameInv.taken_none {s : State} (h : FrameInv s) (hf : s.link.frame ≠ .waiting) : s.link.taken = none := by
  obtain ⟨taken, -, -, -, -⟩ := h
  exact Option.not_isSome_iff_eq_none.1 (mt taken hf)

/-- A frame that waits for its command has no load in hand, and no items. -/
theorem FrameInv.of_taken {s : State} (h : FrameInv s) {c : Command} (ht : s.link.taken = some c) :
    s.link.frame = .waiting ∧ s.link.load = none ∧ s.link.late = none := by
  obtain ⟨taken, -, load, late, -⟩ := h
  have hf := taken (by rw [ht]; rfl)
  refine ⟨hf, Option.not_isSome_iff_eq_none.1 fun hl => ?_, Option.not_isSome_iff_eq_none.1 fun hl => ?_⟩
  · have := load hl
    simp [hf] at this
  · have := late hl
    simp [hf] at this

/-- A position begun in WAITING is one with LMODE1 low. -/
theorem FrameInv.lmode1_of_begun {s : State} (h : FrameInv s) (hw : s.link.waitBegun = true) : s.link.lmode1 = false := by
  obtain ⟨-, -, -, -, wait⟩ := h
  exact (wait hw).1

/-- In STATUS with no command in hand the discipline holds, whatever load or items are. -/
theorem FrameInv.of_status {s : State} (frame : s.link.frame = .status) (taken : s.link.taken = none)
    (clear : s.arbiter.clearPending = false) (begun : s.link.waitBegun = true → s.link.lmode1 = false) : FrameInv s :=
  ⟨by simp [taken], by simp [clear], fun _ => .inl frame, fun _ => frame, fun h => ⟨begun h, .inr frame⟩⟩

/-- Nothing is in hand: no command, no load, no items to be taken and no position begun in WAITING. -/
structure State.Bare (s : State) : Prop where
  taken : s.link.taken = none
  clear : s.arbiter.clearPending = false
  load : s.link.load = none
  late : s.link.late = none
  wait : s.link.waitBegun = false

theorem State.Bare.frameInv {s : State} (h : s.Bare) : FrameInv s := by
  simp [FrameInv, h.taken, h.clear, h.load, h.late, h.wait]

/-- Outside WAITING, STATUS and ENTRIES nothing is in hand. -/
theorem FrameInv.bare {s : State} (h : FrameInv s) (hw : s.link.frame ≠ .waiting) (hs : s.link.frame ≠ .status)
    (he : s.link.frame ≠ .entries) : s.Bare := by
  have ht := h.taken_none hw
  have hc := h.clearPending_of_taken (by rw [ht]; exact nofun)
  obtain ⟨-, -, load, late, wait⟩ := h
  refine ⟨ht, hc, Option.not_isSome_iff_eq_none.1 fun hl => (load hl).elim hs he,
    Option.not_isSome_iff_eq_none.1 (mt late hs), Bool.eq_false_iff.2 fun hb => (wait hb).2.elim hw hs⟩

/-! ### The part at rest -/

/-- Nothing of the replay is in flight (R73, R143). -/
structure State.Resting (s : State) : Prop where
  queue : s.resolver.queue = []
  current : s.resolver.current = none
  bufferA : s.sequencer.bufferA = .cleared
  bufferB : s.sequencer.bufferB = .cleared
  armOrder : s.sequencer.armOrder = []
  load : s.link.load = none

/-- BUILD, COMPILING and RESTORING are the run states without a compiled model. -/
theorem restInv_iff (s : State) : RestInv s ↔ (s.run.state.hasModel = false → s.Resting) := by
  have states : (s.run.state = .build ∨ s.run.state = .compiling ∨ s.run.state = .restoring) ↔
      s.run.state.hasModel = false := by cases s.run.state <;> simp [RunState.hasModel]
  unfold RestInv
  rw [states]
  exact ⟨fun h hr => let ⟨q, c, a, b, o, l⟩ := h hr; ⟨q, c, a, b, o, l⟩,
    fun h hr => let ⟨q, c, a, b, o, l⟩ := h hr; ⟨q, c, a, b, o, l⟩⟩

/-! ### The two buffers -/

/-- Both buffers are good, the arm order names none twice, and no two are ACTIVE (R98, R99, R108). -/
structure State.BuffersGood (s : State) : Prop where
  good : ∀ n, BufferGood s n
  nodup : s.sequencer.armOrder.Nodup
  active : ∀ m n, (s.sequencer.buffer m).state = .active → (s.sequencer.buffer n).state = .active → m = n

theorem bufferInv_iff (s : State) :
    BufferInv s ↔ FrameInv s ∧ (s.run.state.hasModel = false → s.Resting) ∧ s.BuffersGood := by
  rw [← restInv_iff]
  refine ⟨fun ⟨hf, hr, ha, hb, hn, hx⟩ => ⟨hf, hr, ⟨fun n => by cases n <;> assumption, hn, fun m n hm hn => ?_⟩⟩,
    fun ⟨hf, hr, hg⟩ => ⟨hf, hr, hg.good .a, hg.good .b, hg.nodup, fun ⟨ha, hb⟩ => nomatch hg.active .a .b ha hb⟩⟩
  cases m <;> cases n
  · rfl
  · exact absurd ⟨hm, hn⟩ hx
  · exact absurd ⟨hn, hm⟩ hx
  · rfl

/-- What an operation that writes one buffer is to show: the other stands with its place in the arm order, and the
written one is good. -/
theorem State.BuffersGood.write {s t : State} (h : s.BuffersGood) (n : BufferName)
    (other : ∀ m, m ≠ n → t.sequencer.buffer m = s.sequencer.buffer m)
    (arm : ∀ m, m ≠ n → (m ∈ t.sequencer.armOrder ↔ m ∈ s.sequencer.armOrder))
    (load : ∀ m, m ≠ n → t.link.load = some m → s.link.load = some m)
    (nodup : t.sequencer.armOrder.Nodup) (good : BufferGood t n)
    (active : (t.sequencer.buffer n).state = .active → ∀ m, m ≠ n → (s.sequencer.buffer m).state ≠ .active) :
    t.BuffersGood := by
  refine ⟨fun m => ?_, nodup, fun m k hm hk => ?_⟩
  · by_cases hm : m = n
    · rwa [hm]
    · have hg := h.good m
      unfold BufferGood at hg ⊢
      rw [other m hm, arm m hm]
      obtain ⟨len, idx, spent, empty, order, load'⟩ := hg
      exact ⟨len, idx, spent, empty, order, load' ∘ load m hm⟩
  · by_cases hmn : m = n <;> by_cases hkn : k = n
    · rw [hmn, hkn]
    · rw [other k hkn] at hk
      exact absurd hk (active (hmn ▸ hm) k hkn)
    · rw [other m hmn] at hm
      exact absurd hm (active (hkn ▸ hk) m hmn)
    · rw [other m hmn] at hm
      rw [other k hkn] at hk
      exact h.active m k hm hk

/-- What leaves the buffers and the arm order alone, and takes up no load. -/
theorem State.BuffersGood.congr {s t : State} (h : s.BuffersGood) (hb : ∀ n, t.sequencer.buffer n = s.sequencer.buffer n)
    (ho : t.sequencer.armOrder = s.sequencer.armOrder) (hl : ∀ n, t.link.load = some n → s.link.load = some n) :
    t.BuffersGood := by
  refine ⟨fun n => ?_, by rw [ho]; exact h.nodup, fun m n => by rw [hb, hb]; exact h.active m n⟩
  have hg := h.good n
  unfold BufferGood at hg ⊢
  rw [hb, ho]
  obtain ⟨len, idx, spent, empty, order, load⟩ := hg
  exact ⟨len, idx, spent, empty, order, load ∘ hl n⟩

/-- Two EMPTY buffers, with nothing armed and no load in hand. -/
theorem State.BuffersGood.of_cleared {s : State} (hb : ∀ n, s.sequencer.buffer n = .cleared)
    (ho : s.sequencer.armOrder = []) (hl : s.link.load = none) : s.BuffersGood :=
  ⟨fun n => by simp [BufferGood, hb, ho, hl, Buffer.cleared], by rw [ho]; exact List.nodup_nil,
    fun m n hm => by simp [hb, Buffer.cleared] at hm⟩

theorem Sequencer.anyBuffer_iff (q : Sequencer) (x : BufferState) :
    q.anyBuffer x = true ↔ ∃ n, (q.buffer n).state = x := by
  simp only [Sequencer.anyBuffer, Bool.or_eq_true, decide_eq_true_eq]
  constructor
  · rintro (h | h)
    · exact ⟨.a, h⟩
    · exact ⟨.b, h⟩
  · rintro ⟨n, h⟩
    cases n with
    | a => exact .inl h
    | b => exact .inr h

theorem Sequencer.state_ne_of_anyBuffer {q : Sequencer} {x : BufferState} (h : q.anyBuffer x = false) (n : BufferName) :
    (q.buffer n).state ≠ x := fun hn =>
  Bool.false_ne_true (h.symm.trans ((q.anyBuffer_iff x).2 ⟨n, hn⟩))

theorem Sequencer.active_of_activeName {q : Sequencer} {n : BufferName} (h : q.activeName = some n) :
    (q.buffer n).state = .active := by
  unfold Sequencer.activeName at h
  split at h
  · cases h; assumption
  · split at h <;> cases h
    assumption

/-- The head entry is one of the ACTIVE buffer (R98). -/
theorem Sequencer.of_head {q : Sequencer} {n : BufferName} {e : BitVec 64} (h : q.head = some (n, e)) :
    (q.buffer n).state = .active ∧ (q.buffer n).entries[(q.buffer n).index]? = some e := by
  unfold Sequencer.head at h
  split at h
  · rename_i m hm
    obtain ⟨e', he, hp⟩ := Option.map_eq_some_iff.1 h
    cases hp
    exact ⟨Sequencer.active_of_activeName hm, he⟩
  · cases h

namespace State.BuffersGood

variable {s : State}

/-- The head of the arm order is taken: its buffer becomes ACTIVE, where none is, or EMPTY (R108, R109). -/
theorem take_head (h : s.BuffersGood) {n : BufferName} {rest : List BufferName} (ho : s.sequencer.armOrder = n :: rest)
    {b : Buffer} (hb : b = .cleared ∨ b = { s.sequencer.buffer n with state := .active, index := 0 } ∧
      ∀ m, (s.sequencer.buffer m).state ≠ .active) :
    (setBuffer n b { s with sequencer.armOrder := rest }).BuffersGood := by
  have hnd := h.nodup
  rw [ho, List.nodup_cons] at hnd
  obtain ⟨len, -, -, -, order, load⟩ := h.good n
  have harmed : (s.sequencer.buffer n).state = .armed := order.1 (by rw [ho]; exact List.mem_cons_self)
  have hload : s.link.load ≠ some n := fun hl => by rw [load hl] at harmed; cases harmed
  refine h.write n (fun m hm => ?_) (fun m hm => ?_) (fun m _ hl => ?_) ?_ ?_ fun ha m _ => ?_
  · rw [setBuffer_other _ _ _ _ hm]
    cases m <;> rfl
  · rw [setBuffer_armOrder, ho, List.mem_cons]
    exact ⟨.inr, fun h => h.resolve_left hm⟩
  · simpa using hl
  · rw [setBuffer_armOrder]
    exact hnd.2
  · unfold BufferGood
    rw [setBuffer_buffer, setBuffer_armOrder, setBuffer_link]
    obtain rfl | ⟨rfl, -⟩ := hb
    · simp [Buffer.cleared, hnd.1, hload]
    · simp [hnd.1, hload, len]
  · obtain rfl | ⟨-, hne⟩ := hb
    · rw [setBuffer_buffer] at ha
      cases ha
    · exact hne m

theorem activateFrom (h : s.BuffersGood) (hne : ∀ m, (s.sequencer.buffer m).state ≠ .active) {l : List BufferName}
    (hl : s.sequencer.armOrder = l) : (activateFrom l s).BuffersGood := by
  induction l generalizing s with
  | nil => exact h
  | cons n rest ih =>
    have hbuffer : ∀ m, Sequencer.buffer { s.sequencer with armOrder := rest } m = s.sequencer.buffer m :=
      fun m => by cases m <;> rfl
    unfold Machine.activateFrom
    dsimp only
    rw [hbuffer]
    split
    · exact h.take_head hl (.inr ⟨rfl, hne⟩)
    · have emptied := h.take_head hl (.inl rfl)
      refine ih (emptied.congr (fun _ => rfl) rfl fun _ => id) (fun m => ?_) (setBuffer_armOrder ..)
      unfold rejectBuffer
      rw [raise_sequencer]
      by_cases hm : m = n
      · rw [hm, setBuffer_buffer]
        simp [Buffer.cleared]
      · rw [setBuffer_other _ _ _ _ hm]
        exact hbuffer m ▸ hne m

theorem activate (h : s.BuffersGood) : (activate s).BuffersGood := by
  unfold Machine.activate
  split
  · rename_i ha
    rw [Bool.and_eq_true, Bool.not_eq_true'] at ha
    exact h.activateFrom (Sequencer.state_ne_of_anyBuffer ha.2) rfl
  · exact h

theorem testStarve (h : s.BuffersGood) : (testStarve s).BuffersGood :=
  h.congr (fun n => by rw [testStarve_sequencer]) (by rw [testStarve_sequencer]) (by simp)

/-- A buffer that is not in the arm order and not being loaded is emptied. -/
theorem clear_buffer (h : s.BuffersGood) {n : BufferName} (ho : n ∉ s.sequencer.armOrder) (hl : s.link.load ≠ some n) :
    (setBuffer n .cleared s).BuffersGood := by
  refine h.write n (fun m hm => setBuffer_other _ _ _ _ hm) (fun m _ => by simp) (fun m _ => by simp)
    (by simpa using h.nodup) ?_ fun ha => ?_
  · unfold BufferGood
    rw [setBuffer_buffer, setBuffer_armOrder, setBuffer_link]
    simp [Buffer.cleared, ho, hl]
  · rw [setBuffer_buffer] at ha
    cases ha

/-- An ACTIVE buffer is neither in the arm order nor being loaded. -/
theorem of_active (h : s.BuffersGood) {n : BufferName} (ha : (s.sequencer.buffer n).state = .active) :
    n ∉ s.sequencer.armOrder ∧ s.link.load ≠ some n := by
  obtain ⟨-, -, -, -, order, load⟩ := h.good n
  refine ⟨fun hm => ?_, fun hl => ?_⟩
  · rw [order.1 hm] at ha; cases ha
  · rw [load hl] at ha; cases ha

/-- A buffer keeps its state while its entries, its index or its last load are written. -/
theorem rewrite (h : s.BuffersGood) {n : BufferName} {b : Buffer} (hs : b.state = (s.sequencer.buffer n).state)
    (he : b.state ≠ .empty) (hlen : b.entries.length ≤ Config.bufferCapacity) (hidx : b.index ≤ b.entries.length) :
    (setBuffer n b s).BuffersGood := by
  obtain ⟨-, -, spent, -, order, load⟩ := h.good n
  refine h.write n (fun m hm => setBuffer_other _ _ _ _ hm) (fun m _ => by simp) (fun m _ => by simp)
    (by simpa using h.nodup) ?_ fun ha m hm hma => ?_
  · unfold BufferGood
    rw [setBuffer_buffer, setBuffer_armOrder, setBuffer_link, hs]
    exact ⟨hlen, hidx, spent, fun h0 => absurd (hs.trans h0) he, order, load⟩
  · rw [setBuffer_buffer, hs] at ha
    exact hm (h.active m n hma ha)

/-- A buffer in LOADING is armed: its letter joins the arm order (R105). -/
theorem arm (h : s.BuffersGood) {n : BufferName} (hs : (s.sequencer.buffer n).state = .loading)
    (hl : s.link.load = none) {t : State} (hlink : t.link.load = none)
    (hb : ∀ m, t.sequencer.buffer m =
      (setBuffer n { s.sequencer.buffer n with state := .armed } s).sequencer.buffer m)
    (ho : t.sequencer.armOrder = s.sequencer.armOrder ++ [n]) : t.BuffersGood := by
  obtain ⟨len, idx, -, -, order, -⟩ := h.good n
  have hn : n ∉ s.sequencer.armOrder := fun hm => by rw [order.1 hm] at hs; cases hs
  refine h.write n (fun m hm => ?_) (fun m hm => ?_) (fun m _ => by rw [hlink, hl]; exact id) ?_ ?_ fun ha => ?_
  · rw [hb, setBuffer_other _ _ _ _ hm]
  · rw [ho]; simp [hm]
  · rw [ho]
    exact List.nodup_append.2 ⟨h.nodup, List.nodup_singleton n, fun k hk m hm => by
      rw [List.mem_singleton.1 hm]; rintro rfl; exact hn hk⟩
  · unfold BufferGood
    rw [hb, setBuffer_buffer, hlink, ho]
    simp [len, idx]
  · rw [hb, setBuffer_buffer] at ha
    cases ha

/-- A buffer is discarded, and its letter leaves the arm order (R106). -/
theorem discard (h : s.BuffersGood) (n : BufferName) (hl : s.link.load = none) :
    (grantDiscardBatch.discard n s).BuffersGood := by
  unfold grantDiscardBatch.discard
  refine h.write n (fun m hm => ?_) (fun m hm => ?_) (fun m _ => by simp) ?_ ?_ fun ha => ?_
  · rw [setBuffer_other _ _ _ _ hm]
    cases m <;> rfl
  · simp [hm]
  · rw [setBuffer_armOrder]
    exact h.nodup.filter _
  · unfold BufferGood
    rw [setBuffer_buffer, setBuffer_armOrder, setBuffer_link]
    simp [Buffer.cleared, hl]
  · rw [setBuffer_buffer] at ha
    cases ha

end State.BuffersGood

end Sys2Proof.Machine
end

section
/-! SUPPORT. The invariant of the batch buffers (O59) under the commands of the link and the units of the engines. -/

namespace Sys2Proof.Machine

@[simp] theorem answer_waitBegun (st : Status) (data : List Byte) (s : State) :
    (answer st data s).link.waitBegun = s.link.waitBegun := rfl
@[simp] theorem answer_lmode1 (st : Status) (data : List Byte) (s : State) :
    (answer st data s).link.lmode1 = s.link.lmode1 := rfl
@[simp] theorem answerLate_waitBegun (r : LateRead) (s : State) :
    (answerLate r s).link.waitBegun = s.link.waitBegun := rfl
@[simp] theorem answerLate_lmode1 (r : LateRead) (s : State) : (answerLate r s).link.lmode1 = s.link.lmode1 := rfl

@[simp] theorem leaveEnded_clearPending (s : State) :
    (leaveEnded s).arbiter.clearPending = s.arbiter.clearPending := by
  unfold leaveEnded; split <;> rfl

@[simp] theorem changeDirection_clearPending (d : Direction) (s : State) :
    (changeDirection d s).arbiter.clearPending = s.arbiter.clearPending := by
  unfold changeDirection testActiveBuffer
  rw [leaveEnded_clearPending]
  repeat' split
  · rfl
  · simp [withdrawSequencer]
  · rfl

/-! ### Forms of what keeps the invariant -/

namespace BufferInv

variable {s t : State}

theorem frameInv (h : BufferInv s) : FrameInv s := ((bufferInv_iff s).1 h).1
theorem resting (h : BufferInv s) : s.run.state.hasModel = false → s.Resting := ((bufferInv_iff s).1 h).2.1
theorem buffers (h : BufferInv s) : s.BuffersGood := ((bufferInv_iff s).1 h).2.2

/-- A part with a job, or with a buffer in use, has a compiled model. -/
theorem hasModel_of_not_resting (h : BufferInv s) (hr : ¬s.Resting) : s.run.state.hasModel = true :=
  Bool.eq_true_of_not_eq_false (mt h.resting hr)

theorem hasModel_of_job (h : BufferInv s) {j : JobInProgress} (hj : s.resolver.current = some j) :
    s.run.state.hasModel = true :=
  h.hasModel_of_not_resting fun hr => by rw [hr.current] at hj; cases hj

theorem hasModel_of_buffer (h : BufferInv s) {n : BufferName} (hn : (s.sequencer.buffer n).state ≠ .empty) :
    s.run.state.hasModel = true :=
  h.hasModel_of_not_resting fun hr => hn (by cases n <;> simp [Sequencer.buffer, hr.bufferA, hr.bufferB, Buffer.cleared])

theorem hasModel_of_load (h : BufferInv s) (hl : s.link.load ≠ none) : s.run.state.hasModel = true :=
  h.hasModel_of_not_resting fun hr => hl hr.load

/-- What writes neither the link nor a buffer nor the jobs, and does not leave a compiled model. -/
theorem congr (h : BufferInv s) (hl : t.link = s.link)
    (hc : t.arbiter.clearPending = true → s.arbiter.clearPending = true)
    (hr : t.run.state.hasModel = false → s.run.state.hasModel = false)
    (hq : t.resolver.queue = s.resolver.queue) (hj : t.resolver.current = s.resolver.current)
    (hb : ∀ n, t.sequencer.buffer n = s.sequencer.buffer n) (ho : t.sequencer.armOrder = s.sequencer.armOrder) :
    BufferInv t := by
  refine (bufferInv_iff t).2 ⟨h.frameInv.congr hl hc, fun hm => ?_, h.buffers.congr hb ho (by rw [hl]; exact fun _ => id)⟩
  obtain ⟨queue, current, bufferA, bufferB, armOrder, load⟩ := h.resting (hr hm)
  exact ⟨hq.trans queue, hj.trans current, (hb .a).trans bufferA, (hb .b).trans bufferB, ho.trans armOrder,
    (congrArg _ hl).trans load⟩

/-- What leaves the link, the jobs, the Sequencer and the run alone. -/
theorem of_frame (h : BufferInv s) (hl : t.link = s.link)
    (hc : t.arbiter.clearPending = true → s.arbiter.clearPending = true) (hr : t.run = s.run)
    (hres : t.resolver = s.resolver) (hs : t.sequencer = s.sequencer) : BufferInv t :=
  h.congr hl hc (by rw [hr]; exact id) (by rw [hres]) (by rw [hres]) (fun n => by rw [hs]) (by rw [hs])

/-- What leaves the link, the arbiter, the jobs, the Sequencer and the run state alone. -/
theorem of_run (h : BufferInv s) (hl : t.link = s.link) (ha : t.arbiter = s.arbiter)
    (hr : t.run.state = s.run.state) (hres : t.resolver = s.resolver) (hs : t.sequencer = s.sequencer) : BufferInv t :=
  h.congr hl (by rw [ha]; exact id) (by rw [hr]; exact id) (by rw [hres]) (by rw [hres]) (fun n => by rw [hs])
    (by rw [hs])

/-- With a compiled model the jobs are free to change. -/
theorem of_model (h : BufferInv s) (hl : t.link = s.link)
    (hc : t.arbiter.clearPending = true → s.arbiter.clearPending = true) (hm : t.run.state.hasModel = true)
    (hb : t.BuffersGood) : BufferInv t :=
  (bufferInv_iff t).2 ⟨h.frameInv.congr hl hc, fun hf => absurd (hm.symm.trans hf) (by decide), hb⟩

/-- With a compiled model that stays, where the Sequencer stands too. -/
theorem of_jobs (h : BufferInv s) (hl : t.link = s.link)
    (hc : t.arbiter.clearPending = true → s.arbiter.clearPending = true) (hm : t.run.state.hasModel = true)
    (hs : t.sequencer = s.sequencer) : BufferInv t :=
  h.of_model hl hc hm (h.buffers.congr (fun n => by rw [hs]) (by rw [hs]) (by rw [hl]; exact fun _ => id))

/-- What writes the link alone, and takes up no load. -/
theorem of_link (h : BufferInv s) (e : t = { s with link := t.link }) (hf : FrameInv t)
    (hl : t.link.load = none ∨ t.link.load = s.link.load) : BufferInv t := by
  have hload : ∀ n, t.link.load = some n → s.link.load = some n := fun n hn => by
    obtain hl | hl := hl <;> rw [hl] at hn
    · cases hn
    · exact hn
  have hseq : t.sequencer = s.sequencer := by rw [e]
  refine (bufferInv_iff t).2 ⟨hf, fun hm => ?_, h.buffers.congr (fun n => by rw [hseq]) (by rw [hseq]) hload⟩
  obtain ⟨queue, current, bufferA, bufferB, armOrder, load⟩ := h.resting (by rw [← hm, e])
  refine ⟨by rw [e]; exact queue, by rw [e]; exact current, by rw [hseq]; exact bufferA, by rw [hseq]; exact bufferB,
    by rw [hseq]; exact armOrder, ?_⟩
  obtain hl | hl := hl
  · exact hl
  · exact hl.trans load

/-! ### Answers -/

/-- A command of the frame has its answer while no CLEAR MODEL waits, and beside the link it has written nothing that
the invariant sees. -/
theorem replied (h : BufferInv s) (hc : s.arbiter.clearPending = false)
    (clear : t.arbiter.clearPending = s.arbiter.clearPending) (frame : t.link.frame = .status)
    (taken : t.link.taken = none) (load : t.link.load = none ∨ t.link.load = s.link.load)
    (begun : t.link.waitBegun = s.link.waitBegun) (lmode : t.link.lmode1 = s.link.lmode1) (run : t.run = s.run)
    (queue : t.resolver.queue = s.resolver.queue) (current : t.resolver.current = s.resolver.current)
    (sequencer : t.sequencer = s.sequencer) : BufferInv t := by
  have moved : BufferInv { t with link := s.link } :=
    h.congr rfl (by rw [← clear]; exact id) (by rw [← run]; exact id) queue current (fun n => by rw [← sequencer])
      (by rw [← sequencer])
  refine moved.of_link rfl (.of_status frame taken (clear.trans hc) fun hw => ?_) load
  exact lmode.trans (h.frameInv.lmode1_of_begun (begun.symm.trans hw))

theorem answer (h : BufferInv s) (hc : s.arbiter.clearPending = false) (st : Status) (data : List Byte) :
    BufferInv (answer st data s) := h.replied hc rfl rfl rfl (.inr rfl) rfl rfl rfl rfl rfl rfl

/-- A LOAD BATCH is refused. -/
theorem refuseLoad (h : BufferInv s) (hc : s.arbiter.clearPending = false) (st : Status) :
    BufferInv (refuseLoad st s) := h.replied hc rfl rfl rfl (.inl rfl) rfl rfl rfl rfl rfl rfl

/-- A LOAD BATCH is accepted, into an EMPTY buffer or one in LOADING (R100). -/
theorem acceptLoad (h : BufferInv s) (hc : s.arbiter.clearPending = false) (hm : s.run.state.hasModel = true)
    {n : BufferName} (d : Direction)
    (hn : (s.sequencer.buffer n).state = .empty ∨ (s.sequencer.buffer n).state = .loading) :
    BufferInv (acceptLoad n d s) := by
  obtain ⟨len, idx, -, -, order, -⟩ := h.buffers.good n
  have hno : n ∉ s.sequencer.armOrder := fun hmem => by
    have harmed := order.1 hmem
    obtain hn | hn := hn <;> rw [hn] at harmed <;> cases harmed
  have frame : FrameInv (Machine.acceptLoad n d s) := by
    unfold Machine.acceptLoad
    exact .of_status rfl rfl (by simpa using hc) (by simpa using h.frameInv.lmode1_of_begun)
  have model : (Machine.acceptLoad n d s).run.state.hasModel = true := by simpa [Machine.acceptLoad] using hm
  refine (bufferInv_iff _).2 ⟨frame, fun hf => absurd (model.symm.trans hf) (by decide), ?_⟩
  unfold Machine.acceptLoad
  refine h.buffers.write n (fun m hm => setBuffer_other _ _ _ _ hm) (fun m _ => by simp)
    (fun m hm hl => absurd (Option.some.inj hl).symm hm) (by simpa using h.buffers.nodup) ?_ fun ha => ?_
  · unfold BufferGood
    simp [len, idx, hno]
  · simp at ha

/-! ### The run and the buffers -/

/-- Where the run goes on within READY to ENDED the tests of activation and STARVE keep the buffers good. -/
theorem enterMoving (h : BufferInv s) {target : RunState} (hm : target.hasModel = true) :
    BufferInv (enterMoving target s) := by
  refine h.of_model (enterMoving_link ..) (by simp) (by simpa [Machine.enterMoving] using hm) ?_
  have entered : State.BuffersGood { s with run.state := target, clock.pausedState := false } :=
    h.buffers.congr (fun _ => rfl) rfl fun _ => id
  exact entered.activate.testStarve

theorem beginStep (h : BufferInv s) : BufferInv (beginStep s) :=
  (h.of_frame (t := { s with clock.boundary := some (s.clock.addSpan s.clock.time) }) rfl id rfl rfl rfl).enterMoving rfl

theorem resumeRun (h : BufferInv s) : BufferInv (resumeRun s) :=
  (h.of_frame (t := { s with clock.boundary := none }) rfl id rfl rfl rfl).enterMoving rfl

theorem enterPaused (h : BufferInv s) : BufferInv (enterPaused s) :=
  h.congr rfl id (by simp [RunState.hasModel]) rfl rfl (fun n => by cases n <;> rfl) rfl

theorem leaveEnded (h : BufferInv s) : BufferInv (leaveEnded s) := by
  unfold Machine.leaveEnded
  split
  · exact h.enterPaused
  · exact h

/-- An ACTIVE buffer of another tag is rejected, and another activates (R109). -/
theorem testActiveBuffer (h : BufferInv s) : BufferInv (testActiveBuffer s) := by
  unfold Machine.testActiveBuffer
  split
  · rename_i n hn
    split
    · exact h
    · have hactive := Sequencer.active_of_activeName hn
      have hm := h.hasModel_of_buffer (n := n) (by rw [hactive]; decide)
      obtain ⟨ho, hl⟩ := h.buffers.of_active hactive
      have rejected : (withdrawSequencer (rejectBuffer n s)).BuffersGood :=
        (h.buffers.clear_buffer ho hl).congr (fun _ => rfl) rfl fun _ => id
      refine h.of_model (by simp) (by simp [withdrawSequencer]) (by simpa using hm) rejected.activate.testStarve
  · exact h

theorem changeDirection (h : BufferInv s) (d : Direction) : BufferInv (changeDirection d s) :=
  (h.congr (t := { s with clock.direction := d, clock.frac := 0, sequencer.stats.previous := none })
    rfl id id rfl rfl (fun n => by cases n <;> rfl) rfl).testActiveBuffer.leaveEnded

/-- A buffer in LOADING is armed (R105). -/
theorem armBuffer (h : BufferInv s) (hl : s.link.load = none) {n : BufferName}
    (hn : (s.sequencer.buffer n).state = .loading) : BufferInv (armBuffer n s) := by
  have hm := h.hasModel_of_buffer (n := n) (by rw [hn]; decide)
  refine h.of_model (armBuffer_link ..) (by simp) (by simpa using hm) ?_
  unfold Machine.armBuffer
  exact (h.buffers.arm hn hl (by simpa using hl) (fun m => by cases m <;> rfl) (by simp)).activate.testStarve

/-- The run enters RESTORING with nothing in flight (R73). -/
theorem beginRestore (h : BufferInv s) (hl : s.link.load = none) : BufferInv (beginRestore s) := by
  refine (bufferInv_iff _).2 ⟨h.frameInv.congr (beginRestore_link s) ?_, fun _ => ?_, .of_cleared (fun n => ?_) rfl ?_⟩
  · simp [Machine.beginRestore]
  · exact ⟨by simp [Machine.beginRestore, abandonJobs_eq], by simp [Machine.beginRestore, abandonJobs_eq], rfl, rfl, rfl,
      by simpa using hl⟩
  · cases n <;> rfl
  · simpa using hl

/-! ### CLEAR MODEL and the arbiter -/

/-- CLEAR MODEL leaves nothing in flight (R18, R143). -/
theorem clearModel (h : BufferInv s) (hl : s.link.load = none) : BufferInv (clearModel s) := by
  have hfree : (Machine.clearModel s).arbiter = .free := by rw [Evaluates.rest (clearModel_hands s)]; rfl
  have hseq : (Machine.clearModel s).sequencer = .cleared := by rw [Evaluates.rest (clearModel_hands s)]; rfl
  have hres : (Machine.clearModel s).resolver.queue = [] ∧ (Machine.clearModel s).resolver.current = none := by
    rw [Evaluates.rest (clearModel_hands s)]; exact ⟨rfl, rfl⟩
  have hlink := clearModel_link s
  refine (bufferInv_iff _).2 ⟨h.frameInv.congr hlink (by rw [hfree]; exact nofun), fun _ => ?_,
    .of_cleared (fun n => by rw [hseq]; cases n <;> rfl) (by rw [hseq]; rfl) (by rw [hlink]; exact hl)⟩
  exact ⟨hres.1, hres.2, by rw [hseq]; rfl, by rw [hseq]; rfl, by rw [hseq]; rfl, by rw [hlink]; exact hl⟩

theorem arbitrate (h : BufferInv s) : BufferInv (arbitrate s) := by
  have claims : BufferInv (refreshClaims s) := h.of_frame rfl id rfl rfl rfl
  have choose : ∀ {u : State}, BufferInv u → BufferInv { u with arbiter := u.arbiter.choose u.link.stream.isSome } :=
    fun {u} hu => by
      refine hu.of_frame rfl ?_ rfl rfl rfl
      obtain ⟨e, -⟩ | ⟨e, -⟩ | ⟨e, -⟩ | ⟨e, -⟩ := choose_cases u.link.stream.isSome u.arbiter <;> rw [e] <;> exact id
  unfold Machine.arbitrate
  dsimp only
  split
  · refine choose ?_
    split
    · rename_i hp
      obtain ⟨-, clear, -, -, -⟩ := claims.frameInv
      have cleared := claims.clearModel (claims.frameInv.of_taken (clear hp)).2.1
      unfold answerClear
      split
      · exact cleared.answer (by rw [Evaluates.rest (clearModel_hands _)]; rfl) _ _
      · exact cleared
    · exact claims
  · exact claims

theorem releaseGrant (h : BufferInv s) : BufferInv (releaseGrant s) := h.of_frame rfl id rfl rfl rfl

theorem endUnit (h : BufferInv s) : BufferInv (endUnit s) := h.releaseGrant.arbitrate

/-! ### Commands -/

/-- CLEAR MODEL is decided, in the frame that waits for it (R79). -/
theorem takeClear (h : BufferInv s) (ht : s.link.taken = some .clearModel) : BufferInv (takeClear s) := by
  obtain ⟨taken, -, load, late, wait⟩ := h.frameInv
  refine BufferInv.arbitrate ((bufferInv_iff _).2 ⟨⟨taken, fun _ => ht, load, late, wait⟩, fun hm => ?_, ?_⟩)
  · obtain ⟨queue, current, bufferA, bufferB, armOrder, hload⟩ := h.resting hm
    exact ⟨queue, current, bufferA, bufferB, armOrder, hload⟩
  · exact h.buffers.congr (fun _ => rfl) rfl fun _ => id

/-- A switch of a compiled model is changed, with its job. -/
theorem changeSwitch (h : BufferInv s) (hc : s.arbiter.clearPending = false) (hm : s.run.state.hasModel = true)
    (sw : Nat) (old new : SwitchRec) : BufferInv (changeSwitch sw old new s) := by
  unfold Machine.changeSwitch
  split
  · exact h.answer hc ..
  · exact (h.of_jobs (by simp) (by simp) (by simpa using hm) (by simp)).answer (by simpa using hc) ..

theorem grantDiscardBatch (h : BufferInv s) (hc : s.arbiter.clearPending = false) (hl : s.link.load = none)
    (letter : Byte) : BufferInv (grantDiscardBatch letter s) := by
  have discard : ∀ n, (s.sequencer.buffer n).state ≠ .empty →
      BufferInv (Machine.answer .ok [] (grantDiscardBatch.discard n s)) := fun n hn => by
    have hm := h.hasModel_of_buffer hn
    refine BufferInv.answer (h.of_model ?_ ?_ ?_ (h.buffers.discard n hl)) ?_ .. <;>
      simp [grantDiscardBatch.discard, hm, hc]
  unfold Machine.grantDiscardBatch
  repeat' split
  · exact h.answer hc ..
  · rename_i hs; exact discard _ (by rw [hs]; decide)
  · rename_i hs; exact discard _ (by rw [hs]; decide)
  all_goals exact h.answer hc ..

theorem directLoadBatch (h : BufferInv s) (hc : s.arbiter.clearPending = false) (letter tag : Byte) :
    BufferInv (directLoadBatch letter tag s) := by
  unfold Machine.directLoadBatch
  split
  · rename_i n d hst hn hd
    have accepted : s.run.state.hasModel = true ∧
        ((s.sequencer.buffer n).state = .empty ∨ (s.sequencer.buffer n).state = .loading) := by
      unfold loadStatus at hst
      rw [hn, hd] at hst
      cases hr : s.run.state <;> cases hb : (s.sequencer.buffer n).state <;> simp_all [RunState.hasModel]
    exact h.acceptLoad hc accepted.1 d accepted.2
  · exact h.refuseLoad hc _

theorem grantBuildEnd (h : BufferInv s) (hc : s.arbiter.clearPending = false) : BufferInv (grantBuildEnd s) := by
  unfold Machine.grantBuildEnd
  split
  · exact h.answer hc ..
  split
  · exact h.answer hc ..
  · rename_i hb _
    refine BufferInv.answer (h.congr ?_ ?_ (fun _ => ?_) ?_ ?_ (fun n => ?_) ?_) ?_ ..
    case refine_3 => rw [not_not.1 hb]; rfl
    all_goals simp [hc]

theorem grantSetPacing (h : BufferInv s) (hc : s.arbiter.clearPending = false) (rate : U16) (direction : Byte) :
    BufferInv (grantSetPacing rate direction s) := by
  have stored : BufferInv { s with clock.rate := clampRate rate.toNat } := h.of_frame rfl id rfl rfl rfl
  unfold Machine.grantSetPacing
  split
  · split
    · exact h.answer hc ..
    · dsimp only
      split
      · exact stored.answer hc ..
      · exact (stored.changeDirection _).answer (by simpa using hc) ..
  · exact h.answer hc ..

theorem grantSetEnd (h : BufferInv s) (hc : s.arbiter.clearPending = false) (endTime : U32) :
    BufferInv (grantSetEnd endTime s) := by
  have stored : BufferInv { s with clock.endTime := max endTime.toNat s.clock.time } := h.of_frame rfl id rfl rfl rfl
  unfold Machine.grantSetEnd grantSetEnd.leaveEndedForward
  split
  · dsimp only
    split
    · exact stored.leaveEnded.answer (by simpa using hc) ..
    · exact stored.answer hc ..
  · exact h.answer hc ..

/-- A streamed record is a reply of its own (R189). -/
theorem readRecord (h : BufferInv s) (ht : s.link.taken = none) (x : Stream) : BufferInv (readRecord x s) := by
  have hc := h.frameInv.clearPending_of_taken (by rw [ht]; exact nofun)
  obtain ⟨taken, clear, load, late, wait⟩ := h.frameInv
  unfold Machine.readRecord pushRecord
  dsimp only
  split
  · exact h.of_link rfl (.of_status rfl ht hc h.frameInv.lmode1_of_begun) (.inr rfl)
  · exact h.of_link rfl ⟨taken, clear, load, late, wait⟩ (.inr rfl)

theorem grantReadTable (h : BufferInv s) (hc : s.arbiter.clearPending = false) (table : Byte) (first : U16) :
    BufferInv (grantReadTable table first s) := by
  unfold Machine.grantReadTable
  split
  · split
    · exact h.answer hc ..
    · obtain ⟨-, -, load, late, wait⟩ := h.frameInv
      have claimed : BufferInv { s with arbiter.linkClaim := true } := h.of_frame rfl id rfl rfl rfl
      have taken : BufferInv { s with link.taken := none, arbiter.linkClaim := true } :=
        claimed.of_link rfl ⟨nofun, fun hp => absurd (hc.symm.trans hp) (by decide), load, late, wait⟩ (.inr rfl)
      exact taken.readRecord rfl _
  · exact h.answer hc ..

/-- A command in hand is carried out. -/
theorem carryOut (h : BufferInv s) {c : Command} (ht : s.link.taken = some c) : BufferInv (carryOut c s) := by
  obtain ⟨-, hl, -⟩ := h.frameInv.of_taken ht
  by_cases hclear : c = .clearModel
  · subst hclear
    exact h.takeClear ht
  have hc := h.frameInv.clearPending_of_taken (by rw [ht]; exact fun he => hclear (Option.some.inj he))
  cases c <;> simp only [Machine.carryOut]
  case clearModel => exact absurd rfl hclear
  case buildEnd => exact h.grantBuildEnd hc
  case setPolicy policy =>
    unfold grantSetPolicy
    dsimp only
    repeat' split
    case h_1.isFalse =>
      rename_i hr _ _ _ _
      have hm : s.run.state.hasModel = true := by cases hrun : s.run.state <;> simp_all [RunState.hasModel]
      exact (h.of_jobs (by simp) (by simp) (by simpa using hm) (by simp)).answer (by simpa using hc) ..
    all_goals exact h.answer hc ..
  case overrideSwitch sw action =>
    unfold grantOverrideSwitch
    split
    · exact h.answer hc ..
    · rename_i hm
      repeat' split
      case h_1 => exact h.changeSwitch hc (by simpa using hm) ..
      all_goals exact h.answer hc ..
  case retireSwitch sw =>
    unfold grantRetireSwitch
    split
    · exact h.answer hc ..
    · rename_i hm
      repeat' split
      case h_1.isFalse => exact h.changeSwitch hc (by simpa using hm) ..
      all_goals exact h.answer hc ..
  case setPacing rate direction => exact h.grantSetPacing hc ..
  case setEnd endTime => exact h.grantSetEnd hc endTime
  case armBatch letter =>
    unfold grantArmBatch
    dsimp only
    repeat' split
    · rename_i hn; exact (h.armBuffer hl hn.1).answer (by simpa using hc) ..
    all_goals exact h.answer hc ..
  case discardBatch letter => exact h.grantDiscardBatch hc hl letter
  case loadBatch letter tag => exact h.directLoadBatch hc letter tag
  case start =>
    unfold grantStart
    split
    · exact (h.enterMoving rfl).answer (by simpa using hc) ..
    · exact h.answer hc ..
  case pause =>
    unfold grantPause
    split
    · exact h.enterPaused.answer hc ..
    · exact h.enterPaused.answer hc ..
    all_goals exact h.answer hc ..
  case resume =>
    unfold grantResume
    split
    · exact h.resumeRun.answer (by simpa using hc) ..
    · exact h.resumeRun.answer (by simpa using hc) ..
    · exact h.answer hc ..
  case step =>
    unfold grantStep
    split
    · exact h.beginStep.answer (by simpa using hc) ..
    · exact h.beginStep.answer (by simpa using hc) ..
    · exact (h.of_frame (t := extendStep s) rfl id rfl rfl rfl).answer hc ..
    · exact h.answer hc ..
  case restore =>
    unfold grantRestore
    split
    · exact (h.beginRestore hl).answer (by simpa [Machine.beginRestore] using hc) ..
    · exact h.answer hc ..
  case readTable table first => exact h.grantReadTable hc ..
  all_goals
    simp only [grantDefineNode, grantDefineSwitch, grantLookupSwitch, grantLookupNode, grantLookupIsland, grantWalkSet,
      grantWalkMove, grantReadClock, grantSetMark, grantSetStepSpan, grantReadBatch, directReadStatus, grantSetWatch,
      grantClearWatch, rewriteWatch, grantReadWatch, directReadEvents, directSetEventEnables, directSetInterruptLine,
      directReadInterrupt, directSetCueLine, directClearLineFlags, directReadCueLine, directSetIndicator,
      directReadIndicator, grantRefreshIndicators, directReadLines, directSetCheckMode]
    repeat' split
  all_goals
    refine h.replied hc ?_ ?_ ?_ (.inr ?_) ?_ ?_ ?_ ?_ ?_ ?_ <;> simp

end BufferInv

end Sys2Proof.Machine
end

section
/-! The batch buffers, the arm order and the frame discipline (O59) (R44, R73, R98, R99, R103, R108, R143): the units of
the engines, the bytes of the link and the step. -/

namespace Sys2Proof.Machine

/-! ### A Sequencer grant -/

theorem setBuffer_setBuffer (n : BufferName) (a b : Buffer) (s : State) :
    setBuffer n b (setBuffer n a s) = setBuffer n b s := by cases n <;> rfl

theorem applyCue_buffers (s : State) (n : BufferName) :
    (applyCue s).sequencer.buffer n = s.sequencer.buffer n ∧
      (applyCue s).sequencer.armOrder = s.sequencer.armOrder := by
  unfold applyCue
  split <;> cases n <;> exact ⟨rfl, rfl⟩

/-- Applying an entry leaves the buffers and the arm order (R112 to R115). -/
theorem applyPlan_buffers (time : Nat) (p : EntryPlan) (s : State) (n : BufferName) :
    (applyPlan time p s).sequencer.buffer n = s.sequencer.buffer n ∧
      (applyPlan time p s).sequencer.armOrder = s.sequencer.armOrder := by
  cases p with
  | fault => exact ⟨rfl, rfl⟩
  | switch sw old new disc =>
    have h := commitSwitch_sequencer s sw old new time
    rw [applyPlan]
    dsimp only
    split
    · rw [h]; cases n <;> exact ⟨rfl, rfl⟩
    · rw [h]; exact ⟨rfl, rfl⟩
  | source node v => simp [applyPlan]
  | cue => exact applyCue_buffers s n

theorem applyPlan_hasModel (time : Nat) (p : EntryPlan) {s : State} (h : s.run.state.hasModel = true) :
    (applyPlan time p s).run.state.hasModel = true := by
  cases p with
  | fault => exact h
  | switch sw old new disc =>
    rw [applyPlan]
    dsimp only
    split <;> simpa using h
  | source node v => simpa [applyPlan] using h
  | cue =>
    rw [applyPlan, applyCue]
    split
    · rfl
    · rfl
    · exact h
    · exact h

/-- The ACTIVE buffer takes the next entry (R112). -/
theorem State.BuffersGood.advanceIndex {s : State} (h : s.BuffersGood) {n : BufferName}
    (ha : (s.sequencer.buffer n).state = .active)
    (hi : (s.sequencer.buffer n).index < (s.sequencer.buffer n).entries.length) : (advanceIndex n s).BuffersGood := by
  obtain ⟨len, -, -, -, -, -⟩ := h.good n
  exact h.rewrite rfl (by rw [ha]; decide) len hi

/-- An ACTIVE buffer whose last entry is taken is emptied, and another activates (R110). -/
theorem State.BuffersGood.endSpent {s : State} (h : s.BuffersGood) {n : BufferName}
    (ha : (s.sequencer.buffer n).state = .active) : (endSpent n s).BuffersGood := by
  obtain ⟨ho, hl⟩ := h.of_active ha
  unfold Machine.endSpent
  dsimp only
  split
  · rw [setBuffer_setBuffer]
    have emptied : (raise .batchDone (setBuffer n .cleared s)).BuffersGood :=
      (h.clear_buffer ho hl).congr (fun _ => rfl) rfl fun _ => id
    exact emptied.activate.testStarve
  · exact h

namespace BufferInv

variable {s t : State}

/-- The Sequencer serves the head entry (R112). -/
theorem serveEntry (h : BufferInv s) {n : BufferName} {e : BitVec 64} (hh : s.sequencer.head = some (n, e)) :
    BufferInv (serveEntry n e s) := by
  obtain ⟨ha, he⟩ := Sequencer.of_head hh
  have hi := (List.getElem?_eq_some_iff.1 he).1
  have hm := h.hasModel_of_buffer (n := n) (by rw [ha]; decide)
  -- the act of the entry has left the buffers alone
  have ended : ∀ u : State, u.link = s.link → (∀ m, u.sequencer.buffer m = s.sequencer.buffer m) →
      u.sequencer.armOrder = s.sequencer.armOrder → (Machine.endSpent n (Machine.advanceIndex n u)).BuffersGood :=
    fun u hl hb ho => by
      have good : u.BuffersGood := h.buffers.congr hb ho (by rw [hl]; exact fun _ => id)
      refine (good.advanceIndex (by rw [hb]; exact ha) (by rw [hb]; exact hi)).endSpent ?_
      rw [advanceIndex_buffer, hb]
      exact ha
  refine h.of_model (by simp) (by rw [serveEntry_clearPending]; exact id) ?_ ?_
  · unfold Machine.serveEntry
    dsimp only
    repeat' split
    · simpa using hm
    · exact hm
    · exact hm
    · rw [endSpent_run, handStats_run, advanceIndex_run]
      exact applyPlan_hasModel _ _ hm
  · unfold Machine.serveEntry
    dsimp only
    split
    · exact ended _ rfl (fun m => by cases m <;> rfl) rfl
    split
    · split <;> exact h.buffers.congr (fun _ => rfl) rfl fun _ => id
    · have handed : ∀ (before : Stats) (u : State), ∃ w,
          handStats before (Machine.advanceIndex n u) = Machine.advanceIndex n { u with watch := w } := fun before u => by
        obtain ⟨w, hw⟩ := handStats_eq before (Machine.advanceIndex n u)
        exact ⟨w, hw.trans (by cases n <;> rfl)⟩
      obtain ⟨w, hw⟩ := handed s.sequencer.stats (applyPlan (entryTime e) (planEntry s e)
        { s with sequencer.stats := s.sequencer.stats.afterEntry s.clock (entryTime e) })
      rw [hw]
      refine ended _ (applyPlan_link ..) (fun m => ?_) (applyPlan_buffers _ _ _ n).2
      exact (applyPlan_buffers _ _ _ m).1.trans (by cases m <;> rfl)

/-! ### The resolver, compile and restore -/

/-- A claim of the job in progress: neither the link nor the Sequencer nor the run is written (R46). -/
theorem of_claim (h : BufferInv s) {j : JobInProgress} (hj : s.resolver.current = some j) (hl : t.link = s.link)
    (ha : t.arbiter = s.arbiter) (hr : t.run = s.run) (hs : t.sequencer = s.sequencer) : BufferInv t :=
  h.of_jobs hl (by rw [ha]; exact id) (by rw [hr]; exact h.hasModel_of_job hj) hs

theorem compileEnd (h : BufferInv s) : BufferInv (compileEnd s) := by
  obtain ⟨a, w, rfl, -, e⟩ := compileEnd_eq s
  exact h.of_jobs (compileEnd_link s) (by rw [e]; exact id) (by rw [e]; rfl) (compileEnd_sequencer s)

/-- The first stage of restore finds nothing in flight, and leaves nothing (R138). -/
theorem restoreFirstStage (h : BufferInv s) (hr : s.run.state = .restoring) : BufferInv (restoreFirstStage s) := by
  have hl := (h.resting (by rw [hr]; rfl)).load
  have hseq : (Machine.restoreFirstStage s).sequencer = .cleared := by simp [Machine.restoreFirstStage]
  have hlink := restoreFirstStage_link s
  refine (bufferInv_iff _).2 ⟨h.frameInv.congr hlink (by rw [restoreFirstStage_arbiter]; exact id), fun _ => ?_,
    .of_cleared (fun n => by rw [hseq]; cases n <;> rfl) (by rw [hseq]; rfl) (by rw [hlink]; exact hl)⟩
  exact ⟨by simp [Machine.restoreFirstStage, abandonJobs_eq], by simp [Machine.restoreFirstStage], by rw [hseq]; rfl,
    by rw [hseq]; rfl, by rw [hseq]; rfl, by rw [hlink]; exact hl⟩

theorem restoreEnd (h : BufferInv s) : BufferInv (restoreEnd s) :=
  h.of_jobs (restoreEnd_link s) (by simp [Machine.restoreEnd, Machine.releaseGrant]) (by simp [Machine.restoreEnd, RunState.hasModel])
    (restoreEnd_sequencer s)

/-! ### The clock and the cue lines -/

theorem advanceTime (h : BufferInv s) : BufferInv (advanceTime s) := by
  have done : ∀ b, BufferInv (raise .stepDone { s with clock.time := b, clock.frac := 0 }) :=
    fun b => h.of_frame rfl id rfl rfl rfl
  have moved : ∀ T F, BufferInv { s with clock.time := T, clock.frac := F } := fun T F => h.of_frame rfl id rfl rfl rfl
  unfold Machine.advanceTime
  dsimp only
  split
  · exact h.congr rfl id (by simp [endRun, RunState.hasModel]) rfl rfl (fun _ => rfl) rfl
  split
  · split
    · unfold reachBoundary
      dsimp only
      split
      · exact h.of_frame rfl id rfl rfl rfl
      · exact (done _).enterPaused
    · exact moved ..
  · exact moved ..

theorem pacingTick (h : BufferInv s) : BufferInv (pacingTick s) := by
  unfold Machine.pacingTick testMark
  repeat' split
  · exact h.advanceTime.of_frame rfl id rfl rfl rfl
  · exact h.advanceTime
  · exact h

theorem takeFunction (h : BufferInv s) (f : CueFunction) : BufferInv (takeFunction f s) := by
  unfold Machine.takeFunction
  split
  · exact h.beginStep
  · exact h.beginStep
  · exact h.of_frame rfl id rfl rfl rfl
  · exact h.enterPaused
  · exact h.resumeRun
  · exact h

theorem sampleLine (h : BufferInv s) (levels : Byte) (n : Fin 8) : BufferInv (sampleLine levels s n) := by
  unfold Machine.sampleLine assertingEdge
  dsimp only
  split
  · refine BufferInv.arbitrate (BufferInv.takeFunction ?_ _)
    split <;> exact h.of_frame rfl id rfl rfl rfl
  · exact h.of_frame rfl id rfl rfl rfl

theorem sampleEvent (h : BufferInv s) (levels : Byte) (order : List (Fin 8)) :
    BufferInv (sampleEvent levels order s) := by
  unfold Machine.sampleEvent
  induction cueOrder order generalizing s with
  | nil => exact h
  | cons n l ih => exact ih (h.sampleLine levels n)

end BufferInv

end Sys2Proof.Machine
end

section
/-! The batch buffers, the arm order and the frame discipline (O59): the bytes of the link and the step. -/

namespace Sys2Proof.Machine

/-- A frame state in which the bytes of a command are gathered, and nothing is in hand (R177). -/
def FrameState.gathers (f : FrameState) : Prop := f = .command ∨ f = .arguments ∨ f = .check

/-- Writes of the link that leave what the frame has in hand. -/
theorem State.Bare.congr {s t : State} (h : s.Bare) (taken : t.link.taken = s.link.taken)
    (clear : t.arbiter.clearPending = s.arbiter.clearPending) (load : t.link.load = s.link.load)
    (late : t.link.late = s.link.late) (wait : t.link.waitBegun = s.link.waitBegun) : t.Bare :=
  ⟨taken.trans h.taken, clear.trans h.clear, load.trans h.load, late.trans h.late, wait.trans h.wait⟩

namespace BufferInv

variable {s t : State}

theorem bare (h : BufferInv s) (hf : s.link.frame.gathers) : s.Bare := by
  refine h.frameInv.bare ?_ ?_ ?_ <;> obtain hf | hf | hf := hf <;> rw [hf] <;> decide

/-- Writes of the link alone, where nothing is in hand. -/
theorem of_bare (h : BufferInv s) (e : t = { s with link := t.link }) (ht : t.Bare) : BufferInv t :=
  h.of_link e ht.frameInv (.inl ht.load)

/-! ### Grants of the link -/

theorem finishLinkGrant (h : BufferInv s) : BufferInv (finishLinkGrant s) := by
  unfold Machine.finishLinkGrant endLinkGrant
  split
  · split
    · rename_i c ht
      refine BufferInv.arbitrate ?_
      split
      · exact (h.carryOut ht).releaseGrant
      · exact h.carryOut ht
    · exact h
  · exact h

theorem readAwaited (h : BufferInv s) : BufferInv (readAwaited s) := by
  obtain e | ⟨x, -, -, ht, -, e⟩ := readAwaited_cases s <;> rw [e]
  · exact h
  · exact (h.readRecord ht x).endUnit

theorem finishLink (h : BufferInv s) : BufferInv (finishLink s) := h.finishLinkGrant.readAwaited

theorem beginWait (h : BufferInv s) : BufferInv (beginWait s) := by
  obtain ⟨e, hf, hm⟩ | ⟨e, -⟩ := beginWait_cases s <;> rw [e]
  · obtain ⟨taken, clear, load, late, -⟩ := h.frameInv
    exact h.of_link rfl ⟨taken, clear, load, late, fun _ => ⟨hm, .inl hf⟩⟩ (.inr rfl)
  · exact h

/-- The decision of a command: it is in hand while the frame waits for it (R177). -/
theorem decideCommand (h : BufferInv s) (hb : s.Bare) (c : Command) : BufferInv (decideCommand c s) := by
  have waits : BufferInv { s with link.frame := .waiting, link.taken := some c } :=
    h.of_link rfl ⟨fun _ => rfl, by simp [hb.clear], by simp [hb.load], by simp [hb.late], by simp [hb.wait]⟩ (.inr rfl)
  unfold Machine.decideCommand placeClaim
  dsimp only
  split
  · exact waits.carryOut rfl
  · exact (waits.carryOut rfl).beginWait
  · split
    · exact waits.answer hb.clear ..
    · have claimed : BufferInv { s with
          link.frame := .waiting, link.taken := some c, arbiter.linkClaim := true } := waits.of_frame rfl id rfl rfl rfl
      exact claimed.arbitrate.finishLinkGrant.beginWait

/-! ### The host's bytes -/

theorem testCheck (h : BufferInv s) (hb : s.Bare) (c : Command) (byte : Byte) : BufferInv (testCheck c byte s) := by
  have raised : BufferInv (raise .linkCheck s) := h.of_frame rfl id rfl rfl rfl
  unfold Machine.testCheck refuseCheck
  dsimp only
  repeat' split
  · exact h.decideCommand hb c
  · exact raised.refuseLoad hb.clear _
  · exact raised.answer hb.clear ..

theorem endArguments (h : BufferInv s) (hb : s.Bare) (c : Command) : BufferInv (endArguments c s) := by
  unfold Machine.endArguments
  split
  · exact h.of_bare rfl (hb.congr rfl rfl rfl rfl rfl)
  · exact h.decideCommand hb c

theorem commandByte (h : BufferInv s) (hf : s.link.frame.gathers) (code : Byte) : BufferInv (commandByte code s) := by
  have hb := h.bare hf
  have bare : (latchCode code s).Bare := ⟨hb.taken, hb.clear, hb.load, hb.late, rfl⟩
  have latched : BufferInv (latchCode code s) := h.of_bare rfl bare
  unfold Machine.commandByte
  dsimp only
  repeat' split
  · exact latched.answer hb.clear ..
  · exact latched.endArguments bare _
  · exact latched.of_bare rfl (bare.congr rfl rfl rfl rfl rfl)

theorem argumentByte (h : BufferInv s) (hf : s.link.frame.gathers) (byte : Byte) : BufferInv (argumentByte byte s) := by
  have bare : (latchArgument byte s).Bare := (h.bare hf).congr rfl rfl rfl rfl rfl
  have latched : BufferInv (latchArgument byte s) := h.of_bare rfl bare
  unfold Machine.argumentByte
  dsimp only
  split
  · exact latched.endArguments bare _
  · exact latched

theorem checkByte (h : BufferInv s) (hf : s.link.frame.gathers) (byte : Byte) : BufferInv (checkByte byte s) := by
  unfold Machine.checkByte
  split
  · exact h.testCheck (h.bare hf) _ byte
  · exact h

/-! ### The part's bytes -/

theorem endReply (h : BufferInv s) (hb : s.Bare) : BufferInv (endReply s) := by
  unfold Machine.endReply
  repeat' split
  all_goals exact h.of_bare rfl (hb.congr rfl rfl rfl rfl rfl)

/-- The items of a reading command are taken (R181). -/
theorem takeItems (h : BufferInv s) (hf : s.link.frame = .status) :
    BufferInv (takeItems s) ∧ (takeItems s).link.late = none ∧ (takeItems s).link.frame = .status := by
  cases hl : s.link.late with
  | none => rw [takeItems_none hl]; exact ⟨h, hl, hf⟩
  | some r =>
    have effect : BufferInv (r.effect s) ∧ (r.effect s).link.frame = .status := by
      cases r with
      | events =>
        have ⟨taken, clear, load, late, wait⟩ := h.frameInv
        have watched : BufferInv { s with watch.flags := 0 } := h.of_frame rfl id rfl rfl rfl
        exact ⟨watched.of_link rfl ⟨taken, clear, load, late, wait⟩ (.inr rfl), hf⟩
      | status => exact ⟨h, hf⟩
      | interrupt => exact ⟨h, hf⟩
      | lines => exact ⟨h, hf⟩
    obtain ⟨he, hef⟩ := effect
    obtain ⟨taken, clear, load, -, wait⟩ := he.frameInv
    rw [takeItems_some hl]
    exact ⟨he.of_link rfl ⟨taken, clear, load, nofun, wait⟩ (.inr rfl), rfl, hef⟩

/-- The status position has ended: a load takes its entries, and every other command has nothing left in hand. -/
theorem sendStatus (h : BufferInv s) (hf : s.link.frame = .status) : BufferInv (sendStatus s) := by
  obtain ⟨taken, late, frame⟩ := h.takeItems hf
  have htaken := taken.frameInv.taken_none (by rw [frame]; decide)
  have hclear := h.frameInv.clearPending_of_taken (by rw [h.frameInv.taken_none (by rw [hf]; decide)]; exact nofun)
  obtain ⟨u, hu, hcases⟩ := sendStatus_cases s
  have sent : BufferInv u := by
    rw [hu]
    exact taken.of_link rfl (.of_status frame htaken (by simpa using hclear) nofun) (.inr rfl)
  have bare : u.link.load = none → u.Bare := fun hl =>
    ⟨by rw [hu]; exact htaken, by simpa [hu] using hclear, hl, by rw [hu]; exact late, by rw [hu]⟩
  obtain ⟨hl, e⟩ | ⟨hl, -, e⟩ | ⟨hl, -, -, e⟩ | ⟨hl, -, -, e⟩ := hcases <;> rw [e]
  · refine sent.of_link rfl ⟨?_, ?_, fun _ => .inr rfl, ?_, ?_⟩ (.inr rfl) <;> simp [hu, htaken, hclear, late]
  · exact sent.of_bare rfl ((bare hl).congr rfl rfl rfl rfl rfl)
  · exact sent.endReply (bare hl)
  · exact sent.of_bare rfl ((bare hl).congr rfl rfl rfl rfl rfl)

theorem endStatus (h : BufferInv s) (hf : s.link.frame = .status) : BufferInv (endStatus s) := by
  unfold Machine.endStatus
  split
  · obtain ⟨taken, clear, load, late, -⟩ := h.frameInv
    exact h.of_link rfl ⟨taken, clear, load, late, nofun⟩ (.inr rfl)
  · exact h.sendStatus hf

theorem sendReply (h : BufferInv s) (hf : s.link.frame = .reply) : BufferInv (sendReply s) := by
  have hb : State.Bare { s with link.reply := s.link.reply.tail } :=
    (h.frameInv.bare (by rw [hf]; decide) (by rw [hf]; decide) (by rw [hf]; decide)).congr rfl rfl rfl rfl rfl
  have sent : BufferInv { s with link.reply := s.link.reply.tail } := h.of_bare rfl hb
  unfold Machine.sendReply
  dsimp only
  split
  · exact sent.endReply hb
  · exact sent

/-! ### The entries of a load -/

/-- A buffer that is being loaded keeps its place while its entries and its last load are written (R101, R103). -/
theorem of_loaded (h : BufferInv s) {n : BufferName} (hl : s.link.load = some n) {b : Buffer}
    (hs : b.state = (s.sequencer.buffer n).state) (hi : b.index = (s.sequencer.buffer n).index)
    (hlen : b.entries.length ≤ Config.bufferCapacity)
    (hle : (s.sequencer.buffer n).entries.length ≤ b.entries.length) : BufferInv (setBuffer n b s) := by
  obtain ⟨-, idx, -, -, -, load⟩ := h.buffers.good n
  have hm := h.hasModel_of_load (by rw [hl]; exact nofun)
  refine h.of_model (setBuffer_link ..) (by rw [setBuffer_arbiter]; exact id) (by simpa using hm) ?_
  exact h.buffers.rewrite hs (by rw [hs, load hl]; decide) hlen (by rw [hi]; exact idx.trans hle)

theorem setOutcome (h : BufferInv s) {n : BufferName} (hl : s.link.load = some n) (o : LoadOutcome) :
    BufferInv (setOutcome n o s) :=
  h.of_loaded hl rfl rfl (h.buffers.good n).1 le_rfl

theorem countEntry (h : BufferInv s) {n : BufferName} (hl : s.link.load = some n) (bytes : List Byte)
    (hlt : (s.sequencer.buffer n).entries.length < Config.bufferCapacity) : BufferInv (countEntry n bytes s) :=
  h.of_loaded hl rfl rfl (by simpa using hlt) (by simp)

/-- One byte of an entry (R101, R102, R188). -/
theorem gatherByte (h : BufferInv s) (byte : Byte) : BufferInv (gatherByte byte s) := by
  have written : ∀ g, BufferInv { s with link.gathered := g } := fun g => h.of_link rfl h.frameInv (.inr rfl)
  unfold Machine.gatherByte
  split
  · rename_i n hl
    split
    · exact h.setOutcome hl _
    · rename_i hlt
      repeat' split
      · exact written _
      · exact written _
      · exact (written []).countEntry hl _ (Nat.not_le.1 hlt)
      · exact (written []).countEntry hl _ (Nat.not_le.1 hlt)
      · unfold markCheck
        refine BufferInv.of_frame (s := markCheck n { s with link.gathered := [] }) ?_ rfl id rfl rfl rfl
        unfold markCheck
        repeat' split
        · exact written _
        · exact (written []).setOutcome hl _
        · exact written _
  · exact h

/-! ### Frames -/

/-- One byte position. -/
theorem hostByte (h : BufferInv s) (byte : Byte) : BufferInv (hostByte s byte) := by
  unfold Machine.hostByte
  split
  · exact h
  · rename_i hf; exact h.commandByte (.inl hf) byte
  · rename_i hf; exact h.argumentByte (.inr (.inl hf)) byte
  · rename_i hf; exact h.checkByte (.inr (.inr hf)) byte
  · exact h.beginWait
  · rename_i hf; exact (h.endStatus hf).readAwaited.beginWait
  · rename_i hf; exact (h.sendReply hf).readAwaited.beginWait
  · exact h.gatherByte byte
  · exact h
  · exact h

theorem hostBytes (h : BufferInv s) (bytes : List Byte) : BufferInv (hostBytes bytes s) := by
  unfold Machine.hostBytes
  induction bytes generalizing s with
  | nil => exact h
  | cons b l ih => exact ih (h.hostByte b)

theorem hostCommand (h : BufferInv s) (c : Command) (check : Option Byte) : BufferInv (hostCommand c check s) := by
  unfold Machine.hostCommand
  split
  · rename_i hf
    have hb := h.bare (.inl hf)
    have bare : State.Bare { s with
        link.code := some c.code, link.args := c.argBytes, link.xor := xorBytes c.argBytes, link.waitBegun := false,
        link.frameCheck := s.link.checkMode } := ⟨hb.taken, hb.clear, hb.load, hb.late, rfl⟩
    have latched := h.of_bare rfl bare
    dsimp only
    split
    · exact latched.testCheck bare ..
    · exact latched.of_bare rfl (bare.congr rfl rfl rfl rfl rfl)
    · exact (latched.decideCommand bare c).hostByte _
    · exact latched.decideCommand bare c
  · exact h.finishLink.hostBytes _

theorem selAssert (h : BufferInv s) : BufferInv (selAssert s) := by
  unfold Machine.selAssert
  split
  · rename_i hf
    exact h.of_bare rfl ((h.frameInv.bare (by rw [hf.1]; decide) (by rw [hf.1]; decide) (by rw [hf.1]; decide)).congr
      rfl rfl rfl rfl rfl)
  · exact h

/-- An entry only partly gathered is torn (R103). -/
theorem endLoad (h : BufferInv s) : BufferInv (endLoad s) := by
  unfold Machine.endLoad
  split
  · rename_i n hl
    split
    · exact h
    · exact (h.of_loaded (b := { s.sequencer.buffer n with
          lastLoad := (s.sequencer.buffer n).lastLoad.map fun l => { l with torn := true } })
        hl rfl rfl (h.buffers.good n).1 le_rfl).of_frame rfl id rfl rfl rfl
  · exact h

/-- SEL rises: nothing is left in hand (R183). -/
theorem endFrame (h : BufferInv s) : BufferInv (endFrame s) := by
  unfold Machine.endFrame
  split
  · obtain ⟨taken, clear, load, late, wait⟩ := h.frameInv
    exact h.of_link rfl ⟨taken, clear, load, late, wait⟩ (.inr rfl)
  · have ended : BufferInv (putBackCapture (Machine.endLoad s)) :=
      h.endLoad.of_frame (by simp) (by simp) (by simp) (by simp) (by simp)
    generalize putBackCapture (Machine.endLoad s) = u at ended ⊢
    have freed : BufferInv { u with
        arbiter.linkClaim := false, arbiter.clearPending := false,
        arbiter.grant := if u.arbiter.grant = .link then .none else u.arbiter.grant } :=
      ended.of_frame rfl nofun rfl rfl rfl
    exact BufferInv.arbitrate (freed.of_bare rfl ⟨rfl, rfl, rfl, rfl, rfl⟩)

/-! ### A step -/

theorem engineStep {work : State → Option State} {s t : State} (h : BufferInv s) (e : engineStep work s = .next t)
    (hw : ∀ u v, BufferInv u → work u = some v → BufferInv v) : BufferInv t := by
  unfold Machine.engineStep at e
  cases e
  cases hv : work (Machine.finishLinkGrant s) with
  | none => exact h.finishLinkGrant
  | some v => exact hw _ v h.finishLinkGrant hv

theorem compileWork {stage : CompileStage} {effect : State → State} (h : compileWork stage effect s = some t)
    (he : BufferInv (effect s)) : BufferInv t := by
  unfold Machine.compileWork at h
  split at h
  · cases h; exact he.arbitrate
  · cases h

theorem restoreWork {stage : RestoreStage} {effect : State → State} (h : restoreWork stage effect s = some t)
    (he : s.run.state = .restoring → BufferInv (effect s)) : BufferInv t := by
  unfold Machine.restoreWork at h
  split at h
  · rename_i hd
    cases h
    exact (he hd.2.1).arbitrate
  · cases h

theorem streamWork (hs : BufferInv s) (h : streamWork s = some t) : BufferInv t := by
  unfold Machine.streamWork at h
  split at h
  · rename_i x _ ht _
    cases h
    exact (hs.readRecord ht x).endUnit
  · cases h

theorem sequencerWork (hs : BufferInv s) (h : sequencerWork s = some t) : BufferInv t := by
  unfold Machine.sequencerWork at h
  split at h
  · obtain ⟨⟨n, e⟩, hh, rfl⟩ := Option.map_eq_some_iff.1 h
    exact (hs.serveEntry hh).endUnit
  · cases h

/-- A claim of the resolver leaves the link, the arbiter, the run and the Sequencer alone (R46). -/
theorem resolverWork {unit : JobInProgress → Option (State → State)} (hs : BufferInv s)
    (h : resolverWork unit s = some t)
    (hu : ∀ (j : JobInProgress) (effect : State → State), unit j = some effect →
      (effect s).link = s.link ∧ (effect s).arbiter = s.arbiter ∧ (effect s).run = s.run ∧
        (effect s).sequencer = s.sequencer) : BufferInv t := by
  unfold Machine.resolverWork at h
  split at h
  · obtain ⟨effect, he, rfl⟩ := Option.map_eq_some_iff.1 h
    obtain ⟨j, hj, hje⟩ := Option.bind_eq_some_iff.1 he
    obtain ⟨hl, ha, hr, hq⟩ := hu j effect hje
    exact (hs.of_claim hj hl ha hr hq).endUnit
  · cases h

/-- Every row keeps the invariant. -/
theorem exec (h : BufferInv s) {i : Instr} (e : exec i s = .next t) : BufferInv t := by
  cases i
  case hardwareReset lmode0 lmode1 lchk selLow =>
    cases e
    exact (bufferInv_iff _).2 ⟨State.Bare.frameInv ⟨rfl, rfl, rfl, rfl, rfl⟩, fun _ => ⟨rfl, rfl, rfl, rfl, rfl, rfl⟩,
      .of_cleared (fun n => by cases n <;> rfl) rfl rfl⟩
  case selAssert => cases e; exact h.selAssert
  case selRelease clocked => cases e; exact (h.finishLink.hostBytes clocked).endFrame
  case unknownCommand code => cases e; exact h.finishLink.hostByte code
  case batchEntry bytes =>
    cases e
    refine BufferInv.hostBytes ?_ bytes
    unfold readStatusFirst
    split
    · rename_i hf; exact h.finishLink.sendStatus hf
    · exact h.finishLink
  case compileIncidenceLists =>
    exact h.engineStep e fun u v hu hv => compileWork hv (hu.of_run rfl rfl rfl rfl rfl)
  case compileStartingValues =>
    exact h.engineStep e fun u v hu hv => compileWork hv (hu.of_run rfl rfl rfl rfl rfl)
  case compileEnd => exact h.engineStep e fun u v hu hv => compileWork hv hu.compileEnd
  case restoreFirstStage => exact h.engineStep e fun u v hu hv => restoreWork hv hu.restoreFirstStage
  case restoreSecondStage =>
    exact h.engineStep e fun u v hu hv => restoreWork hv fun _ => hu.of_run rfl rfl rfl rfl rfl
  case restoreEnd => exact h.engineStep e fun u v hu hv => restoreWork hv fun _ => hu.restoreEnd
  case readTableRecord => exact h.engineStep e fun u v hu hv => hu.streamWork hv
  case applyEntry => exact h.engineStep e fun u v hu hv => hu.sequencerWork hv
  case mergeGuard | mergeRelabel | splitGuard | splitVisit | splitRelabel | sourceJob =>
    refine h.engineStep e fun u v hu hv => hu.resolverWork hv fun j effect he => ?_
    split at he <;> cases he
    simp
  case pacingTick => cases e; exact h.pacingTick.arbitrate
  case sampleEvent levels order => cases e; exact (h.sampleEvent levels order).arbitrate
  case flashPhaseTurn => cases e; exact h.of_frame rfl id rfl rfl rfl
  all_goals cases e; exact h.hostCommand ..

end BufferInv

/-- Settles O59: each operation of the link, the engines and the clock keeps the frame discipline, the rest and the
buffers. -/
theorem stepsKeepTheBufferInvariant : Obligations.StepsKeepTheBufferInvariant := by
  intro s t h e
  unfold step at e
  split at e
  · cases e; exact h.finishLinkGrant
  · rename_i c rest _
    have front : BufferInv { s with pending := rest } := h.of_frame rfl id rfl rfl rfl
    exact front.exec e

end Sys2Proof.Machine
end

section
/-! PROOFS. The end of a job (R43, R48, R168) and the claims of the Island Resolver: a unit of work that serves the
job in progress has its effect, and the grant ends (R46). -/

namespace Sys2Proof.Machine

/-! ### The end of a job -/

/-- What the end of a job leaves before the queue is asked: the counts are handed, and a job that moved a node or
changed a state is reported (R43, R168). -/
def jobLeft (j : JobInProgress) (s : State) : State :=
  { (if j.touched then report (handCounts j.atTake s) else handCounts j.atTake s) with resolver.current := none }

theorem endJob_of_empty {s : State} (j : JobInProgress) (h : s.resolver.queue = []) :
    endJob j s = raise .settled (jobLeft j s) := by
  have hq : (jobLeft j s).resolver.queue = [] := by unfold jobLeft; split <;> simpa using h
  exact if_pos (by rw [List.isEmpty_iff]; exact hq)

theorem endJob_of_cons {s : State} (j : JobInProgress) {k : Job} {rest : List Job} (h : s.resolver.queue = k :: rest) :
    endJob j s = takeJob (jobLeft j s) := by
  have hq : (jobLeft j s).resolver.queue = k :: rest := by unfold jobLeft; split <;> simpa using h
  exact if_neg (by rw [List.isEmpty_iff]; exact fun he => nomatch hq.symm.trans he)

theorem takeJob_of_cons {s : State} {k : Job} {rest : List Job} (h : s.resolver.queue = k :: rest) :
    takeJob s = { s with resolver := { s.resolver with
        current := some (JobInProgress.begin k s.resolver.counts), queue := rest }, clock.backlog := false } := by
  unfold takeJob
  rw [h]

@[simp] theorem jobLeft_resolver (j : JobInProgress) (s : State) :
    (jobLeft j s).resolver = { s.resolver with current := none } := by
  unfold jobLeft; split <;> simp

@[simp] theorem jobLeft_clock (j : JobInProgress) (s : State) : (jobLeft j s).clock = s.clock := by
  unfold jobLeft; split <;> simp

/-- Counts that did not change hand nothing (R43, R145). -/
theorem handCounts_self (s : State) : handCounts s.resolver.counts s = s := by
  simp [handCounts, handIf]

theorem jobLeft_conditions {j : JobInProgress} {s : State} (h : j.atTake = s.resolver.counts) :
    (jobLeft j s).watch.conditions = s.watch.conditions := by
  unfold jobLeft
  rw [h, handCounts_self]
  split <;> rfl

theorem endJob_panel (j : JobInProgress) (s : State) : (endJob j s).panel = (jobLeft j s).panel := by
  cases h : s.resolver.queue with
  | nil => rw [endJob_of_empty j h, raise_panel]
  | cons k rest => rw [endJob_of_cons j h, takeJob_panel]

theorem endJob_conditions (j : JobInProgress) (s : State) :
    (endJob j s).watch.conditions = (jobLeft j s).watch.conditions := by
  cases h : s.resolver.queue with
  | nil => rw [endJob_of_empty j h, raise_conditions]
  | cons k rest => rw [endJob_of_cons j h, takeJob_watch]

theorem report_followed (s : State) (n : Fin 16) :
    ((report s).panel.indicators.get n).followed = s.store.followedOf (s.panel.indicators.get n).node := by
  rw [report, mapVector_get]

/-- Settles O42. -/
theorem jobsEnd : Obligations.JobsEnd := by
  intro j s
  refine ⟨endJob_store s j, endJob_counts j s, fun hq => ?_, fun k rest hq => ?_, fun ht => ?_, fun ht n => ?_,
    fun hc => ?_⟩
  · rw [endJob_of_empty j hq]
    exact ⟨by simp, by simpa using hq, raise_flag_same _ _, by simp⟩
  · rw [endJob_of_cons j hq, takeJob_of_cons (k := k) (rest := rest) (by simpa using hq)]
    simp
  · rw [endJob_panel, jobLeft, if_neg (by simp [ht])]
    exact handCounts_panel s _
  · rw [endJob_panel, jobLeft, if_pos ht]
    refine (report_followed _ n).trans ?_
    rw [handCounts_store, handCounts_panel]
  · rw [endJob_conditions, jobLeft_conditions hc]

/-! ### The claims of the resolver -/

/-- A claim of the resolver that serves the job in progress has its effect, and the grant ends (R46). -/
theorem engineStep_resolverWork {unit : JobInProgress → Option (State → State)} {effect : State → State}
    {j : JobInProgress} {s : State} (hg : s.arbiter.grant = .resolver) (hj : s.resolver.current = some j)
    (hu : unit j = some effect) (ha : (effect s).arbiter = s.arbiter) (hc : s.arbiter.clearPending = false) :
    ∃ a, engineStep (resolverWork unit) s = .next { effect s with arbiter := a } := by
  have hf : finishLinkGrant s = s := by rw [finishLinkGrant, if_neg (by rw [hg]; decide)]
  obtain ⟨a, he⟩ := endUnit_eq (s := effect s) (by rw [ha]; exact hc)
  refine ⟨a, ?_⟩
  rw [engineStep, hf, resolverWork, if_pos hg, hj, ← he, Option.bind_some, hu]
  rfl

end Sys2Proof.Machine
end

section
/-! PROOFS. One visit of a SPLIT search (R53): what it enters is the new far ends of the node's closed switches, in
their order, and it fails exactly when one of them is the other side's. -/

namespace Sys2Proof.Machine

/-! ### The far ends that a visit finds -/

theorem Store.closedEnds_cons_closed {st : Store} {sw : Nat} {x : SwitchRec} (hx : st.switch sw = some x)
    (hc : x.effective = .closed) (n : Nat) (rest : List Nat) :
    st.closedEnds n (sw :: rest) = x.farEnd n :: st.closedEnds n rest := by
  simp [Store.closedEnds, hx, hc]

theorem Store.closedEnds_cons_other {st : Store} {sw : Nat}
    (h : ∀ x, st.switch sw = some x → x.effective ≠ .closed) (n : Nat) (rest : List Nat) :
    st.closedEnds n (sw :: rest) = st.closedEnds n rest := by
  cases hx : st.switch sw with
  | none => simp [Store.closedEnds, hx]
  | some x => simp [Store.closedEnds, hx, h x hx]

theorem Store.newEnds_of_closedEnds {st : Store} {n : Nat} {sws rest : List Nat}
    (h : st.closedEnds n sws = st.closedEnds n rest) (seen : List Nat) : st.newEnds n sws seen = st.newEnds n rest seen := by
  rw [Store.newEnds, h, Store.newEnds]

theorem Store.newEnds_cons_seen {st : Store} {n m : Nat} {sws rest seen : List Nat}
    (h : st.closedEnds n sws = m :: st.closedEnds n rest) (hm : m ∈ seen) :
    st.newEnds n sws seen = st.newEnds n rest seen := by
  rw [Store.newEnds, h, List.filter_cons_of_neg (by simpa using hm), Store.newEnds]

theorem Store.newEnds_cons_new {st : Store} {n m : Nat} {sws rest seen : List Nat}
    (h : st.closedEnds n sws = m :: st.closedEnds n rest) (hm : m ∉ seen) :
    st.newEnds n sws seen = m :: st.newEnds n rest (seen ++ [m]) := by
  rw [Store.newEnds, h, List.filter_cons_of_pos (by simpa using hm), List.eraseDups_cons, Store.newEnds,
    List.filter_filter]
  congr 2
  refine List.filter_congr fun x _ => ?_
  by_cases hx : x = m <;> simp [hx]

theorem Store.mem_newEnds {st : Store} {n m : Nat} {sws seen : List Nat} :
    m ∈ st.newEnds n sws seen ↔ m ∉ seen ∧ m ∈ st.closedEnds n sws := by
  simp [Store.newEnds, List.mem_eraseDups, and_comm]

theorem Store.newEnds_nodup (st : Store) (n : Nat) (sws seen : List Nat) : (st.newEnds n sws seen).Nodup := by
  induction sws generalizing seen with
  | nil => exact List.nodup_nil
  | cons sw rest ih =>
    by_cases hc : ∃ x, st.switch sw = some x ∧ x.effective = .closed
    · obtain ⟨x, hx, hc⟩ := hc
      have hends := Store.closedEnds_cons_closed hx hc n rest
      by_cases hm : x.farEnd n ∈ seen
      · rw [Store.newEnds_cons_seen hends hm]
        exact ih seen
      · rw [Store.newEnds_cons_new hends hm]
        exact List.nodup_cons.2 ⟨fun h => (Store.mem_newEnds.1 h).1 (by simp), ih _⟩
    · rw [Store.newEnds_of_closedEnds (Store.closedEnds_cons_other (fun x hx h => hc ⟨x, hx, h⟩) n rest)]
      exact ih seen

/-! ### The visit -/

/-- A visit enters the new far ends of the closed switches, and fails where one of them is the other side's (R53). -/
theorem searchVisit_eq (st : Store) (other : List Nat) (n : Nat) (sws : List Nat) (d : Side) :
    searchVisit st other n sws d =
      if ∃ m ∈ st.closedEnds n sws, m ∈ other then none
      else some { queue := d.queue ++ st.newEnds n sws d.visited, visited := d.visited ++ st.newEnds n sws d.visited } := by
  induction sws generalizing d with
  | nil => simp [searchVisit, Store.newEnds, Store.closedEnds]
  | cons sw rest ih =>
    have skip : st.closedEnds n (sw :: rest) = st.closedEnds n rest →
        searchVisit st other n rest d =
          if ∃ m ∈ st.closedEnds n (sw :: rest), m ∈ other then none
          else some { queue := d.queue ++ st.newEnds n (sw :: rest) d.visited,
                      visited := d.visited ++ st.newEnds n (sw :: rest) d.visited } := fun he => by
      rw [he, Store.newEnds_of_closedEnds he]
      exact ih d
    rw [searchVisit]
    split
    case h_2 hx => exact skip (Store.closedEnds_cons_other (fun x h => by rw [hx] at h; cases h) n rest)
    case h_1 x hx =>
      split
      case isFalse hc =>
        exact skip (Store.closedEnds_cons_other (fun y h => by rw [hx] at h; cases h; exact hc) n rest)
      case isTrue hc =>
        have hends := Store.closedEnds_cons_closed hx hc n rest
        by_cases hother : x.farEnd n ∈ other
        · rw [if_pos hother, if_pos ⟨x.farEnd n, by simp [hends], hother⟩]
        · have hmeet : (∃ m ∈ st.closedEnds n (sw :: rest), m ∈ other) ↔ ∃ m ∈ st.closedEnds n rest, m ∈ other := by
            simp [hends, hother]
          simp only [if_neg hother, hmeet]
          by_cases hseen : x.farEnd n ∈ d.visited
          · rw [if_pos hseen, Store.newEnds_cons_seen hends hseen]
            exact ih d
          · rw [if_neg hseen, Store.newEnds_cons_new hends hseen, ih]
            simp

/-- Settles O46: what a visit enters is `Store.newEnds`, and it fails exactly at a far end of the other side. -/
theorem visitsFollowClosedSwitches : Obligations.VisitsFollowClosedSwitches := by
  intro st other n sws d
  rw [searchVisit_eq]
  constructor
  · have meets : (∃ k ∈ sws, ∃ r, st.switch k = some r ∧ r.effective = .closed ∧ r.farEnd n ∈ other) ↔
        ∃ m ∈ st.closedEnds n sws, m ∈ other := by
      constructor
      · rintro ⟨k, hk, r, hr, hc, ho⟩
        exact ⟨_, Store.mem_closedEnds.2 ⟨k, hk, r, hr, hc, rfl⟩, ho⟩
      · rintro ⟨m, hm, ho⟩
        obtain ⟨k, hk, r, hr, hc, rfl⟩ := Store.mem_closedEnds.1 hm
        exact ⟨k, hk, r, hr, hc, ho⟩
    rw [meets]
    split <;> simp_all
  · intro e he
    split at he
    case isTrue => cases he
    case isFalse =>
      cases he
      exact ⟨_, rfl, rfl, st.newEnds_nodup .., rfl, fun m => by rw [Store.mem_newEnds, Store.mem_closedEnds]⟩

end Sys2Proof.Machine
end

section
/-! PROOFS. The guard claim and the search claims of a SPLIT (R52 to R54). -/

namespace Sys2Proof.Machine

/-! ### A turn -/

theorem splitTurn_visited {j : JobInProgress} {s : State} {n : Nat} {queue : List Nat} {d : Side}
    (hq : (j.side j.turn).queue = n :: queue)
    (hv : searchVisit s.store (j.side j.turn.other).visited n (s.store.incidenceOf n)
      { j.side j.turn with queue := queue } = some d) :
    splitTurn j s = continueJob (startTurn j.turn.other (j.setSide j.turn d)) s := by
  rw [splitTurn, hq]
  simp only [hv]

theorem splitTurn_met {j : JobInProgress} {s : State} {n : Nat} {queue : List Nat}
    (hq : (j.side j.turn).queue = n :: queue)
    (hv : searchVisit s.store (j.side j.turn.other).visited n (s.store.incidenceOf n)
      { j.side j.turn with queue := queue } = none) :
    splitTurn j s = endJob j s := by
  rw [splitTurn, hq]
  simp only [hv]

theorem startTurn_eq {j : JobInProgress} (x : SideName) (h : j.stage = .search) :
    startTurn x j =
      if (j.side x).queue = [] then
        { j with stage := .relabel, turn := x, exhausted := some x, toRelabel := (j.side x).visited }
      else { j with turn := x } := by
  unfold startTurn
  simp only [List.isEmpty_iff, h]

/-! ### The guard -/

theorem splitGuard_ended {sw : Nat} {j : JobInProgress} {s : State} {r : SwitchRec} {ka kb : Nat}
    (hr : s.store.switch sw = some r) (he : s.store.endIslands r = some (ka, kb))
    (h : r.effective = .closed ∨ ka ≠ kb) : splitGuard sw j s = endJob j s := by
  rw [splitGuard, hr]
  by_cases hc : r.effective = .closed
  · simp only [if_pos hc]
  · simp only [if_neg hc, he, if_neg (h.resolve_left hc)]

/-- The job of a SPLIT as its search begins: each side has its end alone (R52). -/
def JobInProgress.searching (r : SwitchRec) (j : JobInProgress) : JobInProgress :=
  { j with
    stage := .search, turn := .a
    sideA := { queue := [r.endA], visited := [r.endA] }
    sideB := { queue := [r.endB], visited := [r.endB] } }

theorem splitGuard_begun {sw : Nat} {j : JobInProgress} {s : State} {r : SwitchRec} {k : Nat}
    (hr : s.store.switch sw = some r) (he : s.store.endIslands r = some (k, k)) (ho : r.effective = .opened) :
    splitGuard sw j s = splitTurn (j.searching r) s := by
  rw [splitGuard, hr]
  simp only [if_neg (show ¬ r.effective = .closed by rw [ho]; decide), he, if_true]
  rfl

/-! ### The claims -/

/-- A guard claim of a SPLIT takes the guard and ends the grant (R46, R52). -/
theorem exec_splitGuard {j : JobInProgress} {sw cause : Nat} {s : State} (hg : s.arbiter.grant = .resolver)
    (hj : s.resolver.current = some j) (hjob : j.job = .split sw cause) (hstage : j.stage = .guard)
    (hc : s.arbiter.clearPending = false) : ∃ a, exec .splitGuard s = .next { splitGuard sw j s with arbiter := a } :=
  engineStep_resolverWork hg hj (by rw [hjob, hstage]) (splitGuard_arbiter s sw j) hc

/-- A search claim of a SPLIT takes a turn and ends the grant (R46, R53). -/
theorem exec_splitVisit {j : JobInProgress} {sw cause : Nat} {s : State} (hg : s.arbiter.grant = .resolver)
    (hj : s.resolver.current = some j) (hjob : j.job = .split sw cause) (hstage : j.stage = .search)
    (hc : s.arbiter.clearPending = false) : ∃ a, exec .splitVisit s = .next { splitTurn j s with arbiter := a } :=
  engineStep_resolverWork hg hj (by rw [hjob, hstage]) (splitTurn_arbiter s j) hc

/-- Settles O45: each claim is the guard or one turn, and the grant ends. -/
theorem splitSearchesBothSides : Obligations.SplitSearchesBothSides := by
  refine ⟨fun j sw cause r ka kb s hg hj hjob hstage hc hr he => ?_,
    fun j sw cause n queue s hg hj hjob hstage hc hturn hq => ?_,
    fun j sw cause n queue s hg hj hjob hstage hc hturn hq => ?_⟩
  · obtain ⟨a, ha⟩ := exec_splitGuard hg hj hjob hstage hc
    refine ⟨_, ha, splitGuard_store s sw j, fun h => ?_, fun ho hk => ⟨j.searching r, rfl, fun d hv => ?_, fun hv => ?_⟩⟩
    · rw [splitGuard_ended hr he h]
    · subst hk
      rw [splitGuard_begun hr he ho, splitTurn_visited (j := j.searching r) rfl hv]
      rfl
    · subst hk
      rw [splitGuard_begun hr he ho, splitTurn_met (j := j.searching r) rfl hv]
  · obtain ⟨a, ha⟩ := exec_splitVisit hg hj hjob hstage hc
    have hside : (j.side j.turn).queue = n :: queue := by rw [hturn]; exact hq
    refine ⟨_, ha, splitTurn_store s j, fun d hv => ?_, fun hv => ?_⟩
    · rw [splitTurn_visited hside (d := d) (by rw [hturn]; exact hv), hturn,
        startTurn_eq (j := j.setSide .a d) _ hstage]
      rfl
    · rw [splitTurn_met hside (by rw [hturn]; exact hv)]
  · obtain ⟨a, ha⟩ := exec_splitVisit hg hj hjob hstage hc
    have hside : (j.side j.turn).queue = n :: queue := by rw [hturn]; exact hq
    refine ⟨_, ha, splitTurn_store s j, fun d hv => ?_, fun hv => ?_⟩
    · rw [splitTurn_visited hside (d := d) (by rw [hturn]; exact hv), hturn,
        startTurn_eq (j := j.setSide .b d) _ hstage]
      rfl
    · rw [splitTurn_met hside (by rw [hturn]; exact hv)]

end Sys2Proof.Machine
end

section
/-! PROOFS. What moving a node leaves of every node and of every island's record (R39 to R41, R50, R55), from the laws
of its steps. -/

namespace Sys2Proof.Machine

/-! ### Counts and states -/

theorem feedOf_eq (n : Nat) : feedOf n = if 1 ≤ n then .live else .dead := rfl

theorem countOf_isOnline (r : NodeRec) : countOf r.isOnline = if r.online = some true then 1 else 0 := by
  unfold countOf NodeRec.isOnline
  by_cases h : r.online = some true <;> simp [h]

theorem countOf_decide (p : Prop) [Decidable p] : countOf (decide p) = if p then 1 else 0 := by
  by_cases h : p <;> simp [countOf, h]

/-- Recomputing an island's state, as the count gives it: state-since is the cause time where it changed (R40). -/
theorem Island.refreshed_eq_of_count (cause : Nat) (b : Island) :
    b.refreshed cause =
      { b with feed := feedOf b.sourceCount, since := if feedOf b.sourceCount = b.feed then b.since else cause } := by
  unfold Island.refreshed
  split
  · rename_i h
    rw [if_pos h.symm, ← h]
  · rename_i h
    rw [if_neg fun e => h e.symm]

/-! ### Generations (R41) -/

theorem Store.unlinkMember_generation {st : Store} (h : st.canonical = true) (n j : Nat) :
    ((st.unlinkMember n).islandRec j).generation = (st.islandRec j).generation := by
  unfold Store.unlinkMember
  split
  · rename_i q _
    split
    · cases hp : q.prev <;> cases hx : q.next <;>
        rw [Store.modifyIsland_generation (by simp only; repeat' first | exact h | apply Store.modifyNode_canonical)] <;>
        rfl
    · rfl
  · rfl

theorem Store.retireIfEmpty_generation_other {st : Store} (h : st.canonical = true) {k j : Nat} (hj : j ≠ k) :
    ((st.retireIfEmpty k).islandRec j).generation = (st.islandRec j).generation := by
  unfold Store.retireIfEmpty
  repeat' split
  · rw [Store.retireIsland_islandRec h, if_neg hj]
  · rfl
  · rfl

theorem Store.retireIfEmpty_generation {st : Store} (h : st.canonical = true) {k : Nat} {b : Island}
    (hb : st.island k = some b) :
    ((st.retireIfEmpty k).islandRec k).generation =
      if b.memberCount = 0 then (st.islandRec k).generation + 1 else (st.islandRec k).generation := by
  simp only [Store.retireIfEmpty, hb]
  split
  · rw [Store.retireIsland_islandRec h, if_pos rfl]
  · rfl

/-- A record of the island table is its island and its generation. -/
theorem Store.islandRec_ext {st u : Store} {k : Nat} (hi : u.island k = st.island k)
    (hg : (u.islandRec k).generation = (st.islandRec k).generation) : u.islandRec k = st.islandRec k := by
  unfold Store.island at hi
  cases hu : u.islandRec k
  cases hs : st.islandRec k
  simp_all

/-! ### The move -/

section Moved

variable {st : Store} {n src dst : Nat} {r : NodeRec} {a b : Island}

theorem Store.moveNode_eq (hn : st.node n = some r) (hr : r.island = some src) (hb : st.island dst = some b)
    (cause : Nat) :
    st.moveNode n dst cause =
      (((((st.unlinkMember n).appendMember dst n).refreshFeed src cause).refreshFeed dst cause).retireIfEmpty src) := by
  simp [Store.moveNode, hn, hr, hb]

variable (hc : st.canonical = true) (hn : st.node n = some r) (hr : r.island = some src) (hd : src ≠ dst)
  (ha : st.island src = some a) (hb : st.island dst = some b) (cause : Nat)

include hn hr in
/-- The node that has left its island keeps what it is. -/
theorem Store.unlinkMember_self :
    (st.unlinkMember n).node n = some { r with island := none, prev := none, next := none } := by
  rw [Store.unlinkMember_node hn hr, hn]
  simp [NodeRec.afterUnlink]

include hc hn hr hd hb in
theorem Store.unlinkMember_dst : (st.unlinkMember n).island dst = some b := by
  rw [Store.unlinkMember_island hc hn hr, if_neg hd.symm, hb]

include hc hn hr hd hb in
/-- A move unlinks the node and appends it at the tail of the new island, and writes no other node (R39, R50). -/
theorem Store.moveNode_node (m : Nat) :
    (st.moveNode n dst cause).node m =
      (st.node m).map fun q => NodeRec.afterAppend dst n b m (NodeRec.afterUnlink n r m q) := by
  rw [Store.moveNode_eq hn hr hb, Store.retireIfEmpty_node, Store.refreshFeed_node, Store.refreshFeed_node,
    Store.appendMember_node (Store.unlinkMember_self hn hr) (Store.unlinkMember_dst hc hn hr hd hb),
    Store.unlinkMember_node hn hr, Option.map_map]
  rfl

include hc hn hr hd ha hb in
/-- Of the islands a move writes the old one, which may retire, and the new one (R40, R41, R50). -/
theorem Store.moveNode_island (k : Nat) :
    (st.moveNode n dst cause).island k =
      if k = src then
        some ((a.afterUnlink r).refreshed cause) |>.filter fun c => decide (c.memberCount ≠ 0)
      else if k = dst then some ((b.afterAppend n r).refreshed cause)
      else st.island k := by
  have h1 := Store.unlinkMember_canonical hc n
  have h2 := Store.appendMember_canonical h1 dst n
  have h3 := Store.refreshFeed_canonical h2 src cause
  have h4 := Store.refreshFeed_canonical h3 dst cause
  have happ : ∀ j, ((st.unlinkMember n).appendMember dst n).island j =
      if j = dst then some (b.afterAppend n r) else if j = src then some (a.afterUnlink r) else st.island j := fun j => by
    rw [Store.appendMember_island h1 (Store.unlinkMember_self hn hr) (Store.unlinkMember_dst hc hn hr hd hb),
      Store.unlinkMember_island hc hn hr, ha]
    rfl
  rw [Store.moveNode_eq hn hr hb, Store.retireIfEmpty_island h4]
  simp only [Store.refreshFeed_island h3, Store.refreshFeed_island h2, happ, if_neg hd, if_neg hd.symm, if_true]
  split
  · rfl
  · split <;> rfl

include hc hn hr hd ha hb in
/-- A move raises the generation of the old island alone, and only where it retires (R41). -/
theorem Store.moveNode_generation (k : Nat) :
    ((st.moveNode n dst cause).islandRec k).generation =
      if k = src ∧ a.memberCount - 1 = 0 then (st.islandRec k).generation + 1 else (st.islandRec k).generation := by
  have h1 := Store.unlinkMember_canonical hc n
  have h2 := Store.appendMember_canonical h1 dst n
  have h3 := Store.refreshFeed_canonical h2 src cause
  have h4 := Store.refreshFeed_canonical h3 dst cause
  have hgen : ∀ j, (((((st.unlinkMember n).appendMember dst n).refreshFeed src cause).refreshFeed dst cause).islandRec
      j).generation = (st.islandRec j).generation := fun j => by
    rw [Store.refreshFeed_generation h3, Store.refreshFeed_generation h2, Store.appendMember_generation h1,
      Store.unlinkMember_generation hc]
  have hsrc : ((((st.unlinkMember n).appendMember dst n).refreshFeed src cause).refreshFeed dst cause).island src =
      some ((a.afterUnlink r).refreshed cause) := by
    rw [Store.refreshFeed_island h3, if_neg hd, Store.refreshFeed_island h2, if_pos rfl,
      Store.appendMember_island_other h1 n hd, Store.unlinkMember_island hc hn hr, if_pos rfl, ha]
    rfl
  rw [Store.moveNode_eq hn hr hb]
  by_cases hk : k = src
  · subst hk
    rw [Store.retireIfEmpty_generation h4 hsrc, hgen, Island.refreshed_eq]
    simp [Island.afterUnlink]
  · rw [Store.retireIfEmpty_generation_other h4 hk, hgen, if_neg fun h => hk h.1]

include hc hn hr hd ha hb in
/-- Every record but the old island's and the new one's is as it was. -/
theorem Store.moveNode_islandRec_other {k : Nat} (hs : k ≠ src) (hk : k ≠ dst) :
    (st.moveNode n dst cause).islandRec k = st.islandRec k :=
  Store.islandRec_ext (by rw [Store.moveNode_island hc hn hr hd ha hb, if_neg hs, if_neg hk])
    (by rw [Store.moveNode_generation hc hn hr hd ha hb, if_neg fun h => hs h.1])

end Moved

/-- Settles O44: the clauses are read off the node, island and generation laws of a move. -/
theorem movedNodesKeepTheLists : Obligations.MovedNodesKeepTheLists := by
  intro st n src dst cause r a b source load hc hn hr hd ha hb hone htail hprev hnext hpn hsource hload
  have node := Store.moveNode_node hc hn hr hd hb cause
  have island := Store.moveNode_island hc hn hr hd ha hb cause
  have generation := Store.moveNode_generation hc hn hr hd ha hb cause
  have hs : countOf r.isOnline = source := (countOf_isOnline r).trans hsource.symm
  have hl : countOf (decide (r.kind = .load)) = load := (countOf_decide _).trans hload.symm
  refine ⟨?_, ?_, ?_, ?_, ?_, ?_, ?_, ?_, ?_, ?_, ?_⟩
  · rw [node, hn]
    simp [NodeRec.afterUnlink, NodeRec.afterAppend]
  · rintro feed rfl
    rw [island, if_neg hd.symm, if_pos rfl, Island.refreshed_eq_of_count, Island.afterAppend, hs, hl, feedOf_eq]
  · rw [generation, if_neg fun h => hd h.1.symm]
  · rintro feed hmore rfl
    have hleft : a.memberCount - 1 ≠ 0 := by omega
    constructor
    · rw [island, if_pos rfl, Island.refreshed_eq_of_count, Island.afterUnlink, hs, hl, feedOf_eq]
      rw [Option.filter_some_pos (by simpa using hleft)]
      cases r.prev <;> cases r.next <;> rfl
    · rw [generation, if_neg fun h => hleft h.2]
  · intro hlast
    constructor
    · rw [island, if_pos rfl, Island.refreshed_eq, Island.afterUnlink]
      simp [hlast]
    · rw [generation, if_pos ⟨rfl, by omega⟩]
  · exact fun k hk hk' => Store.moveNode_islandRec_other hc hn hr hd ha hb cause hk hk'
  · intro q hcount hq
    obtain ⟨hne, -, hp, hx⟩ := htail hcount
    rw [node, hq]
    simp [NodeRec.afterUnlink, NodeRec.afterAppend, hne, hp, hx, show b.memberCount ≠ 0 by omega]
  · intro p q hp hq
    have hpn' : p ≠ n := fun h => hprev (h ▸ hp)
    have hxp : r.next ≠ some p := fun hx => hpn p p hp hx rfl
    have hlast : ¬ (b.memberCount ≠ 0 ∧ p = b.last) := fun ⟨h0, h⟩ => (htail (by omega)).2.2.1 (h ▸ hp)
    rw [node, hq]
    simp [NodeRec.afterUnlink, NodeRec.afterAppend, hpn', hp, hxp, hlast]
  · intro x q hx hq
    have hxn : x ≠ n := fun h => hnext (h ▸ hx)
    have hpx : r.prev ≠ some x := fun hp => hpn x x hp hx rfl
    have hlast : ¬ (b.memberCount ≠ 0 ∧ x = b.last) := fun ⟨h0, h⟩ => (htail (by omega)).2.2.2 (h ▸ hx)
    rw [node, hq]
    simp [NodeRec.afterUnlink, NodeRec.afterAppend, hxn, hx, hpx, hlast]
  · intro m hm hlast hp hx
    have hlast' : ¬ (b.memberCount ≠ 0 ∧ m = b.last) := fun ⟨h0, h⟩ => hlast (by omega) h
    rw [node]
    simp [NodeRec.afterUnlink, NodeRec.afterAppend, hm, hp, hx, hlast']
  · exact Store.moveNode_switches st n dst cause

end Sys2Proof.Machine
end

section
/-! PROOFS. The RELABEL claims of a MERGE and of a SPLIT, the guard of a MERGE and the claim of a SOURCE job (R49 to
R51, R55, R57). -/

namespace Sys2Proof.Machine

/-- A move changes no node but in its place (R42). -/
theorem Store.SameNodes.move (st : Store) (n dst cause : Nat) : st.SameNodes (st.moveNode n dst cause) := by
  unfold Store.moveNode
  split
  · rename_i src b hs hb
    obtain ⟨q, hn, hq⟩ := Option.bind_eq_some_iff.1 hs
    exact ((Store.SameNodes.unlink hn hq).trans (.append _ dst n)).trans (.of_node fun m => by simp)
  · exact .of_node fun m => by simp

/-! ### MERGE -/

theorem exec_mergeGuard {j : JobInProgress} {sw cause : Nat} {s : State} (hg : s.arbiter.grant = .resolver)
    (hj : s.resolver.current = some j) (hjob : j.job = .merge sw cause) (hstage : j.stage = .guard)
    (hc : s.arbiter.clearPending = false) : ∃ a, exec .mergeGuard s = .next { mergeGuard sw j s with arbiter := a } :=
  engineStep_resolverWork hg hj (by rw [hjob, hstage]) (mergeGuard_arbiter s sw j) hc

theorem exec_mergeRelabel {j : JobInProgress} {sw cause : Nat} {s : State} (hg : s.arbiter.grant = .resolver)
    (hj : s.resolver.current = some j) (hjob : j.job = .merge sw cause) (hstage : j.stage = .relabel)
    (hc : s.arbiter.clearPending = false) :
    ∃ a, exec .mergeRelabel s = .next { mergeRelabel cause j s with arbiter := a } :=
  engineStep_resolverWork hg hj (by rw [hjob, hstage]) (mergeRelabel_arbiter s cause j) hc

theorem mergeGuard_ended {sw : Nat} {j : JobInProgress} {s : State} {r : SwitchRec} {ka kb : Nat}
    (hr : s.store.switch sw = some r) (he : s.store.endIslands r = some (ka, kb))
    (h : r.effective = .opened ∨ ka = kb) : mergeGuard sw j s = endJob j s := by
  rw [mergeGuard, hr]
  by_cases hc : r.effective = .opened
  · simp only [if_pos hc]
  · simp only [if_neg hc, he, if_pos (h.resolve_left hc)]

theorem mergeGuard_chosen {sw : Nat} {j : JobInProgress} {s : State} {r : SwitchRec} {ka kb : Nat} {ia ib : Island}
    (hr : s.store.switch sw = some r) (he : s.store.endIslands r = some (ka, kb)) (hc : r.effective = .closed)
    (hk : ka ≠ kb) (ha : s.store.island ka = some ia) (hb : s.store.island kb = some ib) :
    mergeGuard sw j s = continueJob { j with
      stage := .relabel
      survivor := some (chooseSurvivor ka kb ia ib).1
      absorbed := some (chooseSurvivor ka kb ia ib).2 } s := by
  rw [mergeGuard, hr]
  simp only [if_neg (show ¬ r.effective = .opened by rw [hc]; decide), he, if_neg hk, ha, hb]

/-- The larger island survives, the lower id of two equal ones (R49). -/
theorem chooseSurvivor_eq {ka kb k x : Nat} {ia ib : Island}
    (h : k = ka ∧ x = kb ∧ (ib.memberCount < ia.memberCount ∨ ia.memberCount = ib.memberCount ∧ ka < kb) ∨
      k = kb ∧ x = ka ∧ (ia.memberCount < ib.memberCount ∨ ia.memberCount = ib.memberCount ∧ kb < ka)) :
    chooseSurvivor ka kb ia ib = (k, x) := by
  unfold chooseSurvivor
  obtain ⟨rfl, rfl, h⟩ | ⟨rfl, rfl, h⟩ := h
  · exact if_pos h
  · exact if_neg (by omega)

/-- A RELABEL claim of a MERGE moves the first member; the absorbed island that retires ends the job (R50, R51). -/
theorem mergeRelabel_eq {cause k x : Nat} {j : JobInProgress} {s : State} {b : Island} (hk : j.survivor = some k)
    (hx : j.absorbed = some x) (hb : s.store.island x = some b) :
    mergeRelabel cause j s =
      if (s.store.moveNode b.first k cause).island x = none then
        endJob { j with touched := true } (commitStore (s.store.moveNode b.first k cause) s)
      else continueJob { j with touched := true } (commitStore (s.store.moveNode b.first k cause) s) := by
  simp only [mergeRelabel, hk, hx, hb, Option.isNone_iff_eq_none]
  rfl

/-- Settles O43: the guard chooses, and a RELABEL claim moves one member. -/
theorem mergeJobsRelabel : Obligations.MergeJobsRelabel := by
  refine ⟨fun j sw cause r ka kb ia ib s hg hj hjob hstage hc hr he ha hb => ?_,
    fun j sw cause k x b s hg hj hjob hstage hc hk hx hb => ?_⟩
  · obtain ⟨a, hexec⟩ := exec_mergeGuard hg hj hjob hstage hc
    refine ⟨_, hexec, fun h => ?_, fun k x hclosed hne h => ?_⟩
    · rw [mergeGuard_ended hr he h]
    · rw [mergeGuard_chosen hr he hclosed hne ha hb, chooseSurvivor_eq h]
      rfl
  · obtain ⟨a, hexec⟩ := exec_mergeRelabel hg hj hjob hstage hc
    have hstore : (mergeRelabel cause j s).store = s.store.moveNode b.first k cause := by
      rw [mergeRelabel_eq hk hx hb]
      split
      · exact endJob_store ..
      · rfl
    have hcounts : (mergeRelabel cause j s).resolver.counts = (mergeRelabel cause j s).store.tally := by
      rw [hstore, mergeRelabel_eq hk hx hb]
      split
      · rw [endJob_counts, commitStore_counts]
      · rfl
    refine ⟨_, hexec, hstore, hcounts, fun hkept => ?_, fun hgone => ?_, ?_, fun _ m => ?_⟩
    · rw [hstore] at hkept ⊢
      rw [mergeRelabel_eq hk hx hb, if_neg hkept]
      rfl
    · rw [hstore] at hgone
      rw [mergeRelabel_eq hk hx hb, if_pos hgone]
    · rw [hstore]
      exact Store.moveNode_switches ..
    · rw [hstore]
      exact Store.SameNodes.move s.store b.first k cause m

/-! ### SPLIT -/

/-- The lowest free id is found, where there is one (R41). -/
theorem Store.lowestFree_eq {st : Store} {k : Nat} (hk : k < Config.islandCapacity) (hfree : st.island k = none)
    (hlow : ∀ i, i < k → st.island i ≠ none) : st.lowestFree = some k := by
  have search : ∀ fuel id, id ≤ k → k < id + fuel → st.freeFrom fuel id = some k := by
    intro fuel
    induction fuel with
    | zero => intro id h1 h2; omega
    | succ fuel ih =>
      intro id h1 h2
      rw [Store.freeFrom]
      obtain rfl | hlt := h1.eq_or_lt
      · rw [hfree]
        rfl
      · rw [if_neg (by simpa using hlow id hlt)]
        exact ih (id + 1) hlt (by omega)
  exact search _ 0 (Nat.zero_le k) (by omega)

theorem exec_splitRelabel {j : JobInProgress} {sw cause : Nat} {s : State} (hg : s.arbiter.grant = .resolver)
    (hj : s.resolver.current = some j) (hjob : j.job = .split sw cause) (hstage : j.stage = .relabel)
    (hc : s.arbiter.clearPending = false) :
    ∃ a, exec .splitRelabel s = .next { splitRelabel cause j s with arbiter := a } :=
  engineStep_resolverWork hg hj (by rw [hjob, hstage]) (splitRelabel_arbiter s cause j) hc

/-- The store in which a RELABEL claim of a SPLIT moves its node: the first claim creates island `k` (R55). -/
def State.SplitsInto (s : State) (j : JobInProgress) (n cause k : Nat) (st : Store) : Prop :=
  j.newIsland = some k ∧ st = s.store ∨
  j.newIsland = none ∧ k < 4096 ∧ s.store.island k = none ∧ (∀ i, i < k → s.store.island i ≠ none) ∧
    st = s.store.createIsland k n cause

/-- A RELABEL claim of a SPLIT moves the next node; the last one ends the job (R55). -/
theorem splitRelabel_eq {cause n k : Nat} {rest : List Nat} {j : JobInProgress} {s : State} {st : Store}
    (hrest : j.toRelabel = n :: rest) (hst : s.SplitsInto j n cause k st) :
    splitRelabel cause j s =
      if rest = [] then
        endJob { j with toRelabel := rest, newIsland := some k, touched := true }
          (commitStore (st.moveNode n k cause) s)
      else
        continueJob { j with toRelabel := rest, newIsland := some k, touched := true }
          (commitStore (st.moveNode n k cause) s) := by
  obtain ⟨hnew, rfl⟩ | ⟨hnew, hk, hfree, hlow, rfl⟩ := hst
  · simp only [splitRelabel, hrest, hnew, List.isEmpty_iff]
  · simp only [splitRelabel, hrest, hnew, Store.lowestFree_eq hk hfree hlow, List.isEmpty_iff]

/-- The new island after its first node: the node's one island, with the cause time as state-since (R40, R55). -/
theorem Store.moveNode_created {st : Store} {n k src cause : Nat} {r : NodeRec} {a : Island} (hc : st.canonical = true)
    (hk : k < Config.islandCapacity) (hfree : st.island k = none) (hn : st.node n = some r)
    (hr : r.island = some src) (ha : st.island src = some a) :
    ((((st.createIsland k n cause).moveNode n k cause).islandRec k).generation = (st.islandRec k).generation) ∧
    ((st.createIsland k n cause).moveNode n k cause).island k = some
      { feed := if r.online = some true then .live else .dead, memberCount := 1,
        sourceCount := if r.online = some true then 1 else 0,
        loadCount := if r.kind = .load then 1 else 0, first := n, last := n, since := cause } := by
  have hd : src ≠ k := fun h => by rw [h, hfree] at ha; cases ha
  have hc' : (st.createIsland k n cause).canonical = true := Store.createIsland_canonical hc n cause hk
  have ha' : (st.createIsland k n cause).island src = some a := by
    rw [Store.createIsland_island hc, if_neg hd, ha]
  have hb := (Store.createIsland_island hc k n cause k).trans (if_pos rfl)
  constructor
  · rw [Store.moveNode_generation hc' hn hr hd ha' hb, if_neg fun h => hd h.1.symm, Store.createIsland_generation hc]
  · rw [Store.moveNode_island hc' hn hr hd ha' hb, if_neg hd.symm, if_pos rfl, Island.refreshed_eq_of_count,
      Island.afterAppend, countOf_isOnline, countOf_decide, feedOf_eq]
    by_cases h : r.online = some true <;> simp [h]

/-- Settles O47: a RELABEL claim moves one node, in the store where the first claim has created the island. -/
theorem splitRelabelMovesOneNode : Obligations.SplitRelabelMovesOneNode := by
  intro j sw cause n k rest st s hg hj hjob hstage hc hrest hst
  obtain ⟨a, hexec⟩ := exec_splitRelabel hg hj hjob hstage hc
  have heq := splitRelabel_eq hrest hst
  have hstore : (splitRelabel cause j s).store = st.moveNode n k cause := by
    rw [heq]
    split
    · exact endJob_store ..
    · rfl
  have hcounts : (splitRelabel cause j s).resolver.counts = (splitRelabel cause j s).store.tally := by
    rw [hstore, heq]
    split
    · rw [endJob_counts, commitStore_counts]
    · rfl
  have hsame : s.store.SameNodes st ∧ st.switches = s.store.switches := by
    obtain ⟨-, rfl⟩ | ⟨-, -, -, -, rfl⟩ := hst
    · exact ⟨fun _ => rfl, rfl⟩
    · exact ⟨.of_node fun _ => rfl, rfl⟩
  refine ⟨_, hexec, hstore, hcounts, fun hnew hinv => ?_, fun hne => ?_, fun he => ?_, ?_, fun _ m => ?_⟩
  · obtain ⟨hk, -⟩ | ⟨-, hk, hfree, -, rfl⟩ := hst
    · rw [hnew] at hk
      cases hk
    have hcan : s.store.canonical = true := hinv
    have hrec : ∀ i, i ≠ k → (s.store.createIsland k n cause).islandRec i = s.store.islandRec i := fun i hi =>
      Store.islandRec_ext (by rw [Store.createIsland_island hcan, if_neg hi]) (Store.createIsland_generation hcan ..)
    have hisland := (Store.createIsland_island hcan k n cause k).trans (if_pos rfl)
    refine ⟨by rw [hisland]; rfl, by rw [hisland]; rfl, by rw [hisland]; rfl, by rw [hisland]; rfl,
      Store.createIsland_generation hcan .., hrec, rfl, fun r src a hn hr ha _ _ _ => ?_⟩
    rw [hstore]
    exact Store.moveNode_created hcan hk hfree hn hr ha
  · rw [hstore, heq, if_neg hne]
    rfl
  · subst he
    rw [heq, if_pos rfl]
  · rw [hstore]
    exact (Store.moveNode_switches ..).trans hsame.2
  · rw [hstore]
    exact hsame.1.trans (.move st n k cause) m

/-! ### SOURCE -/

theorem Store.setOnline_island {st : Store} (h : st.canonical = true) (n k : Nat) (v : Bool) (cause i : Nat) :
    (st.setOnline n k v cause).island i =
      if i = k then (st.island k).map fun b => (b.withOnline v).refreshed cause else st.island i := by
  have h1 := Store.modifyNode_canonical h n fun r => { r with online := some v }
  rw [Store.setOnline_eq, Store.refreshFeed_island (Store.modifyIsland_canonical h1 _ _)]
  simp only [Store.modifyIsland_island h1, Store.modifyNode_island, if_true]
  split
  · rw [Option.map_map]
    rfl
  · rfl

theorem exec_sourceJob {j : JobInProgress} {n cause : Nat} {v : Bool} {s : State} (hg : s.arbiter.grant = .resolver)
    (hj : s.resolver.current = some j) (hjob : j.job = .source n v cause) (hstage : j.stage = .guard)
    (hc : s.arbiter.clearPending = false) :
    ∃ a, exec .sourceJob s = .next { sourceJob n v cause j s with arbiter := a } :=
  engineStep_resolverWork hg hj (by rw [hjob, hstage]) (sourceJob_arbiter s n v cause j) hc

/-- Settles O48: the law of `Store.setOnline` at the node, its island, and every other. -/
theorem sourceJobSetsOnline : Obligations.SourceJobSetsOnline := by
  intro j n cause k v r b s hg hj hjob hstage hc hinv hn hr hb
  have hcan : s.store.canonical = true := hinv
  obtain ⟨a, hexec⟩ := exec_sourceJob hg hj hjob hstage hc
  refine ⟨_, hexec, fun h => ?_, fun count feed hkind hv hcount hfeed => ?_⟩
  · have heq : sourceJob n v cause j s = endJob j s := by simp only [sourceJob, hn, if_pos h]
    rw [heq]
  · have hisland : (s.store.setOnline n k v cause).island k = some
        { b with sourceCount := count, feed := feed, since := if feed = b.feed then b.since else cause } := by
      rw [Store.setOnline_island hcan, if_pos rfl, hb, hfeed, hcount, Option.map_some, Island.refreshed_eq_of_count,
        Island.withOnline, feedOf_eq]
    have heq : sourceJob n v cause j s = endJob { j with touched := decide (feed ≠ b.feed) }
        (commitStore (s.store.setOnline n k v cause) s) := by
      have hgo : ¬ (r.kind ≠ .source ∨ r.online = some v) := by tauto
      simp only [sourceJob, hn, if_neg hgo, hr, hb, commitStore, hisland, Option.map_some, ne_eq, Option.some.injEq]
    have hstore : (sourceJob n v cause j s).store = s.store.setOnline n k v cause := by
      rw [heq, endJob_store]
      rfl
    have hnode := fun m => Store.setOnline_node s.store n k v cause m
    refine ⟨?_, ?_, fun m hm => ?_, fun i hi => ?_, ?_, ?_, ?_⟩
    · rw [hstore, hnode, hn]
      simp
    · rw [hstore, hisland]
    · rw [hstore, hnode]
      simp [hm]
    · rw [hstore, Store.setOnline_island hcan, if_neg hi]
    · rw [hstore, Store.setOnline_switches]
    · rw [hstore, heq, endJob_counts, commitStore_counts]
    · rw [heq]

end Sys2Proof.Machine
end

section
/-! PROOFS. The walk commands (R62 to R65): a walk command that its grant answers changes the cursor and the link
alone. -/

namespace Sys2Proof.Machine

/-- A command whose grant answers and writes the cursor alone, on a quiet part. -/
theorem exec_cursor {c : Command} {check : Option Byte} {s : State} {st : Status} {data : List Byte} {w : Cursor}
    (h : Taken c check s) (ha : accessOf c = .claim) (hq : Quiet s)
    (hu : carryOut c (s.inGrant c) = answer st data { s.inGrant c with resolver.cursor := w }) :
    exec (c.toInstr check) s = .next { s with link := s.link.replied c st data, resolver.cursor := w } := by
  rw [exec_toInstr, hostCommand_answered h ha hq hu rfl (by rw [State.inGrant, hq.1])]
  obtain ⟨hfree, -, hcur, -, hseq, -⟩ := hq
  rw [Arbiter.next_free (u := { s.inGrant c with resolver.cursor := w }) hcur hseq, ← hfree]
  rfl

theorem goodStride_iff (b : Byte) : goodStride b = true ↔ b = 1 ∨ b = 2 ∨ b = 4 ∨ b = 8 := by
  simp only [goodStride, Bool.or_eq_true, beq_iff_eq, or_assoc]

/-! ### WALK SET -/

section WalkSet

variable {island : U16} {generation stride : Byte} {s : State}

theorem grantWalkSet_good {b : Island} (hi : island.toNat < Config.islandCapacity) (hs : goodStride stride = true)
    (hb : s.store.island island.toNat = some b) (hg : (s.store.islandRec island.toNat).generation = generation) :
    grantWalkSet island generation stride s =
      answer .ok (walkReply b.first s) { s with
        resolver.cursor :=
          { island := island.toNat, generation := generation, current := some b.first, stride := stride.toNat,
            valid := true } } := by
  have good : s.store.goodHandle island.toNat generation = true := (goodHandle_iff ..).2 ⟨by rw [hb]; rfl, hg⟩
  rw [grantWalkSet, if_neg (Nat.not_le.2 hi), hs, good, hb]
  rfl

theorem grantWalkSet_stale (hi : island.toNat < Config.islandCapacity) (hs : goodStride stride = true)
    (hg : s.store.goodHandle island.toNat generation = false) :
    grantWalkSet island generation stride s =
      answer .stale (staleReply island.toNat s) { s with resolver.cursor.valid := false } := by
  rw [grantWalkSet, if_neg (Nat.not_le.2 hi), hs, hg]
  rfl

theorem grantWalkSet_range (h : Config.islandCapacity ≤ island.toNat ∨ goodStride stride = false) :
    grantWalkSet island generation stride s = answer .range [] s := by
  rw [grantWalkSet]
  by_cases hi : Config.islandCapacity ≤ island.toNat
  · rw [if_pos hi]
  · rw [if_neg hi, h.resolve_left hi]
    rfl

end WalkSet

/-! ### WALK MOVE -/

theorem State.cursorPlace_member {s : State} {b : Island} {n : Nat} {r : NodeRec}
    (hb : s.store.island s.resolver.cursor.island = some b)
    (hg : (s.store.islandRec s.resolver.cursor.island).generation = s.resolver.cursor.generation)
    (hc : s.resolver.cursor.current = some n) (hn : s.store.node n = some r)
    (hr : r.island = some s.resolver.cursor.island) : s.cursorPlace = some (b, n) := by
  have good : s.store.goodHandle s.resolver.cursor.island s.resolver.cursor.generation = true :=
    (goodHandle_iff ..).2 ⟨by rw [hb]; rfl, hg⟩
  simp [State.cursorPlace, good, hc, hn, hr, hb]

theorem State.cursorPlace_none {s : State}
    (h : s.store.island s.resolver.cursor.island = none ∨
      (s.store.islandRec s.resolver.cursor.island).generation ≠ s.resolver.cursor.generation ∨
      (s.resolver.cursor.current.bind fun n => (s.store.node n).bind (·.island)) ≠ some s.resolver.cursor.island) :
    s.cursorPlace = none := by
  unfold State.cursorPlace
  dsimp only
  split
  case isFalse => rfl
  case isTrue hgood =>
    obtain ⟨hsome, hgen⟩ := (goodHandle_iff ..).1 hgood
    have away : (s.resolver.cursor.current.bind fun n => (s.store.node n).bind (·.island)) ≠
        some s.resolver.cursor.island := by
      obtain h | h | h := h
      · rw [h] at hsome
        cases hsome
      · exact absurd hgen h
      · exact h
    cases hcur : s.resolver.cursor.current with
    | none => rfl
    | some n =>
      rw [hcur, Option.bind_some] at away
      rw [Option.bind_some]
      split
      · rename_i k hk
        rw [if_neg fun e => away (by rw [hk, e])]
      · rfl

section WalkMove

variable {move : Byte} {m : WalkMoveName} {s : State}

theorem grantWalkMove_member {b : Island} {n x : Nat} {status : Status} (hm : parseMove move = some m)
    (hv : s.resolver.cursor.valid = true) (hp : s.cursorPlace = some (b, n))
    (hw : s.store.walk b s.resolver.cursor.stride n m = (status, x)) :
    grantWalkMove move s = answer status (walkReply x s) { s with resolver.cursor.current := some x } := by
  simp only [grantWalkMove, hm, hv, hp, hw, Bool.not_true, Bool.false_eq_true, if_false]

theorem grantWalkMove_stale (hm : parseMove move = some m)
    (h : s.resolver.cursor.valid = false ∨ s.cursorPlace = none) :
    grantWalkMove move s = answer .stale [] { s with resolver.cursor.valid := false } := by
  cases hv : s.resolver.cursor.valid with
  | false =>
    simp only [grantWalkMove, hm, hv, Bool.not_false, if_true]
    rw [← hv]
  | true =>
    simp only [grantWalkMove, hm, hv, h.resolve_left (by rw [hv]; decide), Bool.not_true, Bool.false_eq_true,
      if_false]

theorem grantWalkMove_range (hm : parseMove move = none) : grantWalkMove move s = answer .range [] s := by
  simp only [grantWalkMove, hm]

theorem parseMove_isSome (move : Byte) : (parseMove move).isSome = true ↔ move.toNat < 4 := by
  unfold parseMove
  split <;> grind

/-- Where a move leads from the member `n`: the cases of R65. -/
theorem walk_eq {st : Store} {b : Island} {stride n x : Nat} {status : Status}
    (h : move = 0 ∧ status = .ok ∧ x = b.first ∨ move = 1 ∧ status = .ok ∧ x = b.last ∨
      move = 2 ∧ status = .ok ∧ st.forward stride n = some x ∨
      move = 2 ∧ status = .finish ∧ st.forward stride n = none ∧ x = b.last ∨
      move = 3 ∧ status = .ok ∧ st.backward stride n = some x ∨
      move = 3 ∧ status = .finish ∧ st.backward stride n = none ∧ x = b.first) :
    ∃ m, parseMove move = some m ∧ st.walk b stride n m = (status, x) := by
  obtain ⟨rfl, rfl, rfl⟩ | ⟨rfl, rfl, rfl⟩ | ⟨rfl, rfl, hx⟩ | ⟨rfl, rfl, hx, rfl⟩ | ⟨rfl, rfl, hx⟩ |
    ⟨rfl, rfl, hx, rfl⟩ := h
  · exact ⟨.first, rfl, rfl⟩
  · exact ⟨.last, rfl, rfl⟩
  · exact ⟨.next, rfl, by simp only [Store.walk, hx]⟩
  · exact ⟨.next, rfl, by simp only [Store.walk, hx]⟩
  · exact ⟨.prev, rfl, by simp only [Store.walk, hx]⟩
  · exact ⟨.prev, rfl, by simp only [Store.walk, hx]⟩

end WalkMove

/-- Settles O32: each grant answers and writes the cursor alone. -/
theorem walkCommandsMoveTheCursor : Obligations.WalkCommandsMoveTheCursor := by
  refine ⟨fun island generation stride check s ht hq => ⟨fun b hi hs hb hg => ?_, fun hi hs h => ?_, fun h => ?_⟩,
    fun move check s ht hq => ⟨fun b n r hv hb hg hc hn hr status x h => ?_, fun hm h => ?_, fun hm => ?_⟩⟩
  · exact exec_cursor ht rfl hq (grantWalkSet_good hi ((goodStride_iff _).2 hs) hb hg)
  · refine exec_cursor ht rfl hq (grantWalkSet_stale hi ((goodStride_iff _).2 hs) ?_)
    refine Bool.eq_false_iff.2 fun hgood => ?_
    obtain ⟨hsome, hgen⟩ := (goodHandle_iff ..).1 hgood
    obtain h | h := h
    · exact absurd (show (s.store.island island.toNat).isSome = true from hsome) (by rw [h]; decide)
    · exact h hgen
  · refine exec_read ht rfl hq (grantWalkSet_range (h.imp_right fun hs => ?_))
    exact Bool.eq_false_iff.2 (mt (goodStride_iff _).1 hs)
  · obtain ⟨m, hm, hw⟩ := walk_eq (st := s.store) h
    have place : (s.inGrant (.walkMove move)).cursorPlace = some (b, n) := State.cursorPlace_member hb hg hc hn hr
    exact exec_cursor ht rfl hq (grantWalkMove_member hm hv place hw)
  · obtain ⟨m, hm⟩ := Option.isSome_iff_exists.1 ((parseMove_isSome move).2 hm)
    exact exec_cursor ht rfl hq (grantWalkMove_stale hm (h.imp_right State.cursorPlace_none))
  · have hnone : parseMove move = none :=
      Option.not_isSome_iff_eq_none.1 (mt (parseMove_isSome move).1 (Nat.not_lt.2 hm))
    exact exec_read ht rfl hq (grantWalkMove_range hnone)

end Sys2Proof.Machine
end

section
/-! PROOFS. READ TABLE and the records of its stream (R66, R67, R75, R182, R189). -/

namespace Sys2Proof.Machine

/-- A record is read of the tables and of the settled flag alone (R192). -/
theorem tableRecord_congr {s u : State} (hs : u.store = s.store) (hr : u.settled = s.settled) (t : TableName) (i : Nat) :
    tableRecord t i u = tableRecord t i s := by
  cases t <;> simp only [tableRecord, nodeRecord, switchRecord, islandRecord, hs, hr]

/-- The record of a grant is a reply of its own: it is sent next where the frame waits for it, and behind the replies
before it otherwise; the index moves on (R66, R67, R189). -/
theorem readRecord_eq (x : Stream) (s : State) :
    readRecord x s =
      { s with
        link :=
          { s.link with
            stream := some { x with index := if x.index + 1 < tableSize x.table then x.index + 1 else 0 }
            frame := if s.link.frame = .waiting then .status else s.link.frame
            reply :=
              if s.link.frame = .waiting then replyBytes s.link.frameCheck .ok (tableRecord x.table x.index s)
              else s.link.reply
            ready :=
              if s.link.frame = .waiting then s.link.ready
              else s.link.ready ++ [replyBytes s.link.frameCheck .ok (tableRecord x.table x.index s)] } } := by
  unfold readRecord pushRecord
  by_cases h : s.link.frame = .waiting
  · simp only [h, if_true]
    rfl
  · simp only [h, if_false]
    rfl

/-- The grant of a record of a streaming frame (R67). -/
theorem streamWork_granted {x : Stream} {s : State} (hg : s.arbiter.grant = .link) (ht : s.link.taken = none)
    (hx : s.link.stream = some x) : streamWork s = some (endUnit (readRecord x s)) := by
  simp only [streamWork, hg, ht, hx]

theorem streamWork_waits {s : State} (hg : s.arbiter.grant ≠ .link) : streamWork s = none := by
  unfold streamWork
  split
  · exact absurd ‹s.arbiter.grant = .link› hg
  · rfl

/-- Reading a record and the end of its grant write the link and the arbiter alone. -/
theorem endUnit_readRecord (x : Stream) {s : State} (hc : s.arbiter.clearPending = false) :
    ∃ a, endUnit (readRecord x s) = { readRecord x s with arbiter := a } :=
  endUnit_eq (by rw [readRecord_eq]; exact hc)

theorem replyBytes_head (checked : Bool) (st : Status) (data : List Byte) :
    (replyBytes checked st data).head? = some st.code := by
  cases checked <;> rfl

/-! ### The positions between two records -/

/-- `s` with its frame waiting for the next record, the reply before it sent (R182). -/
def State.awaitsRecord (s : State) : State := { s with link := { s.link with frame := .waiting, reply := [] } }

@[simp] theorem State.awaitsRecord_frame (s : State) : s.awaitsRecord.link.frame = .waiting := rfl

theorem sendReply_waits {x : Stream} {last : Byte} {s : State} (hreply : s.link.reply = [last])
    (hready : s.link.ready = []) (hx : s.link.stream = some x) :
    sendReply s = s.awaitsRecord := by
  simp [State.awaitsRecord, sendReply, endReply, hreply, hready, hx]

theorem hostByte_reply {s : State} (hf : s.link.frame = .reply) (byte : Byte) :
    hostByte s byte = beginWait (readAwaited (sendReply s)) := by
  simp only [hostByte, hf]

/-- The next record is read before the position that follows the record before it (R75, R182). -/
theorem hostByte_reads {x : Stream} {last byte : Byte} {s : State} (hf : s.link.frame = .reply)
    (hreply : s.link.reply = [last]) (hready : s.link.ready = []) (hx : s.link.stream = some x)
    (hg : s.arbiter.grant = .link) (ht : s.link.taken = none) (hc : s.arbiter.clearPending = false) :
    ∃ a, hostByte s byte =
      { s with
        arbiter := a
        link :=
          { s.link with
            frame := .status
            reply := replyBytes s.link.frameCheck .ok (tableRecord x.table x.index s)
            stream := some { x with index := if x.index + 1 < tableSize x.table then x.index + 1 else 0 } } } := by
  obtain ⟨a, ha⟩ := endUnit_readRecord x (s := s.awaitsRecord) hc
  have hread : readAwaited s.awaitsRecord = { readRecord x s.awaitsRecord with arbiter := a } := by
    rw [readAwaited, if_pos s.awaitsRecord_frame, streamWork_granted (s := s.awaitsRecord) hg ht hx, Option.getD_some, ha]
  have hrecord : tableRecord x.table x.index s.awaitsRecord = tableRecord x.table x.index s := tableRecord_congr rfl rfl ..
  refine ⟨a, ?_⟩
  rw [hostByte_reply hf, sendReply_waits hreply hready hx, hread, readRecord_eq, hrecord]
  exact beginWait_of_ne nofun

/-- With its claim still waiting the frame has no record to send (R182). -/
theorem hostByte_waits {x : Stream} {last byte : Byte} {s : State} (hf : s.link.frame = .reply)
    (hreply : s.link.reply = [last]) (hready : s.link.ready = []) (hx : s.link.stream = some x)
    (hw : s.link.waitBegun = false) (hg : s.arbiter.grant ≠ .link) :
    hostByte s byte =
      { s with link := { s.link with frame := .waiting, reply := [], waitBegun := !s.link.lmode1 } } := by
  rw [hostByte_reply hf, sendReply_waits hreply hready hx, readAwaited, if_pos s.awaitsRecord_frame,
    streamWork_waits (s := s.awaitsRecord) hg,    Option.getD_none, beginWait]
  cases hl : s.link.lmode1
  · rw [if_pos ⟨rfl, hl⟩]
    rfl
  · have hsame : s.link.waitBegun = !true := hw
    rw [if_neg fun h => Bool.false_ne_true (h.2.symm.trans hl), ← hsame]
    rfl

/-- A record that is ready follows the reply before it at once (R189; log 9). -/
theorem hostByte_ready {next : List Byte} {rest : List (List Byte)} {last byte : Byte} {s : State}
    (hf : s.link.frame = .reply) (hreply : s.link.reply = [last]) (hready : s.link.ready = next :: rest) :
    hostByte s byte = { s with link := { s.link with frame := .status, reply := next, ready := rest } } := by
  have hsend : sendReply s = { s with link := { s.link with frame := .status, reply := next, ready := rest } } := by
    simp [sendReply, endReply, hreply, hready]
  rw [hostByte_reply hf, hsend, readAwaited, if_neg nofun]
  exact beginWait_of_ne nofun

/-! ### The grant of READ TABLE -/

theorem grantReadTable_good {table : Byte} {first : U16} {tn : TableName} {s : State} (ht : parseTable table = some tn)
    (hi : first.toNat < tableSize tn) :
    grantReadTable table first s =
      readRecord { table := tn, index := first.toNat } { s with link.taken := none, arbiter.linkClaim := true } := by
  simp only [grantReadTable, ht, if_neg (Nat.not_le.2 hi)]

theorem grantReadTable_range {table : Byte} {first : U16} {s : State}
    (h : parseTable table = none ∨ ∃ tn, parseTable table = some tn ∧ tableSize tn ≤ first.toNat) :
    grantReadTable table first s = answer .range [] s := by
  obtain h | ⟨tn, ht, hi⟩ := h
  · simp only [grantReadTable, h]
  · simp only [grantReadTable, ht, if_pos hi]

theorem endLinkGrant_of_link {s : State} (h : s.arbiter.grant = .link) : endLinkGrant s = releaseGrant s := if_pos h

/-- A streaming frame's claim on a free store, which no other claim waits for, is granted (R70). -/
theorem arbitrate_streaming {u : State} (ha : u.arbiter = { Arbiter.free with linkClaim := true })
    (hcur : u.resolver.current = none) (hseq : u.sequencerReady = false) (hx : u.link.stream.isSome = true) :
    arbitrate u = { u with arbiter := { Arbiter.free with grant := .link, linkClaim := true } } := by
  rw [arbitrate_none (by rw [ha]; rfl) (by rw [ha]; rfl)]
  simp [refreshClaims, ha, hcur, hseq, hx, Arbiter.free, Arbiter.choose, Arbiter.grantLink, Config.linkTurn]

/-- The state in which the grant of a READ TABLE reads its first record, the claim for the next one in place (R66; log
8). -/
def State.streams (table : Byte) (first : U16) (s : State) : State :=
  { s.inGrant (.readTable table first) with link.taken := none, arbiter.linkClaim := true }

/-- READ TABLE reads its first record in its grant, and its claim for the next one is granted (R66, R67, R70, R75). -/
theorem exec_readTable {table : Byte} {first : U16} {tn : TableName} {check : Option Byte} {s : State}
    (h : Taken (.readTable table first) check s) (hq : Quiet s) (ht : parseTable table = some tn)
    (hi : first.toNat < tableSize tn) :
    exec (.readTable table first check) s = .next
      { s with
        link :=
          { s.link.replied (.readTable table first) .ok (tableRecord tn first.toNat s) with
            stream := some { table := tn, index := if first.toNat + 1 < tableSize tn then first.toNat + 1 else 0 } }
        arbiter := { s.arbiter with grant := .link, linkClaim := true } } := by
  have hgrant : carryOut (.readTable table first) (s.inGrant (.readTable table first)) =
      readRecord { table := tn, index := first.toNat } (s.streams table first) := grantReadTable_good ht hi
  have hrecord : tableRecord tn first.toNat (s.streams table first) = tableRecord tn first.toNat s :=
    tableRecord_congr rfl rfl ..
  refine (exec_toInstr (.readTable table first) check s).trans (congrArg _ ?_)
  rw [hostCommand_claim h rfl hq, hgrant, endLinkGrant_of_link (by rw [readRecord_arbiter]; rfl), readRecord_eq]
  obtain ⟨hfree, -, hcur, -, hseq, -⟩ := hq
  rw [arbitrate_streaming, hrecord, ← hfree]
  · exact beginWait_of_ne nofun
  · simp [releaseGrant, State.streams, State.inGrant, hfree, Arbiter.free]
  · exact hcur
  · exact hseq
  · rfl

/-- Settles O33. -/
theorem tableStreamsSendRecords : Obligations.TableStreamsSendRecords := by
  refine ⟨fun table first check s ht hq => ⟨fun tn hn hi => exec_readTable ht hq hn hi, fun h =>
      exec_read ht rfl hq (grantReadTable_range h)⟩,
    fun x s hg ht hx hc => ?_,
    fun x last byte s hf hreply hready hx hw => ⟨fun hg ht hc => ?_, fun hg => ?_⟩,
    fun x next rest last byte s hf hreply hready _ => hostByte_ready hf hreply hready⟩
  · have hfinish : finishLinkGrant s = s := by simp only [finishLinkGrant, if_pos hg, ht]
    obtain ⟨a, ha⟩ := endUnit_readRecord x hc
    have hexec : exec .readTableRecord s = .next { readRecord x s with arbiter := a } := by
      show engineStep streamWork s = _
      rw [engineStep, hfinish, streamWork_granted hg ht hx, Option.getD_some, ha]
    exact ⟨_, hexec, by rw [readRecord_eq]⟩
  · obtain ⟨a, ha⟩ := hostByte_reads (byte := byte) hf hreply hready hx hg ht hc
    refine ⟨by rw [ha], ?_⟩
    rw [ha]
    simp [State.sdoByte, hw, replyBytes_head]
    rfl
  · rw [hostByte_waits hf hreply hready hx hw hg]
    exact ⟨rfl, rfl⟩

end Sys2Proof.Machine
end

section
/-! PROOFS. RESTORE: its hand-over and its three stages (R137 to R140). -/

namespace Sys2Proof.Machine

/-! ### The hand-over -/

/-- RESTORE takes the run to the first stage and the grant to the restore operation; what is in flight is abandoned and
no claim is left (R44, R58, R73, R137; log 16, 23). -/
theorem beginRestore_eq (s : State) :
    beginRestore s =
      { s with
        run := { state := .restoring, compileStage := none, restoreStage := some .first }
        clock.pausedState := false
        clock.boundary := none
        resolver := { s.resolver with queue := [], current := none }
        sequencer :=
          { bufferA := .cleared, bufferB := .cleared, armOrder := [], cueStop := false, stats := s.sequencer.stats }
        watch.flags := if s.settled then s.watch.flags else s.watch.flags ||| (1#19 <<< Event.settled.bit)
        panel := (followNone s).panel
        arbiter :=
          { s.arbiter with
            grant := .compileRestore, linkWait := 0, sequencerWait := 0, resolverClaim := false,
            sequencerClaim := false } } := by
  rw [beginRestore, abandonJobs_eq]
  cases s.settled <;> rfl

theorem grantRestore_ok {s : State} (h : s.run.state.hasModel = true) :
    grantRestore s = answer .ok [] (beginRestore s) := if_pos h

theorem grantRestore_protect {s : State} (h : s.run.state.hasModel = false) :
    grantRestore s = answer .protect [] s := if_neg (by rw [h]; decide)

@[simp] theorem beginRestore_arbiter (s : State) :
    (beginRestore s).arbiter =
      { s.arbiter with
        grant := .compileRestore, linkWait := 0, sequencerWait := 0, resolverClaim := false, sequencerClaim := false } := by
  rw [beginRestore_eq]

/-- The grant that has passed to restore does not end, and restore's claims stand as the hand-over left them (R73). -/
theorem arbitrate_beginRestore (s : State) :
    arbitrate (endLinkGrant (answer .ok [] (beginRestore s))) =
      { answer .ok [] (beginRestore s) with
        arbiter := { (beginRestore s).arbiter with linkWait := 0, sequencerWait := 0 } } := by
  have hg : (answer .ok [] (beginRestore s)).arbiter.grant = .compileRestore := by simp
  rw [endLinkGrant, if_neg (by rw [hg]; decide), arbitrate_busy _ (by rw [hg]; decide)]
  simp [refreshClaims]

/-- RESTORE on a quiet part (R73, R137). -/
theorem hostCommand_restore {check : Option Byte} {s : State} (h : Taken .restore check s) (hq : Quiet s)
    (hm : s.run.state.hasModel = true) :
    hostCommand .restore check s =
      { s with
        link := s.link.replied .restore .ok []
        run := { state := .restoring, compileStage := none, restoreStage := some .first }
        clock.pausedState := false
        clock.boundary := none
        sequencer :=
          { bufferA := .cleared, bufferB := .cleared, armOrder := [], cueStop := false, stats := s.sequencer.stats }
        arbiter.grant := .compileRestore
        panel := (followNone s).panel } := by
  rw [hostCommand_claim h rfl hq, carryOut, grantRestore_ok (s := s.inGrant .restore) hm, arbitrate_beginRestore,
    beginWait_of_ne (by simp [answer]), beginRestore_eq]
  obtain ⟨hfree, hqueue, hcur, -, -, -⟩ := hq
  have hsettled : (s.inGrant .restore).settled = true := by simp [State.settled, State.inGrant, hqueue, hcur]
  have hres : { s.resolver with queue := [], current := none } = s.resolver := by
    rw [← hqueue, ← hcur]
  have harb : ({ s.arbiter with
      grant := .compileRestore, linkWait := 0, sequencerWait := 0, resolverClaim := false,
      sequencerClaim := false } : Arbiter) = { s.arbiter with grant := .compileRestore } := by
    simp [hfree, Arbiter.free]
  rw [if_pos hsettled, ← harb]
  simp only [State.inGrant, answer, Link.waits, Link.replied, hres]
  rfl

/-! ### The stages -/

/-- While restore holds the store, a stage that is due is taken (R138 to R140). -/
theorem engineStep_restoreWork {stage : RestoreStage} {effect : State → State} {s : State}
    (hg : s.arbiter.grant = .compileRestore) (hr : s.run.state = .restoring)
    (hs : s.run.restoreStage = some stage) :
    engineStep (restoreWork stage effect) s = .next (arbitrate (effect s)) := by
  have hf : finishLinkGrant s = s := by rw [finishLinkGrant, if_neg (by rw [hg]; decide)]
  rw [engineStep, hf, restoreWork, if_pos ⟨hg, hr, hs⟩]
  rfl

/-- A stage that keeps the grant leaves arbitration only the claims to refresh. -/
theorem engineStep_restoreWork_held {stage : RestoreStage} {effect : State → State} {s : State}
    (hg : s.arbiter.grant = .compileRestore) (hr : s.run.state = .restoring)
    (hs : s.run.restoreStage = some stage) (ha : (effect s).arbiter = s.arbiter) :
    ∃ a, a.grant = .compileRestore ∧
      engineStep (restoreWork stage effect) s = .next { effect s with arbiter := a } := by
  have hgrant : (effect s).arbiter.grant = .compileRestore := by rw [ha]; exact hg
  refine ⟨(refreshClaims (effect s)).arbiter, hgrant, ?_⟩
  rw [engineStep_restoreWork hg hr hs, arbitrate_busy _ (by rw [hgrant]; decide)]
  rfl

/-! ### The first stage -/

/-- The part as the first stage sets it back, before the changed statistics are handed (R138). -/
def State.setBack (s : State) : State :=
  { s with
    resolver := { s.resolver with queue := [], current := none }
    sequencer := .cleared
    clock :=
      { s.clock with
        time := 0, frac := 0, boundary := none, starve := false, backlog := false,
        holdLine := s.panel.holdCondition, pausedState := false }
    watch :=
      { s.watch with
        conditions := mapVector Watch.rearmed s.watch.conditions
        flags := if s.settled then s.watch.flags else s.watch.flags ||| (1#19 <<< Event.settled.bit) } }

theorem restoreFirstStage_eq (s : State) :
    ∃ w, Hands (s.sequencer.stats.differ .zero) s.setBack { s.setBack with watch := w } ∧
      restoreFirstStage s = { s.setBack with watch := w, run.restoreStage := some .second } := by
  obtain ⟨w, hw⟩ := handStats_eq s.sequencer.stats s.setBack
  refine ⟨w, hw ▸ handStats_hands .., ?_⟩
  have hset : { rewindClock { abandonJobs s with sequencer := .cleared } with
      watch.conditions := mapVector Watch.rearmed
        (rewindClock { abandonJobs s with sequencer := .cleared }).watch.conditions } = s.setBack := by
    rw [abandonJobs_eq, State.setBack]
    cases s.settled <;> rfl
  have hstage : restoreFirstStage s =
      { handStats s.sequencer.stats s.setBack with run.restoreStage := some .second } := by
    rw [← hset]
    rfl
  rw [hstage, hw]

theorem exec_restoreFirstStage {s : State} (hg : s.arbiter.grant = .compileRestore) (hr : s.run.state = .restoring)
    (hs : s.run.restoreStage = some .first) :
    ∃ a, a.grant = .compileRestore ∧
      exec .restoreFirstStage s = .next { restoreFirstStage s with arbiter := a } :=
  engineStep_restoreWork_held hg hr hs (by
    obtain ⟨w, -, e⟩ := restoreFirstStage_eq s
    rw [e]
    rfl)

theorem setBack_flag (s : State) (e : Event) :
    s.setBack.flag e = (s.flag e || (!s.settled && decide (e = .settled))) := by
  have hflags : s.setBack.watch.flags = (if s.settled then s else raise .settled s).watch.flags := by
    cases h : s.settled <;> simp [State.setBack, h]
  rw [flag_congr (s := if s.settled then s else raise .settled s) hflags]
  cases s.settled <;> simp [raise_flag]

theorem watchEvent_ne_settled (n : Fin 4) : watchEvent n ≠ .settled := by
  revert n
  decide

theorem setBack_flag_watch (s : State) (n : Fin 4) : s.setBack.flag (watchEvent n) = s.flag (watchEvent n) := by
  rw [setBack_flag, decide_eq_false (watchEvent_ne_settled n), Bool.and_false, Bool.or_false]

/-- No condition stands TRIPPED after the first stage has rearmed them (R138 step 4). -/
theorem Watch.rearmed_state (w : Watch) : w.rearmed.state ≠ .tripped := by
  unfold Watch.rearmed
  split
  · exact nofun
  · assumption

/-- Of a condition that did not stand TRIPPED, an evaluation changes exactly the one that trips. -/
theorem Watch.handed_ne_iff {w : Watch} (h : w.state ≠ .tripped) (v now : Nat) :
    w.handed v now ≠ w ↔ (w.handed v now).state = .tripped := by
  obtain ⟨ha, -, e⟩ | ⟨-, e⟩ := w.handed_cases v now
  · rw [e]
    refine ⟨fun _ => rfl, fun _ he => ?_⟩
    have := congrArg Watch.state he
    exact h this.symm
  · rw [e]
    exact ⟨fun hne => absurd rfl hne, fun ht => absurd ht h⟩

theorem Stats.differ_zero (a : Stats) (q : Quantity) :
    a.differ .zero q = true ↔ q = .maxLag ∧ a.maxLag ≠ 0 ∨ q = .discrepancies ∧ a.discrepancies ≠ 0 := by
  cases q <;> simp only [Stats.differ, decide_eq_true_eq] <;> simp [Stats.zero]

/-- The conditions after the first stage, by the statistics that were not 0 (R138). -/
theorem setBack_condition {a : Stats} {s t : State} (h : Hands (a.differ .zero) s.setBack t) (n : Fin 4) :
    t.watch.conditions.get n =
      if (s.watch.conditions.get n).rearmed.quantity = .maxLag ∧ a.maxLag ≠ 0 ∨
          (s.watch.conditions.get n).rearmed.quantity = .discrepancies ∧ a.discrepancies ≠ 0 then
        (s.watch.conditions.get n).rearmed.handed 0 0
      else (s.watch.conditions.get n).rearmed := by
  have hget : s.setBack.watch.conditions.get n = (s.watch.conditions.get n).rearmed := mapVector_get ..
  rw [h.condition, hget]
  simp only [← Stats.differ_zero]
  split
  · rename_i hd
    have hzero : s.setBack.quantity (s.watch.conditions.get n).rearmed.quantity = 0 := by
      obtain ⟨hq, -⟩ | ⟨hq, -⟩ := (Stats.differ_zero ..).1 hd <;> rw [hq] <;> rfl
    rw [hzero]
    rfl
  · rfl

/-- A WATCH flag is raised in the first stage exactly when its condition ends TRIPPED (R147). -/
theorem setBack_watch_flag {a : Stats} {s t : State} (h : Hands (a.differ .zero) s.setBack t) (n : Fin 4) :
    t.flag (watchEvent n) =
      (s.flag (watchEvent n) || decide ((t.watch.conditions.get n).state = .tripped)) := by
  have hget : s.setBack.watch.conditions.get n = (s.watch.conditions.get n).rearmed := mapVector_get ..
  have hne := (s.watch.conditions.get n).rearmed_state
  rw [h.flag, setBack_flag_watch, hget, setBack_condition h]
  congr 1
  rw [decide_eq_decide]
  split
  · exact Watch.handed_ne_iff hne 0 0
  · exact ⟨fun h => absurd rfl h, fun h => absurd h hne⟩

/-! ### The second stage -/

theorem exec_restoreSecondStage {s : State} (hg : s.arbiter.grant = .compileRestore) (hr : s.run.state = .restoring)
    (hs : s.run.restoreStage = some .second) :
    ∃ a, a.grant = .compileRestore ∧
      exec .restoreSecondStage s = .next { restoreSecondStage s with arbiter := a } :=
  engineStep_restoreWork_held hg hr hs rfl

theorem restoreSecondStage_islandRec (s : State) (k : Nat) :
    (restoreSecondStage s).store.islandRec k = s.store.retireAll.islandRec k := rfl

theorem restoreSecondStage_node (s : State) (n : Nat) :
    (restoreSecondStage s).store.node n = (s.store.node n).map fun r => r.unlinked.started := by
  refine (Tab.get_mapRecords (fun _ r => r.unlinked.started) s.store.retireAll.nodes n).trans ?_
  rw [Store.retireAll_nodes]
  rfl

theorem restoreSecondStage_switch (s : State) (k : Nat) :
    (restoreSecondStage s).store.switch k = (s.store.switch k).map SwitchRec.restored := by
  refine (Tab.get_mapRecords (fun _ r => r.restored) s.store.retireAll.switches k).trans ?_
  rw [Store.retireAll_switches]
  rfl

/-- A switch as restore sets it: a retired one stays OPEN in effect (R139). -/
theorem SwitchRec.restored_eq (r : SwitchRec) :
    r.restored = { r with
      archived := r.initial.asPosition, held := r.initial, override := none,
      effective := if r.retired then .opened else r.initial,
      discrepancy := false, changeCount := 0, lastChange := none } := by
  cases h : r.retired <;> simp [SwitchRec.restored, SwitchRec.rederive, SwitchRec.started, definedSwitch,
    deriveEffective, h]

/-! ### The third stage -/

theorem watchEvent_ne_restoreDone (n : Fin 4) : watchEvent n ≠ .restoreDone := by
  revert n
  decide

/-- Every condition is evaluated once (R140). -/
theorem evaluateAll_evaluates (s : State) : Evaluates (fun _ => true) s (evaluateAll s) := by
  have fold : ∀ (l : List (Fin 4)) (s : State),
      Evaluates (fun n => decide (n ∈ l)) s (l.foldl (fun s n => evaluate n s) s) := by
    intro l
    induction l with
    | nil => exact fun s => (Evaluates.none s).congr fun n => by simp
    | cons a l ih =>
      exact fun s => ((evaluate_evaluates a s).trans (ih _)).congr fun n => by simp
  have all : ∀ n, n ∈ conditionOrder := by decide
  exact (fold conditionOrder s).congr fun n => by simp [all n]

/-- A quantity is read of the device counts and the statistics alone. -/
theorem State.quantity_congr {s t : State} (hc : t.resolver.counts = s.resolver.counts)
    (hs : t.sequencer.stats = s.sequencer.stats) (q : Quantity) : t.quantity q = s.quantity q := by
  cases q <;> simp [State.quantity, hc, hs]

/-- The tables are labelled and the counts set, every condition is evaluated, and the rest is written around the Watch
Unit (R140). -/
theorem restoreEnd_eq (s : State) :
    ∃ a w, a = commitStore (s.store.labelAll s.clock.time) s ∧ Evaluates (fun _ => true) a { a with watch := w } ∧
      restoreEnd s =
        releaseGrant (raise .restoreDone
          { report { a with watch := w } with run := { s.run with state := .ready, restoreStage := none } }) := by
  have h := Evaluates.trans (handCounts_hands s.resolver.counts (commitStore (s.store.labelAll s.clock.time) s))
    (evaluateAll_evaluates _)
  obtain ⟨w, hw⟩ : ∃ w, evaluateAll (handCounts s.resolver.counts (commitStore (s.store.labelAll s.clock.time) s)) =
      { commitStore (s.store.labelAll s.clock.time) s with watch := w } := ⟨_, h.rest⟩
  refine ⟨_, w, rfl, hw ▸ h.congr fun n => Bool.or_true _, ?_⟩
  rw [restoreEnd, hw]
  rfl

theorem exec_restoreEnd {s : State} (hg : s.arbiter.grant = .compileRestore) (hr : s.run.state = .restoring)
    (hs : s.run.restoreStage = some .labelling) (hc : s.arbiter.clearPending = false) :
    ∃ a, a.grant ≠ .compileRestore ∧ exec .restoreEnd s = .next { restoreEnd s with arbiter := a } := by
  obtain ⟨a, w, rfl, -, e⟩ := restoreEnd_eq s
  have hgrant : (restoreEnd s).arbiter.grant = .none := by rw [e]; rfl
  have hclear : (restoreEnd s).arbiter.clearPending = false := by rw [e]; exact hc
  refine ⟨_, arbitrate_grant_ne_compile hgrant hclear, ?_⟩
  rw [← arbitrate_eq _ hclear]
  exact engineStep_restoreWork hg hr hs

/-! ### The obligation -/

/-- A RESTORE whose grant is in progress is carried out on an empty queue (log 2, 3). -/
theorem step_restore {s : State} (hp : s.pending = []) (hg : s.arbiter.grant = .link)
    (ht : s.link.taken = some .restore) (hm : s.run.state.hasModel = true) :
    step s = .next
      { answer .ok [] (beginRestore s) with
        arbiter := { (beginRestore s).arbiter with linkWait := 0, sequencerWait := 0 } } := by
  rw [step, hp]
  simp only [finishLinkGrant, hg, ht, if_true]
  rw [← arbitrate_beginRestore, ← grantRestore_ok hm]
  rfl

/-- Settles O38: the hand-over, at the command and at its grant, and each stage as its function says. -/
theorem restoreRunsItsStages : Obligations.RestoreRunsItsStages := by
  refine ⟨fun check s h hq => ⟨fun hm => ?_, fun hb => ?_⟩, fun s hp hg ht hc hm => ?_,
    fun s hg hr hs => ?_, fun s hg hr hs hi => ?_, fun s hg hr hs hc => ?_⟩
  · refine ⟨_, (exec_toInstr .restore check s).trans (congrArg _ (hostCommand_restore h hq hm)), rfl,
      fun n => mapVector_get .., ?_⟩
    simp [State.settleActive, RunState.holdsStore]
  · exact exec_read h rfl hq (grantRestore_protect (s := s.inGrant .restore) (by
      rw [show (s.inGrant .restore).run.state = .build from hb]; rfl))
  · refine ⟨_, step_restore hp hg ht hm, ?_⟩
    rw [beginRestore_eq]
    exact ⟨rfl, rfl, rfl, rfl, fun n => mapVector_get .., rfl, rfl, rfl, rfl, rfl⟩
  · obtain ⟨a, ha, hexec⟩ := exec_restoreFirstStage hg hr hs
    obtain ⟨w, hw, e⟩ := restoreFirstStage_eq s
    rw [e] at hexec
    have other : ∀ e, (∀ n, e ≠ watchEvent n) → State.flag { s.setBack with watch := w } e = s.setBack.flag e := hw.other
    refine ⟨_, hexec, rfl, ha, fun hu => ?_, fun f hf => ?_, ?_, fun f hf hwf => ?_, ?_⟩
    · refine (other _ fun n => (watchEvent_ne_settled n).symm).trans ?_
      rw [setBack_flag, hu]
      simp
    · by_cases hwf : ∃ n, f = watchEvent n
      · obtain ⟨n, rfl⟩ := hwf
        refine (setBack_watch_flag hw n).trans ?_
        rw [hf, Bool.true_or]
      · refine (other f fun n h => hwf ⟨n, h⟩).trans ?_
        rw [setBack_flag, hf, Bool.true_or]
    · exact hw.settings
    · refine (other f hwf).trans ?_
      rw [setBack_flag, decide_eq_false hf, Bool.and_false, Bool.or_false]
    · rintro n - rfl
      exact ⟨setBack_condition hw n, setBack_watch_flag hw n⟩
  · obtain ⟨a, ha, hexec⟩ := exec_restoreSecondStage hg hr hs
    refine ⟨_, hexec, rfl, ha, fun k => Store.retireAll_island hi k, fun k => ?_, fun n => ?_, fun k => ?_⟩
    · refine (congrArg IslandRec.generation (Store.retireAll_islandRec hi k)).trans ?_
      split <;> rfl
    · exact restoreSecondStage_node s n
    · refine (restoreSecondStage_switch s k).trans ?_
      rw [funext SwitchRec.restored_eq]
  · obtain ⟨a, ha, hexec⟩ := exec_restoreEnd hg hr hs hc
    obtain ⟨b, w, rfl, hw, e⟩ := restoreEnd_eq s
    rw [e] at hexec
    refine ⟨_, hexec, rfl, raise_flag_same .., ha, ?_, fun f hf hwf => ?_, fun n => mapVector_get .., fun n => ⟨?_, ?_⟩⟩
    · exact (show SameSettings s.watch w from congrArg State.watch hw.rest).trans (raise_settings ..)
    · exact (raise_flag_other hf _).trans (hw.other f hwf)
    · refine (hw.condition n).trans ?_
      rw [if_pos rfl]
      exact congrArg (fun v => Watch.handed v _ _) (State.quantity_congr rfl rfl _)
    · exact (raise_flag_other (watchEvent_ne_restoreDone n) _).trans (hw.flag n)

end Sys2Proof.Machine
end

section
/-! PROOFS. A Sequencer grant that applies an entry: what the entry's act leaves, whichever it is, and the SOURCE and
CUE entries (R112 to R115, R120, R121). -/

namespace Sys2Proof.Machine

/-! ### Plans -/

/-- A node of the table has its id in range. -/
theorem Store.node_lt {st : Store} (h : st.canonical = true) {n : Nat} {r : NodeRec} (hr : st.node n = some r) :
    n < Config.nodeCapacity := by
  obtain ⟨-, -, -, hb, -, -⟩ := (Store.canonical_iff st).1 h
  exact hb _ (Tab.mem_of_get hr)

/-- The online value of a SOURCE entry's job: the entry's value forward, the opposite in reverse (R114). -/
def Direction.online (d : Direction) (v : Bool) : Bool :=
  match d with
  | .forward => v
  | .reverse => !v

theorem planEntry_source {s : State} {e : BitVec 64} {node : Nat} {v : Bool} {r : NodeRec}
    (hst : s.store.canonical = true) (he : readEntry e = .source node (some v)) (hr : s.store.node node = some r)
    (hk : r.kind = .source) : planEntry s e = .source node (s.clock.direction.online v) := by
  have hfault : ¬ (Config.nodeCapacity ≤ node ∨ r.kind ≠ .source) := by
    rintro (h | h)
    · exact absurd (Store.node_lt hst hr) (Nat.not_lt.2 h)
    · exact h hk
  rw [planEntry, he]
  simp only [planSource, hr, if_neg hfault]
  cases s.clock.direction <;> rfl

theorem planSwitch_ne_cue (s : State) (time sw : Nat) (f t : Option Position) : planSwitch s time sw f t ≠ .cue := by
  unfold planSwitch
  repeat' split
  all_goals exact nofun

theorem planSource_ne_cue (s : State) (node : Nat) (v : Option Bool) : planSource s node v ≠ .cue := by
  unfold planSource
  repeat' split
  all_goals exact nofun

/-- The plan of a CUE entry, and of no other, is the cue. -/
theorem planEntry_cue_iff (s : State) (e : BitVec 64) : planEntry s e = .cue ↔ readEntry e = .cue := by
  unfold planEntry
  cases readEntry e with
  | switch sw f t => exact ⟨fun h => (planSwitch_ne_cue _ _ _ _ _ h).elim, nofun⟩
  | source node v => exact ⟨fun h => (planSource_ne_cue _ _ _ h).elim, nofun⟩
  | cue => exact ⟨fun _ => rfl, fun _ => rfl⟩
  | bad => exact ⟨nofun, nofun⟩

/-! ### What the act of an entry leaves -/

/-- A job that is appended clears at most a BACKLOG hold of the clock (R117). -/
theorem appendJob_clock (j : Job) (s : State) : ∃ b, (appendJob j s).clock = { s.clock with backlog := b } := by
  unfold appendJob takeJob
  dsimp only
  repeat' split
  all_goals exact ⟨_, rfl⟩

theorem commitSwitch_clock (sw : Nat) (old new : SwitchRec) (cause : Nat) (s : State) :
    ∃ b, (commitSwitch sw old new cause s).clock = { s.clock with backlog := b } := by
  unfold commitSwitch
  dsimp only
  split
  · exact ⟨_, rfl⟩
  · exact appendJob_clock _ { s with store.switches := Tab.put s.store.switches sw new }

theorem applyCue_clock (s : State) :
    (applyCue s).clock.direction = s.clock.direction ∧ (applyCue s).clock.starve = s.clock.starve := by
  unfold applyCue
  split <;> exact ⟨rfl, rfl⟩

/-- Applying an entry moves neither the direction of play nor STARVE. -/
theorem applyPlan_clock (time : Nat) (p : EntryPlan) (s : State) :
    (applyPlan time p s).clock.direction = s.clock.direction ∧ (applyPlan time p s).clock.starve = s.clock.starve := by
  cases p with
  | fault => exact ⟨rfl, rfl⟩
  | switch sw old new disc =>
    obtain ⟨b, hb⟩ := commitSwitch_clock sw old new time s
    rw [applyPlan]
    dsimp only
    split <;> (rw [hb]; exact ⟨rfl, rfl⟩)
  | source node v =>
    obtain ⟨b, hb⟩ := appendJob_clock (.source node v time) s
    rw [applyPlan, hb]
    exact ⟨rfl, rfl⟩
  | cue => exact applyCue_clock s

/-- Of the flags a CUE entry raises CUE, and no other entry raises one (R115). -/
theorem applyPlan_flag (time : Nat) (p : EntryPlan) (s : State) (f : Event) :
    (applyPlan time p s).flag f = (s.flag f || decide (p = .cue ∧ f = .cue)) := by
  have stays : p ≠ .cue → (applyPlan time p s).watch = s.watch →
      (applyPlan time p s).flag f = (s.flag f || decide (p = .cue ∧ f = .cue)) := fun hp hw => by
    rw [decide_eq_false fun h => hp h.1, Bool.or_false]
    exact flag_congr (congrArg WatchUnit.flags hw) f
  cases p with
  | fault => exact stays nofun rfl
  | switch sw old new disc =>
    refine stays nofun ?_
    rw [applyPlan]
    dsimp only
    split <;> simp
  | source node v => exact stays nofun (appendJob_watch ..)
  | cue =>
    have cue : ∀ t : State, t.watch = s.watch → (raise .cue t).flag f = (s.flag f || decide (f = .cue)) := fun t ht => by
      rw [raise_flag, flag_congr (congrArg WatchUnit.flags ht)]
    rw [applyPlan, applyCue, decide_eq_decide.2 (show (EntryPlan.cue = .cue ∧ f = .cue) ↔ f = .cue from
      ⟨And.right, fun h => ⟨rfl, h⟩⟩)]
    split <;> exact cue _ rfl

/-- Only a CUE entry moves the run: from RUNNING or STEPPING to PAUSED (R115). -/
theorem applyPlan_state (time : Nat) (p : EntryPlan) (s : State) :
    (applyPlan time p s).run.state =
      if p = .cue ∧ (s.run.state = .running ∨ s.run.state = .stepping) then .paused else s.run.state := by
  cases p with
  | fault => rfl
  | switch sw old new disc =>
    rw [if_neg nofun, applyPlan]
    dsimp only
    split <;> simp
  | source node v => rw [if_neg nofun, applyPlan, appendJob_run]
  | cue =>
    rw [applyPlan, applyCue]
    cases h : s.run.state <;> simp [h]

/-- Of the statistics the act of an entry moves the discrepancies at most (R32). -/
theorem applyPlan_stats (time : Nat) (p : EntryPlan) (s : State) :
    (applyPlan time p s).sequencer.stats =
      { s.sequencer.stats with discrepancies := (applyPlan time p s).sequencer.stats.discrepancies } := by
  cases p with
  | fault => rfl
  | switch sw old new disc =>
    have h := commitSwitch_sequencer s sw old new time
    rw [applyPlan]
    dsimp only
    split <;> rw [h]
  | source node v => rw [applyPlan, appendJob_sequencer]
  | cue =>
    rw [applyPlan, applyCue]
    split <;> rfl

/-! ### The grant -/

/-- `s` when entry `e` of buffer `n` has been applied with its statistics and the index has moved on, before the
statistics are handed and the buffer ends (R112). -/
def State.applied (n : BufferName) (e : BitVec 64) (s : State) : State :=
  advanceIndex n (applyPlan (entryTime e) (planEntry s e)
    { s with sequencer.stats := s.sequencer.stats.afterEntry s.clock (entryTime e) })

/-- An entry that finds room is applied, what changed is handed, and the buffer ends with its last entry (R110, R112,
R122). -/
theorem serveEntry_served {n : BufferName} {e : BitVec 64} {s : State} (hf : planEntry s e ≠ .fault)
    (hr : (planEntry s e).needsRoom = true → s.hasRoom = true) :
    ∃ w P, Hands P (s.applied n e) { s.applied n e with watch := w } ∧
      serveEntry n e s = endSpent n { s.applied n e with watch := w } := by
  have room : ¬((planEntry s e).needsRoom && !s.hasRoom) = true := by
    intro h
    rw [Bool.and_eq_true, Bool.not_eq_true'] at h
    exact Bool.false_ne_true (h.2.symm.trans (hr h.1))
  obtain ⟨w, hw⟩ := handStats_eq s.sequencer.stats (s.applied n e)
  refine ⟨w, _, hw ▸ handStats_hands .., ?_⟩
  rw [← hw, serveEntry, if_neg hf, if_neg room]
  rfl

section Applied

variable (n : BufferName) (e : BitVec 64) (s : State)

theorem applied_buffer :
    (s.applied n e).sequencer.buffer n =
      { s.sequencer.buffer n with index := (s.sequencer.buffer n).index + 1 } := by
  rw [State.applied, advanceIndex_buffer, (applyPlan_buffers ..).1]
  cases n <;> rfl

theorem applied_other {m : BufferName} (h : m ≠ n) :
    (s.applied n e).sequencer.buffer m = s.sequencer.buffer m := by
  rw [State.applied, advanceIndex_other h, (applyPlan_buffers ..).1]
  cases m <;> rfl

theorem applied_armOrder : (s.applied n e).sequencer.armOrder = s.sequencer.armOrder := by
  rw [State.applied, advanceIndex, setBuffer_armOrder, (applyPlan_buffers _ _ _ n).2]

theorem applied_clock :
    (s.applied n e).clock.direction = s.clock.direction ∧ (s.applied n e).clock.starve = s.clock.starve := by
  rw [State.applied, advanceIndex_clock]
  exact applyPlan_clock ..

theorem applied_flag (f : Event) :
    (s.applied n e).flag f = (s.flag f || decide (planEntry s e = .cue ∧ f = .cue)) :=
  (flag_congr (congrArg WatchUnit.flags (advanceIndex_watch ..)) f).trans (applyPlan_flag ..)

theorem applied_state :
    (s.applied n e).run.state =
      if planEntry s e = .cue ∧ (s.run.state = .running ∨ s.run.state = .stepping) then .paused else s.run.state := by
  rw [State.applied, advanceIndex_run]
  exact applyPlan_state ..

theorem applied_stats :
    (s.applied n e).sequencer.stats =
      { s.sequencer.stats.afterEntry s.clock (entryTime e) with
        discrepancies := (s.applied n e).sequencer.stats.discrepancies } := by
  rw [State.applied, advanceIndex_stats]
  exact applyPlan_stats ..

end Applied

/-- The statistics after an applied entry, written out (R120, R121). -/
theorem Stats.afterEntry_eq (c : Clock) (t : Nat) (q : Stats) :
    q.afterEntry c t =
      { q with
        applied := if q.applied < 4294967295 then q.applied + 1 else q.applied
        maxLag := max q.maxLag (min (c.lag t) 65535)
        outOfOrder := if q.outOfOrderAt c.direction t && decide (q.outOfOrder < 65535) then q.outOfOrder + 1
          else q.outOfOrder
        previous := some t } := by
  have h := Stats.afterSwitch_eq c t False q
  simp only [Stats.afterSwitch, decide_false, Bool.false_eq_true, if_false, false_and] at h
  exact h

end Sys2Proof.Machine
end

section
/-! PROOFS. SOURCE and CUE entries, and the end of a buffer: BATCH_DONE, the next activation and STARVE (O51) (R108 to
R110, R114, R115, R118). -/

namespace Sys2Proof.Machine

/-! ### Activation (R108, R109) -/

theorem RunState.appliesEntries_iff (r : RunState) :
    r.appliesEntries = true ↔ r = .running ∨ r = .stepping ∨ r = .ended := by
  cases r <;> decide

theorem RunState.moves_iff (r : RunState) : r.moves = true ↔ r = .running ∨ r = .stepping := by
  cases r <;> decide

theorem BufferName.eq_or_eq {m n : BufferName} (h : m ≠ n) (k : BufferName) : k = n ∨ k = m := by
  cases m <;> cases n <;> cases k <;> simp_all

theorem activate_applies {s : State} (hr : s.run.state.appliesEntries = true)
    (ha : ∀ k, (s.sequencer.buffer k).state ≠ .active) : activate s = activateFrom s.sequencer.armOrder s := by
  have hnone : s.sequencer.anyBuffer .active = false := Bool.eq_false_iff.2 fun h => by
    obtain ⟨k, hk⟩ := (s.sequencer.anyBuffer_iff _).1 h
    exact ha k hk
  rw [activate, hr, hnone]
  rfl

theorem activate_still {s : State} (hr : s.run.state.appliesEntries = false) : activate s = s := by
  rw [activate, hr]
  rfl

/-- The one armed buffer, with the tag of the direction of play, activates at its first entry (R108). -/
theorem activateFrom_accepts {s : State} {m : BufferName} (h : (s.sequencer.buffer m).tag = some s.clock.direction) :
    activateFrom [m] s =
      setBuffer m { s.sequencer.buffer m with state := .active, index := 0 }
        { s with sequencer.armOrder := [] } := by
  rw [activateFrom]
  dsimp only
  rw [if_pos (by cases m <;> exact h)]
  cases m <;> rfl

/-- The one armed buffer, with another tag, is rejected (R109). -/
theorem activateFrom_rejects {s : State} {m : BufferName} (h : (s.sequencer.buffer m).tag ≠ some s.clock.direction) :
    activateFrom [m] s = rejectBuffer m { s with sequencer.armOrder := [] } := by
  rw [activateFrom]
  dsimp only
  rw [if_neg (by cases m <;> exact h), activateFrom]

theorem activateFrom_buffer {l : List BufferName} {n : BufferName} (h : n ∉ l) (s : State) :
    (activateFrom l s).sequencer.buffer n = s.sequencer.buffer n := by
  induction l generalizing s with
  | nil => rfl
  | cons m rest ih =>
    obtain ⟨hm, hrest⟩ := not_or.1 (mt List.mem_cons.2 h)
    have taken : ({ s with sequencer.armOrder := rest } : State).sequencer.buffer n = s.sequencer.buffer n := by
      cases n <;> rfl
    rw [activateFrom]
    dsimp only
    split
    · rw [setBuffer_other _ _ _ _ hm, taken]
    · refine (ih hrest _).trans ?_
      rw [rejectBuffer, raise_sequencer, setBuffer_other _ _ _ _ hm, taken]

theorem activate_buffer {s : State} {n : BufferName} (h : n ∉ s.sequencer.armOrder) :
    (activate s).sequencer.buffer n = s.sequencer.buffer n := by
  unfold activate
  split
  · exact activateFrom_buffer h s
  · rfl

/-- Activation raises BATCH_REJECTED at most (R109). -/
theorem activateFrom_flag {f : Event} (h : f ≠ .batchRejected) (l : List BufferName) (s : State) :
    (activateFrom l s).flag f = s.flag f := by
  induction l generalizing s with
  | nil => rfl
  | cons m rest ih =>
    rw [activateFrom]
    dsimp only
    split
    · exact flag_congr (congrArg WatchUnit.flags (setBuffer_watch ..)) f
    · refine (ih _).trans ((raise_flag_other h _).trans ?_)
      exact flag_congr (congrArg WatchUnit.flags (setBuffer_watch ..)) f

theorem activate_flag {f : Event} (h : f ≠ .batchRejected) (s : State) : (activate s).flag f = s.flag f := by
  unfold activate
  split
  · exact activateFrom_flag h _ s
  · rfl

/-! ### STARVE (R118) -/

theorem testStarve_starves {s : State} (hm : s.run.state.moves = true)
    (hb : ∀ k, (s.sequencer.buffer k).state ≠ .active ∧ (s.sequencer.buffer k).state ≠ .armed) :
    (testStarve s).clock.starve = true ∧ (testStarve s).flag .starved = (s.flag .starved || !s.clock.starve) := by
  have none : ∀ x, (∀ k, (s.sequencer.buffer k).state ≠ x) → s.sequencer.anyBuffer x = false := fun x hx =>
    Bool.eq_false_iff.2 fun h => by
      obtain ⟨k, hk⟩ := (s.sequencer.anyBuffer_iff _).1 h
      exact hx k hk
  rw [testStarve, hm, none _ fun k => (hb k).1, none _ fun k => (hb k).2]
  cases hs : s.clock.starve with
  | true => exact ⟨hs, (Bool.or_false _).symm⟩
  | false =>
    refine ⟨rfl, ?_⟩
    rw [Bool.not_false, Bool.or_true]
    exact raise_flag_same ..

theorem testStarve_still {s : State}
    (h : ¬(s.run.state.moves = true ∧
      ∀ k, (s.sequencer.buffer k).state ≠ .active ∧ (s.sequencer.buffer k).state ≠ .armed)) : testStarve s = s := by
  refine if_neg fun hc => h ?_
  simp only [Bool.and_eq_true, Bool.not_eq_true'] at hc
  obtain ⟨⟨⟨hm, ha⟩, hr⟩, -⟩ := hc
  exact ⟨hm, fun k => ⟨Sequencer.state_ne_of_anyBuffer ha k, Sequencer.state_ne_of_anyBuffer hr k⟩⟩

theorem testStarve_flag {f : Event} (h : f ≠ .starved) (s : State) : (testStarve s).flag f = s.flag f := by
  unfold testStarve
  split
  · exact raise_flag_other h _
  · rfl

/-! ### The end of a buffer (R110) -/

/-- `s` with the spent buffer `n` emptied and BATCH_DONE raised. -/
def State.spent (n : BufferName) (s : State) : State := raise .batchDone (setBuffer n .cleared s)

theorem endSpent_of_le {n : BufferName} {s : State}
    (h : (s.sequencer.buffer n).entries.length ≤ (s.sequencer.buffer n).index) :
    endSpent n s = testStarve (activate (s.spent n)) := by
  rw [endSpent, if_pos h, State.spent]
  dsimp only
  rw [setBuffer_setBuffer]

theorem spent_buffer (n : BufferName) (s : State) : (s.spent n).sequencer.buffer n = .cleared := by
  rw [State.spent, raise_sequencer, setBuffer_buffer]

theorem spent_other {m n : BufferName} (h : m ≠ n) (s : State) :
    (s.spent n).sequencer.buffer m = s.sequencer.buffer m := by
  rw [State.spent, raise_sequencer, setBuffer_other _ _ _ _ h]

@[simp] theorem spent_armOrder (n : BufferName) (s : State) :
    (s.spent n).sequencer.armOrder = s.sequencer.armOrder := by simp [State.spent]

@[simp] theorem spent_clock (n : BufferName) (s : State) : (s.spent n).clock = s.clock := by simp [State.spent]

@[simp] theorem spent_run (n : BufferName) (s : State) : (s.spent n).run = s.run := by simp [State.spent]

theorem spent_flag {f : Event} (h : f ≠ .batchDone) (n : BufferName) (s : State) : (s.spent n).flag f = s.flag f :=
  (raise_flag_other h _).trans (flag_congr (congrArg WatchUnit.flags (setBuffer_watch ..)) f)

section Ended

variable {n m : BufferName} {u : State} (hlast : (u.sequencer.buffer n).entries.length ≤ (u.sequencer.buffer n).index)
include hlast

theorem endSpent_sequencer : (endSpent n u).sequencer = (activate (u.spent n)).sequencer := by
  rw [endSpent_of_le hlast, testStarve_sequencer]

theorem endSpent_emptied (hn : n ∉ u.sequencer.armOrder) : (endSpent n u).sequencer.buffer n = .cleared := by
  rw [endSpent_sequencer hlast, activate_buffer (by simpa using hn), spent_buffer]

theorem endSpent_done : (endSpent n u).flag .batchDone = true := by
  rw [endSpent_of_le hlast, testStarve_flag (f := .batchDone) nofun, activate_flag (f := .batchDone) nofun]
  exact raise_flag_same ..

theorem endSpent_rejected : (endSpent n u).flag .batchRejected = (activate (u.spent n)).flag .batchRejected := by
  rw [endSpent_of_le hlast, testStarve_flag (f := .batchRejected) nofun]

/-- With the buffer emptied and the other not ACTIVE, a run that applies entries takes the arm order (R108). -/
theorem endSpent_activates (hr : u.run.state.appliesEntries = true) (hm : m ≠ n)
    (ha : (u.sequencer.buffer m).state ≠ .active) :
    activate (u.spent n) = activateFrom u.sequencer.armOrder (u.spent n) := by
  rw [activate_applies (by simpa using hr), spent_armOrder]
  intro k
  obtain rfl | rfl := BufferName.eq_or_eq hm k
  · rw [spent_buffer]
    decide
  · rwa [spent_other hm]

/-- STARVE after the end of a buffer: set where the run moves and the other buffer is neither ACTIVE nor ARMED (R118).
-/
theorem endSpent_starve (hn : n ∉ u.sequencer.armOrder) (hm : m ≠ n) :
    (((endSpent n u).run.state = .running ∨ (endSpent n u).run.state = .stepping) →
      ((endSpent n u).sequencer.buffer m).state ≠ .active → ((endSpent n u).sequencer.buffer m).state ≠ .armed →
      (endSpent n u).clock.starve = true ∧
        (endSpent n u).flag .starved = (u.flag .starved || !u.clock.starve)) ∧
    (¬(((endSpent n u).run.state = .running ∨ (endSpent n u).run.state = .stepping) ∧
        ((endSpent n u).sequencer.buffer m).state ≠ .active ∧ ((endSpent n u).sequencer.buffer m).state ≠ .armed) →
      (endSpent n u).clock.starve = u.clock.starve ∧ (endSpent n u).flag .starved = u.flag .starved) := by
  have emptied : (activate (u.spent n)).sequencer.buffer n = .cleared := by
    rw [activate_buffer (by simpa using hn), spent_buffer]
  have hflag : (activate (u.spent n)).flag .starved = u.flag .starved := by
    rw [activate_flag (f := .starved) nofun, spent_flag (f := .starved) nofun]
  have hclock : (activate (u.spent n)).clock = u.clock := by simp
  have hrun : (activate (u.spent n)).run.state.moves = true ↔ u.run.state = .running ∨ u.run.state = .stepping := by
    rw [activate_run, spent_run, RunState.moves_iff]
  rw [endSpent_run, endSpent_of_le hlast, testStarve_sequencer]
  constructor
  · intro hr ha hb
    have h := testStarve_starves (hrun.2 hr) fun k => by
      obtain rfl | rfl := BufferName.eq_or_eq hm k
      · rw [emptied]
        exact ⟨nofun, nofun⟩
      · exact ⟨ha, hb⟩
    rwa [hflag, hclock] at h
  · intro h
    rw [testStarve_still fun hc => h ⟨hrun.1 hc.1, hc.2 m⟩, hflag, hclock]
    exact ⟨rfl, rfl⟩

end Ended

end Sys2Proof.Machine
end

section
/-! PROOFS. The SOURCE and CUE entries of a Sequencer grant and the last entry of a buffer, assembled (O51). -/

namespace Sys2Proof.Machine

/-! ### The grant up to the end of the buffer -/

/-- From `s` to `u` the head entry of buffer `n` has been taken, whether applied or skipped, and the buffer has not yet
ended: the index has moved on, and what activation and STARVE test stands (R110, R112). -/
structure State.Took (n : BufferName) (s u : State) : Prop where
  buffer : u.sequencer.buffer n = { s.sequencer.buffer n with index := (s.sequencer.buffer n).index + 1 }
  other : ∀ m, m ≠ n → u.sequencer.buffer m = s.sequencer.buffer m
  armOrder : u.sequencer.armOrder = s.sequencer.armOrder
  direction : u.clock.direction = s.clock.direction
  starve : u.clock.starve = s.clock.starve
  rejected : u.flag .batchRejected = s.flag .batchRejected
  starved : u.flag .starved = s.flag .starved

/-- A skipped entry is taken (R27, R114). -/
theorem took_of_fault (n : BufferName) (s : State) :
    s.Took n (advanceIndex n (raise .entryFault
      { s with sequencer.stats.faults := saturate16 s.sequencer.stats.faults })) where
  buffer := by
    rw [advanceIndex_buffer]
    cases n <;> rfl
  other m hm := by
    rw [advanceIndex_other hm]
    cases m <;> rfl
  armOrder := by simp [advanceIndex]
  direction := by simp
  starve := by simp
  rejected := (flag_congr (congrArg WatchUnit.flags (advanceIndex_watch ..)) _).trans
    (raise_flag_other (e := .entryFault) (f := .batchRejected) nofun _)
  starved := (flag_congr (congrArg WatchUnit.flags (advanceIndex_watch ..)) _).trans
    (raise_flag_other (e := .entryFault) (f := .starved) nofun _)

/-- Of the flags that no hand-over raises, an applied entry moves CUE alone. -/
theorem applied_handed_flag {P : Quantity → Bool} {n : BufferName} {e : BitVec 64} {s t : State}
    (h : Hands P (s.applied n e) t) {f : Event} (hf : ∀ k, f ≠ watchEvent k) :
    t.flag f = (s.flag f || decide (planEntry s e = .cue ∧ f = .cue)) :=
  (h.other f hf).trans (applied_flag n e s f)

/-- An applied entry is taken (R112). -/
theorem took_of_applied {P : Quantity → Bool} {n : BufferName} {e : BitVec 64} {s : State} {w : WatchUnit}
    (h : Hands P (s.applied n e) { s.applied n e with watch := w }) :
    s.Took n { s.applied n e with watch := w } where
  buffer := applied_buffer n e s
  other m hm := applied_other n e s hm
  armOrder := applied_armOrder n e s
  direction := (applied_clock n e s).1
  starve := (applied_clock n e s).2
  rejected := (applied_handed_flag h (f := .batchRejected) (by decide)).trans (by simp)
  starved := (applied_handed_flag h (f := .starved) (by decide)).trans (by simp)

/-- What a grant that does not hand its entry back does: the entry is taken, and the buffer ends where it was the last
one (R110, R112). -/
theorem serveEntry_took {n : BufferName} {e : BitVec 64} {s : State}
    (hr : (planEntry s e).needsRoom = false ∨ s.resolver.queue.length < 64) :
    ∃ u, serveEntry n e s = endSpent n u ∧ s.Took n u ∧
      u.run.state = (if readEntry e = .cue ∧ (s.run.state = .running ∨ s.run.state = .stepping) then .paused
        else s.run.state) ∧
      (planEntry s e ≠ .fault → u.sequencer.stats =
        { s.sequencer.stats.afterEntry s.clock (entryTime e) with discrepancies := u.sequencer.stats.discrepancies }) := by
  by_cases hf : planEntry s e = .fault
  · refine ⟨_, serveEntry_fault hf, took_of_fault n s, ?_, fun h => absurd hf h⟩
    rw [if_neg fun h => nomatch hf.symm.trans ((planEntry_cue_iff s e).2 h.1)]
    simp
  · obtain ⟨w, P, hw, hserve⟩ := serveEntry_served (n := n) hf fun hn =>
      decide_eq_true (hr.resolve_left (by rw [hn]; decide))
    refine ⟨_, hserve, took_of_applied hw, ?_, fun _ => applied_stats n e s⟩
    refine (applied_state n e s).trans ?_
    simp only [planEntry_cue_iff]

/-- An entry that is not the last of its buffer leaves it ACTIVE, with the index moved on. -/
theorem serveEntry_goes_on {n : BufferName} {e : BitVec 64} {s : State} (hf : planEntry s e ≠ .fault)
    (hr : (planEntry s e).needsRoom = true → s.resolver.queue.length < 64)
    (hlast : (s.sequencer.buffer n).index + 1 < (s.sequencer.buffer n).entries.length) :
    ∃ w P, Hands P (s.applied n e) { s.applied n e with watch := w } ∧
      serveEntry n e s = { s.applied n e with watch := w } := by
  obtain ⟨w, P, hw, hserve⟩ := serveEntry_served (n := n) hf fun hn => decide_eq_true (hr hn)
  refine ⟨w, P, hw, hserve.trans (endSpent_of_lt ?_)⟩
  rw [(took_of_applied hw).buffer]
  exact hlast

/-! ### The last entry of a buffer -/

section Last

variable {n m : BufferName} {s u : State} (h : s.Took n u)
  (hlast : (s.sequencer.buffer n).index + 1 = (s.sequencer.buffer n).entries.length)
include h hlast

theorem took_spent : (u.sequencer.buffer n).entries.length ≤ (u.sequencer.buffer n).index := by
  rw [h.buffer]
  exact hlast.ge

/-- The arm order of one buffer: it activates with the tag of the direction of play, and is rejected with another; an
empty one leaves the other buffer (R108, R109). -/
theorem took_activates
    (hr : (endSpent n u).run.state = .running ∨ (endSpent n u).run.state = .stepping ∨ (endSpent n u).run.state = .ended)
    (hm : m ≠ n)
    (ha : (s.sequencer.buffer m).state ≠ .active) :
    (s.sequencer.armOrder = [m] → (s.sequencer.buffer m).tag = some s.clock.direction →
      (endSpent n u).sequencer.buffer m = { s.sequencer.buffer m with state := .active, index := 0 } ∧
      (endSpent n u).sequencer.armOrder = [] ∧ (endSpent n u).flag .batchRejected = s.flag .batchRejected) ∧
    (s.sequencer.armOrder = [m] → (s.sequencer.buffer m).tag ≠ some s.clock.direction →
      (endSpent n u).sequencer.buffer m = .cleared ∧ (endSpent n u).sequencer.armOrder = [] ∧
      (endSpent n u).flag .batchRejected = true) ∧
    (s.sequencer.armOrder = [] →
      (endSpent n u).sequencer.buffer m = s.sequencer.buffer m ∧ (endSpent n u).sequencer.armOrder = []) := by
  rw [endSpent_run, ← RunState.appliesEntries_iff] at hr
  have hle := took_spent h hlast
  have hother : (u.spent n).sequencer.buffer m = s.sequencer.buffer m := by rw [spent_other hm, h.other m hm]
  have hdirection : (u.spent n).clock.direction = s.clock.direction := by rw [spent_clock, h.direction]
  have hflag : (u.spent n).flag .batchRejected = s.flag .batchRejected := by
    rw [spent_flag (f := .batchRejected) nofun, h.rejected]
  have hactivate := endSpent_activates hle hr hm (by rwa [h.other m hm])
  rw [h.armOrder] at hactivate
  rw [endSpent_sequencer hle, endSpent_rejected hle, hactivate]
  refine ⟨fun ho ht => ?_, fun ho ht => ?_, fun ho => ?_⟩
  · rw [ho, activateFrom_accepts (by rw [hother, hdirection]; exact ht), setBuffer_buffer, hother]
    refine ⟨rfl, setBuffer_armOrder .., ?_⟩
    rw [← hflag]
    exact flag_congr (congrArg WatchUnit.flags (setBuffer_watch ..)) _
  · rw [ho, activateFrom_rejects (by rw [hother, hdirection]; exact ht), rejectBuffer]
    refine ⟨?_, ?_, raise_flag_same ..⟩
    · rw [raise_sequencer, setBuffer_buffer]
    · rw [raise_sequencer, setBuffer_armOrder]
  · rw [ho, activateFrom]
    exact ⟨hother, by rw [spent_armOrder, h.armOrder, ho]⟩

/-- A run that applies no entries leaves the other buffer and the arm order (R108). -/
theorem took_still
    (hr : ¬((endSpent n u).run.state = .running ∨ (endSpent n u).run.state = .stepping ∨
      (endSpent n u).run.state = .ended)) (hm : m ≠ n) :
    (endSpent n u).sequencer.buffer m = s.sequencer.buffer m ∧
      (endSpent n u).sequencer.armOrder = s.sequencer.armOrder := by
  rw [endSpent_run, ← RunState.appliesEntries_iff, Bool.not_eq_true] at hr
  rw [endSpent_sequencer (took_spent h hlast), activate_still (by rw [spent_run]; exact hr)]
  exact ⟨by rw [spent_other hm, h.other m hm], by rw [spent_armOrder, h.armOrder]⟩

end Last

/-! ### The obligation -/

/-- A SOURCE entry that finds room appends its job; no table changes (R114). -/
theorem exec_applyEntry_source {n : BufferName} {e : BitVec 64} {s : State} {node : Nat} {v : Bool}
    (hg : s.arbiter.grant = .sequencer) (hh : s.sequencer.head = some (n, e)) (hc : s.arbiter.clearPending = false)
    (hp : planEntry s e = .source node v) (hroom : s.resolver.queue.length < 64)
    (hlast : (s.sequencer.buffer n).index + 1 < (s.sequencer.buffer n).entries.length) :
    ∃ t, exec .applyEntry s = .next t ∧ t.store = s.store ∧ t.run = s.run ∧
      t.resolver = (appendJob (.source node v (entryTime e)) s).resolver ∧
      t.sequencer.stats = s.sequencer.stats.afterEntry s.clock (entryTime e) ∧
      (t.sequencer.buffer n).index = (s.sequencer.buffer n).index + 1 := by
  obtain ⟨w, P, hw, hserve⟩ := serveEntry_goes_on (n := n) (by rw [hp]; exact nofun) (fun _ => hroom) hlast
  obtain ⟨a, hexec⟩ := exec_applyEntry hg hh hc
  rw [hserve] at hexec
  have happlied : s.applied n e = advanceIndex n (appendJob (.source node v (entryTime e))
      { s with sequencer.stats := s.sequencer.stats.afterEntry s.clock (entryTime e) }) := by
    rw [State.applied, hp, applyPlan]
  have hresolver : (appendJob (.source node v (entryTime e))
      { s with sequencer.stats := s.sequencer.stats.afterEntry s.clock (entryTime e) }).resolver =
      (appendJob (.source node v (entryTime e)) s).resolver := by
    unfold appendJob takeJob
    dsimp only
    repeat' split
    all_goals rfl
  refine ⟨_, hexec, ?_, ?_, ?_, ?_, congrArg Buffer.index (applied_buffer n e s)⟩
  · show (s.applied n e).store = _
    rw [happlied, advanceIndex_store, appendJob_store]
  · show (s.applied n e).run = _
    rw [happlied, advanceIndex_run, appendJob_run]
  · show (s.applied n e).resolver = _
    rw [happlied, advanceIndex_resolver, hresolver]
  · show (s.applied n e).sequencer.stats = _
    rw [happlied, advanceIndex_stats, appendJob_sequencer]

theorem applyCue_moving {s : State} (h : s.run.state = .running ∨ s.run.state = .stepping) :
    applyCue s = raise .cue (enterPaused s) := by
  unfold applyCue
  obtain h | h := h <;> rw [h]

theorem applyCue_ended {s : State} (h : s.run.state = .ended) :
    applyCue s = raise .cue { s with sequencer.cueStop := true } := by
  unfold applyCue
  rw [h]

theorem applyCue_stats (s : State) : (applyCue s).sequencer.stats = s.sequencer.stats := by
  unfold applyCue
  split <;> rfl

/-- A CUE entry raises CUE; it pauses a moving run, and sets the cue stop in ENDED (R115). -/
theorem exec_applyEntry_cue {n : BufferName} {e : BitVec 64} {s : State}
    (hg : s.arbiter.grant = .sequencer) (hh : s.sequencer.head = some (n, e)) (hc : s.arbiter.clearPending = false)
    (he : readEntry e = .cue) (hlast : (s.sequencer.buffer n).index + 1 < (s.sequencer.buffer n).entries.length) :
    ∃ t, exec .applyEntry s = .next t ∧ t.store = s.store ∧ t.resolver = s.resolver ∧ t.flag .cue = true ∧
      t.sequencer.stats = s.sequencer.stats.afterEntry s.clock (entryTime e) ∧
      (t.sequencer.buffer n).index = (s.sequencer.buffer n).index + 1 ∧
      (s.run.state = .running ∨ s.run.state = .stepping →
        t.run.state = .paused ∧ t.clock.pausedState = true ∧ t.clock.boundary = none) ∧
      (s.run.state = .ended → t.run = s.run ∧ t.sequencer.cueStop = true) := by
  have hp : planEntry s e = .cue := (planEntry_cue_iff s e).2 he
  obtain ⟨w, P, hw, hserve⟩ := serveEntry_goes_on (n := n) (by rw [hp]; exact nofun)
    (fun hn => by rw [hp] at hn; cases hn) hlast
  obtain ⟨a, hexec⟩ := exec_applyEntry hg hh hc
  rw [hserve] at hexec
  have happlied : s.applied n e = advanceIndex n (applyCue
      { s with sequencer.stats := s.sequencer.stats.afterEntry s.clock (entryTime e) }) := by
    rw [State.applied, hp, applyPlan]
  refine ⟨_, hexec, ?_, ?_, ?_, ?_, congrArg Buffer.index (applied_buffer n e s), fun hr => ?_, fun hr => ?_⟩
  · show (s.applied n e).store = _
    rw [happlied, advanceIndex_store, applyCue_store]
  · show (s.applied n e).resolver = _
    rw [happlied, advanceIndex_resolver, applyCue_resolver]
  · refine (applied_handed_flag hw (f := .cue) (by decide)).trans ?_
    rw [hp]
    simp
  · show (s.applied n e).sequencer.stats = _
    rw [happlied, advanceIndex_stats, applyCue_stats]
  · show (s.applied n e).run.state = _ ∧ (s.applied n e).clock.pausedState = _ ∧ (s.applied n e).clock.boundary = _
    rw [happlied, advanceIndex_run, advanceIndex_clock, applyCue_moving (by exact hr)]
    exact ⟨rfl, rfl, rfl⟩
  · show (s.applied n e).run = _ ∧ (s.applied n e).sequencer.cueStop = _
    rw [happlied, advanceIndex_run, advanceIndex, setBuffer_cueStop, applyCue_ended (by exact hr)]
    exact ⟨rfl, rfl⟩

/-- Settles O51: SOURCE and CUE entries by their plans, and the last entry of a buffer by `State.Took`. -/
theorem otherEntriesAreApplied : Obligations.OtherEntriesAreApplied := by
  refine ⟨fun n e stats s hg hh hc hst hq hlast => ?_, fun n e stats s hg hh hc hn hlast hroom hq => ?_⟩
  · replace hq : s.sequencer.stats.afterEntry s.clock (entryTime e) = stats := by
      rw [hq, Stats.afterEntry_eq, Stats.outOfOrderAt_eq]
      rfl
    refine ⟨fun node v r he hr hk hcur hqueue => ?_, fun node v r he hr hk hcur hlen => ?_, fun he => ?_⟩
    · obtain ⟨t, hexec, hstore, hrun, hres, hs, hi⟩ :=
        exec_applyEntry_source hg hh hc (planEntry_source hst he hr hk) (by rw [hqueue]; decide) hlast
      rw [appendJob_idle hcur hqueue] at hres
      exact ⟨t, hexec, hstore, hrun, by rw [hres]; exact hqueue, by rw [hres]; rfl, hs.trans hq, hi⟩
    · obtain ⟨t, hexec, hstore, hrun, hres, hs, hi⟩ :=
        exec_applyEntry_source hg hh hc (planEntry_source hst he hr hk) hlen hlast
      rw [appendJob_busy hcur] at hres
      exact ⟨t, hexec, hstore, hrun, hres, hs.trans hq, hi⟩
    · rw [← hq]
      exact exec_applyEntry_cue hg hh hc he hlast
  · replace hq : s.sequencer.stats.afterEntry s.clock (entryTime e) = stats := by
      rw [hq, Stats.afterEntry_eq, Stats.outOfOrderAt_eq]
      rfl
    obtain ⟨u, hserve, took, hstate, hstats⟩ := serveEntry_took (n := n) hroom
    obtain ⟨a, hexec⟩ := exec_applyEntry hg hh hc
    rw [hserve] at hexec
    have hle := took_spent took hlast
    have hnu : n ∉ u.sequencer.armOrder := by rwa [took.armOrder]
    have hrun : (endSpent n u).run = u.run := endSpent_run u n
    refine ⟨_, hexec, endSpent_emptied hle hnu, endSpent_done hle, ?_, fun hf => ?_, fun m hm ha => ?_⟩
    · show (endSpent n u).run.state = _
      rw [hrun, hstate]
    · show (endSpent n u).sequencer.stats = { stats with discrepancies := (endSpent n u).sequencer.stats.discrepancies }
      rw [(endSpent_unwatched n u).stats, ← hq]
      exact hstats hf
    · obtain ⟨starves, still⟩ := endSpent_starve hle hnu hm
      rw [took.starve, took.starved] at starves still
      exact ⟨fun hr => took_activates took hlast hr hm ha,
        fun h1 h2 h3 => took_still took hlast (not_or.2 ⟨h1, not_or.2 ⟨h2, h3⟩⟩) hm, starves, still⟩

end Sys2Proof.Machine
end

section
/-! PROOFS. The counts of the arbiter (O56): an act outside the arbiter leaves the claims and their counts, or withdraws
the Sequencer's claim with its count; the arbiter's own choice keeps every count in its range (R68, R70 to R72). -/

namespace Sys2Proof.Machine

/-! ### Acts outside the arbiter -/

/-- From `a` to `b` no LINK claim is withdrawn, and each count stands or is set to 0, that of the Sequencer standing only
with its claim. -/
structure Arbiter.Eases (a b : Arbiter) : Prop where
  linkClaim : a.linkClaim = true → b.linkClaim = true
  linkWait : b.linkWait = a.linkWait ∨ b.linkWait = 0
  sequencer : b.sequencerClaim = a.sequencerClaim ∧ b.sequencerWait = a.sequencerWait ∨ b.sequencerWait = 0

namespace Arbiter.Eases

variable {a b c : Arbiter}

theorem of_eq (h : b = a) : a.Eases b := by
  subst h
  exact ⟨id, .inl rfl, .inl ⟨rfl, rfl⟩⟩

theorem trans (h : a.Eases b) (k : b.Eases c) : a.Eases c := by
  obtain ⟨hc, hl, hs⟩ := h
  obtain ⟨kc, kl, ks⟩ := k
  refine ⟨kc ∘ hc, ?_, ?_⟩
  · obtain kl | kl := kl
    · rwa [kl]
    · exact .inr kl
  · obtain ⟨kq, kw⟩ | kw := ks
    · rwa [kq, kw]
    · exact .inr kw

/-- A change of the grant alone. -/
theorem grant (a : Arbiter) (g : Grant) : a.Eases { a with grant := g } := ⟨id, .inl rfl, .inl ⟨rfl, rfl⟩⟩

end Arbiter.Eases

/-- What eases the claims keeps the counts in their ranges. -/
theorem ArbiterInv.eases {s t : State} (h : ArbiterInv s) (k : s.arbiter.Eases t.arbiter) : ArbiterInv t := by
  obtain ⟨hl, hq, hl0, hq0⟩ := h
  obtain ⟨kc, kl, ks⟩ := k
  have link : t.arbiter.linkClaim = false → s.arbiter.linkClaim = false := fun ht => by
    cases hs : s.arbiter.linkClaim with
    | false => rfl
    | true => rw [kc hs] at ht; cases ht
  refine ⟨?_, ?_, fun ht => ?_, fun ht => ?_⟩
  · obtain kl | kl := kl <;> rw [kl]
    · exact hl
    · exact Nat.zero_le _
  · obtain ⟨-, kw⟩ | kw := ks <;> rw [kw]
    · exact hq
    · exact Nat.zero_le _
  · obtain kl | kl := kl
    · rw [kl, hl0 (link ht)]
    · exact kl
  · obtain ⟨kq, kw⟩ | kw := ks
    · rw [kw, hq0 (kq ▸ ht)]
    · exact kw

theorem withdrawSequencer_eases (s : State) : s.arbiter.Eases (withdrawSequencer s).arbiter := ⟨id, .inl rfl, .inr rfl⟩

theorem enterPaused_eases (s : State) : s.arbiter.Eases (enterPaused s).arbiter := ⟨id, .inl rfl, .inr rfl⟩

theorem leaveEnded_eases (s : State) : s.arbiter.Eases (leaveEnded s).arbiter := by
  unfold leaveEnded
  split
  · exact enterPaused_eases s
  · exact .of_eq rfl

theorem testActiveBuffer_eases (s : State) : s.arbiter.Eases (testActiveBuffer s).arbiter := by
  unfold testActiveBuffer
  repeat' split
  · exact .of_eq rfl
  · rename_i n _ _
    rw [testStarve_arbiter, activate_arbiter]
    exact .trans (.of_eq (rejectBuffer_arbiter s n)) (withdrawSequencer_eases _)
  · exact .of_eq rfl

theorem changeDirection_eases (d : Direction) (s : State) : s.arbiter.Eases (changeDirection d s).arbiter := by
  have tested := testActiveBuffer_eases { s with clock.direction := d, clock.frac := 0, sequencer.stats.previous := none }
  exact tested.trans (leaveEnded_eases _)

/-- The commands that touch the arbiter: three move the run out of a state with the Sequencer's claim, two hand the store
over, and one places the claim of its stream. -/
theorem carryOut_eases {c : Command} (hc : c ≠ .clearModel) (s : State) : s.arbiter.Eases (carryOut c s).arbiter := by
  cases c <;> simp only [carryOut]
  case clearModel => exact absurd rfl hc
  case buildEnd =>
    unfold grantBuildEnd
    repeat' split
    · exact .of_eq rfl
    · exact .of_eq rfl
    · exact .grant _ _
  case setPacing rate direction =>
    unfold grantSetPacing
    dsimp only
    repeat' split
    case isFalse.isFalse => exact changeDirection_eases _ { s with clock.rate := clampRate rate.toNat }
    all_goals exact .of_eq rfl
  case setEnd endTime =>
    unfold grantSetEnd grantSetEnd.leaveEndedForward
    dsimp only
    repeat' split
    · exact leaveEnded_eases { s with clock.endTime := max endTime.toNat s.clock.time }
    all_goals exact .of_eq rfl
  case pause =>
    unfold grantPause
    split
    · exact enterPaused_eases s
    · exact enterPaused_eases s
    all_goals exact .of_eq rfl
  case restore =>
    unfold grantRestore
    split
    · rw [answer_arbiter, beginRestore_arbiter]
      exact ⟨id, .inr rfl, .inr rfl⟩
    · exact .of_eq rfl
  case readTable table first =>
    unfold grantReadTable
    repeat' split
    case h_1.isFalse =>
      rw [readRecord_arbiter]
      exact ⟨fun _ => rfl, .inl rfl, .inl ⟨rfl, rfl⟩⟩
    all_goals exact .of_eq rfl
  all_goals
    refine .of_eq ?_
    simp only [grantDefineNode, grantDefineSwitch, grantSetPolicy, grantOverrideSwitch, grantRetireSwitch,
      grantLookupSwitch, grantLookupNode, grantLookupIsland, grantWalkSet, grantWalkMove, grantReadClock, grantSetMark,
      grantSetStepSpan, directLoadBatch, acceptLoad, grantArmBatch, grantDiscardBatch, grantDiscardBatch.discard,
      grantReadBatch, grantStart, grantResume, grantStep, directReadStatus, grantSetWatch, grantClearWatch, rewriteWatch,
      grantReadWatch, directReadEvents, directSetEventEnables, directSetInterruptLine, directReadInterrupt,
      directSetCueLine, directClearLineFlags, directReadCueLine, directSetIndicator, directReadIndicator,
      grantRefreshIndicators, directReadLines, directSetCheckMode]
    (repeat' split) <;> simp

/-- An entry that is applied leaves the arbiter alone, or pauses the run and withdraws the Sequencer's claim (R115). -/
theorem applyPlan_arbiter (time : Nat) (p : EntryPlan) (s : State) :
    (applyPlan time p s).arbiter = s.arbiter ∨ (applyPlan time p s).arbiter = (withdrawSequencer s).arbiter := by
  cases p with
  | fault => exact .inl rfl
  | switch sw old new disc =>
    rw [applyPlan]
    dsimp only
    split <;> exact .inl (commitSwitch_arbiter ..)
  | source node v => exact .inl (appendJob_arbiter ..)
  | cue =>
    rw [applyPlan, applyCue]
    split
    · exact .inr rfl
    · exact .inr rfl
    all_goals exact .inl rfl

/-- So does a Sequencer grant. -/
theorem serveEntry_arbiter (n : BufferName) (e : BitVec 64) (s : State) :
    (serveEntry n e s).arbiter = s.arbiter ∨ (serveEntry n e s).arbiter = (withdrawSequencer s).arbiter := by
  unfold serveEntry
  dsimp only
  split
  · exact .inl (by simp)
  split
  · split <;> exact .inl rfl
  · rw [endSpent_arbiter, handStats_arbiter, advanceIndex_arbiter]
    exact applyPlan_arbiter _ _ { s with sequencer.stats := s.sequencer.stats.afterEntry s.clock (entryTime e) }

theorem serveEntry_eases (n : BufferName) (e : BitVec 64) (s : State) : s.arbiter.Eases (serveEntry n e s).arbiter := by
  obtain h | h := serveEntry_arbiter n e s <;> rw [h]
  · exact .of_eq rfl
  · exact withdrawSequencer_eases s

theorem takeFunction_eases (f : CueFunction) (s : State) : s.arbiter.Eases (takeFunction f s).arbiter := by
  unfold takeFunction
  split
  case h_4 => exact enterPaused_eases s
  all_goals exact .of_eq (by simp [extendStep])

theorem pacingTick_eases (s : State) : s.arbiter.Eases (pacingTick s).arbiter := by
  have boundary : ∀ (b : Nat) (u : State), u.arbiter.Eases (reachBoundary b u).arbiter := fun b u => by
    unfold reachBoundary
    dsimp only
    split
    · exact .of_eq rfl
    · exact enterPaused_eases (raise .stepDone { u with clock.time := b, clock.frac := 0 })
  unfold pacingTick
  split
  · rw [testMark_arbiter]
    unfold advanceTime
    dsimp only
    repeat' split
    · exact .of_eq (endRun_arbiter s)
    · exact boundary _ _
    all_goals exact .of_eq rfl
  · exact .of_eq rfl

/-! ### The choice of the arbiter -/

/-- The counts are in their ranges. -/
def Arbiter.InRange (a : Arbiter) : Prop := a.linkWait ≤ Config.linkTurn ∧ a.sequencerWait ≤ Config.sequencerTurn

/-- The claims as the claimants have them, each count 0 while its claim does not wait. -/
theorem refreshClaims_arbiterInv {s : State} (h : s.arbiter.InRange) : ArbiterInv (refreshClaims s) := by
  obtain ⟨hl, hq⟩ := h
  have le : ∀ (b : Bool) (n m : Nat), n ≤ m → (if b = true then n else 0) ≤ m := fun b n m hn => by
    cases b
    · exact Nat.zero_le m
    · exact hn
  exact ⟨le _ _ _ hl, le _ _ _ hq, fun hc => if_neg fun e => Bool.false_ne_true (hc.symm.trans e),
    fun hc => if_neg fun e => Bool.false_ne_true (hc.symm.trans e)⟩

/-- A count is raised only while its turn is not due, as the turn that is due is granted first (R70). -/
theorem choose_arbiterInv {s : State} (h : ArbiterInv s) (streaming : Bool) :
    ArbiterInv { s with arbiter := s.arbiter.choose streaming } := by
  obtain ⟨hl, hq, hl0, hq0⟩ := h
  have raised : ∀ (b : Bool) (n m : Nat), n ≤ m → ¬(n = m ∧ b = true) → (if b = true then n + 1 else 0) ≤ m :=
    fun b n m hn hd => by
      cases b
      · exact Nat.zero_le m
      · exact Nat.lt_of_le_of_ne hn fun e => hd ⟨e, rfl⟩
  have none : ∀ (b : Bool) (n : Nat), b = false → (if b = true then n else 0) = 0 := fun b n hb => by rw [hb]; rfl
  have link : ArbiterInv { s with arbiter := s.arbiter.grantLink streaming } := ⟨Nat.zero_le _, hq, fun _ => rfl, hq0⟩
  unfold Arbiter.choose
  split; · exact link
  rename_i hlink
  have sequencer : ArbiterInv { s with arbiter := s.arbiter.grantSequencer } :=
    ⟨raised _ _ _ hl hlink, Nat.zero_le _, none _ _, fun _ => rfl⟩
  split; · exact sequencer
  rename_i hseq
  repeat' split
  · exact ⟨raised _ _ _ hl hlink, raised _ _ _ hq hseq, none _ _, none _ _⟩
  · exact sequencer
  · exact link
  · exact ⟨hl, hq, hl0, hq0⟩

theorem clearModel_arbiter (s : State) : (clearModel s).arbiter = .free := by
  rw [Evaluates.rest (clearModel_hands s)]
  rfl

/-- Whatever the claims were, arbitration leaves the counts in their ranges. -/
theorem arbitrate_arbiterInv {s : State} (h : s.arbiter.InRange) : ArbiterInv (arbitrate s) := by
  unfold arbitrate
  dsimp only
  split
  · refine choose_arbiterInv ?_ _
    split
    · unfold ArbiterInv
      rw [answerClear_arbiter, clearModel_arbiter]
      exact ⟨Nat.zero_le _, Nat.zero_le _, fun _ => rfl, fun _ => rfl⟩
    · exact refreshClaims_arbiterInv h
  · exact refreshClaims_arbiterInv h

/-! ### The parts of a step -/

theorem ArbiterInv.inRange {s : State} (h : ArbiterInv s) : s.arbiter.InRange := ⟨h.1, h.2.1⟩

theorem ArbiterInv.of_arbiter {s t : State} (h : ArbiterInv s) (ht : t.arbiter = s.arbiter) : ArbiterInv t :=
  h.eases (.of_eq ht)

theorem ArbiterInv.release {s : State} (h : ArbiterInv s) : ArbiterInv (releaseGrant s) := h.eases (.grant _ _)

theorem ArbiterInv.part {s t : State} (h : ArbiterInv s) (hp : Part s t) : ArbiterInv t := by
  cases hp with
  | link e => exact h.of_arbiter (by rw [e])
  | front rest => exact h
  | arbitrate => exact arbitrate_arbiterInv h.inRange
  | release => exact h.release
  | claim => exact h.eases ⟨fun _ => rfl, .inl rfl, .inl ⟨rfl, rfl⟩⟩
  | carryOut c =>
    by_cases hc : c = .clearModel
    · subst hc
      exact arbitrate_arbiterInv h.inRange
    · exact h.eases (carryOut_eases hc s)
  | badCheck => exact h
  | capture => exact h
  | gather byte => exact h.of_arbiter (gatherByte_arbiter ..)
  | endFrame =>
    unfold endFrame
    split
    · exact h
    · refine arbitrate_arbiterInv ?_
      simpa [Arbiter.InRange] using h.inRange
  | sample n level => exact h
  | edge n => exact h
  | cueLine => exact h
  | takeFunction f => exact h.eases (takeFunction_eases f s)
  | tick => exact h.eases (pacingTick_eases s)
  | flash => exact h
  | reset => exact ⟨Nat.zero_le _, Nat.zero_le _, fun _ => rfl, fun _ => rfl⟩
  | compileLists grant run stage => exact h
  | compileValues grant run stage => exact h
  | compileEnd grant run stage =>
    obtain ⟨a, w, rfl, -, e⟩ := compileEnd_eq s
    rw [e]
    exact h.release
  | restoreFirst grant run stage => exact h.of_arbiter (restoreFirstStage_arbiter s)
  | restoreSecond grant run stage => exact h
  | restoreEnd grant run stage =>
    obtain ⟨a, w, rfl, -, e⟩ := restoreEnd_eq s
    rw [e]
    exact h.release
  | serve grant head => exact h.eases (serveEntry_eases ..)
  | mergeGuard grant current job stage => exact h.of_arbiter (mergeGuard_arbiter ..)
  | mergeRelabel grant current job stage => exact h.of_arbiter (mergeRelabel_arbiter ..)
  | splitGuard grant current job stage => exact h.of_arbiter (splitGuard_arbiter ..)
  | splitTurn grant current job stage => exact h.of_arbiter (splitTurn_arbiter ..)
  | splitRelabel grant current job stage => exact h.of_arbiter (splitRelabel_arbiter ..)
  | sourceJob grant current job stage => exact h.of_arbiter (sourceJob_arbiter ..)

end Sys2Proof.Machine
end

section
/-! PROOFS. The watch conditions (O56): a condition is written by an evaluation, which trips it with its trip time, by the
commands that define it, and by restore, which arms it again without one (R138, R145, R148 to R150). -/

namespace Sys2Proof.Machine

/-! ### Acts that leave the conditions alone -/

@[simp] theorem activate_conditions (s : State) : (activate s).watch.conditions = s.watch.conditions :=
  (activate_unwatched s).conditions

@[simp] theorem testStarve_conditions (s : State) : (testStarve s).watch.conditions = s.watch.conditions :=
  (testStarve_unwatched s).conditions

@[simp] theorem enterMoving_conditions (target : RunState) (s : State) :
    (enterMoving target s).watch.conditions = s.watch.conditions := by simp [enterMoving]

@[simp] theorem beginStep_conditions (s : State) : (beginStep s).watch.conditions = s.watch.conditions := by
  simp [beginStep]

@[simp] theorem resumeRun_conditions (s : State) : (resumeRun s).watch.conditions = s.watch.conditions := by
  simp [resumeRun]

@[simp] theorem armBuffer_conditions (n : BufferName) (s : State) :
    (armBuffer n s).watch.conditions = s.watch.conditions := by simp [armBuffer]

@[simp] theorem changeDirection_conditions (d : Direction) (s : State) :
    (changeDirection d s).watch.conditions = s.watch.conditions := by
  rw [changeDirection, leaveEnded_watch]
  unfold testActiveBuffer rejectBuffer
  repeat' split
  all_goals simp

@[simp] theorem abandonJobs_conditions (s : State) : (abandonJobs s).watch.conditions = s.watch.conditions := by
  rw [abandonJobs_eq]
  dsimp only
  split <;> rfl

@[simp] theorem beginRestore_conditions (s : State) : (beginRestore s).watch.conditions = s.watch.conditions := by
  simp [beginRestore]

@[simp] theorem gatherByte_conditions (byte : Byte) (s : State) :
    (gatherByte byte s).watch.conditions = s.watch.conditions := by
  unfold gatherByte
  repeat' split
  all_goals simp

@[simp] theorem endLoad_conditions (s : State) : (endLoad s).watch.conditions = s.watch.conditions := by
  unfold endLoad
  repeat' split
  all_goals simp

@[simp] theorem putBackCapture_conditions (s : State) :
    (putBackCapture s).watch.conditions = s.watch.conditions := by
  unfold putBackCapture
  split <;> rfl

@[simp] theorem takeFunction_conditions (f : CueFunction) (s : State) :
    (takeFunction f s).watch.conditions = s.watch.conditions := by
  unfold takeFunction
  split <;> simp

@[simp] theorem pacingTick_conditions (s : State) : (pacingTick s).watch.conditions = s.watch.conditions := by
  unfold pacingTick testMark advanceTime endRun reachBoundary
  dsimp only
  repeat' split
  all_goals rfl

/-! ### Trip times -/

/-- The condition holds a trip time exactly when it is TRIPPED. -/
def Watch.Timed (w : Watch) : Prop := w.tripTime.isSome = true ↔ w.state = .tripped

theorem Watch.Timed.handed {w : Watch} (h : w.Timed) (value time : Nat) : (w.handed value time).Timed := by
  obtain ⟨-, -, e⟩ | ⟨-, e⟩ := w.handed_cases value time <;> rw [e]
  · exact ⟨fun _ => rfl, fun _ => rfl⟩
  · exact h

theorem Watch.timed_of_ne {w : Watch} (hs : w.state ≠ .tripped) (ht : w.tripTime = none) : w.Timed :=
  ⟨fun h => absurd (ht ▸ h) (by decide), fun h => absurd h hs⟩

theorem Watch.Timed.rearmed {w : Watch} (h : w.Timed) : w.rearmed.Timed := by
  unfold Watch.rearmed
  split
  · exact Watch.timed_of_ne nofun rfl
  · exact h

/-- SET WATCH gives no condition the state TRIPPED (R149). -/
theorem parseWatchState_ne_tripped {b : Byte} {w : WatchState} (h : parseWatchState b = some w) : w ≠ .tripped := by
  unfold parseWatchState at h
  split at h <;> cases h <;> decide

namespace WatchInv

variable {s t : State}

theorem of_conditions (h : WatchInv s) (e : t.watch.conditions = s.watch.conditions) : WatchInv t := by
  unfold WatchInv
  rw [e]
  exact h

/-- Evaluations keep the trip times with the TRIPPED conditions. -/
theorem evaluates {sel : Fin 4 → Bool} (h : WatchInv s) (k : Evaluates sel s t) : WatchInv t := by
  intro n
  rw [k.condition]
  split
  · exact Watch.Timed.handed (h n) _ _
  · exact h n

theorem hands {P : Quantity → Bool} (h : WatchInv s) (k : Hands P s t) : WatchInv t := h.evaluates k

theorem setCondition (h : WatchInv s) (n : Fin 4) {w : Watch} (hw : w.Timed) : WatchInv (setCondition n w s) := by
  intro m
  rw [setCondition_conditions, Vector.get_eq_getElem, Vector.getElem_set]
  split
  · exact hw
  · exact h m

theorem rewriteWatch (h : WatchInv s) (n : Fin 4) {w : Watch} (hw : w.Timed) : WatchInv (rewriteWatch n w s) := by
  unfold Machine.rewriteWatch
  dsimp only
  split
  · exact ((h.setCondition n hw).evaluates (evaluate_evaluates n _)).of_conditions rfl
  · exact h.setCondition n hw

theorem clearModel (h : WatchInv s) : WatchInv (clearModel s) :=
  (h.of_conditions (emptied_watch s).2).hands (clearModel_hands s)

theorem arbitrate (h : WatchInv s) : WatchInv (arbitrate s) := by
  have claims : WatchInv (refreshClaims s) := h
  unfold Machine.arbitrate
  dsimp only
  split
  · split
    · exact claims.clearModel.of_conditions (by rw [answerClear_watch])
    · exact h
  · exact h

/-- The commands that write a condition are SET WATCH and CLEAR WATCH. -/
theorem carryOut (h : WatchInv s) (c : Command) : WatchInv (carryOut c s) := by
  cases c <;> simp only [Machine.carryOut]
  case clearModel => exact arbitrate h
  case setWatch number quantity relation threshold state =>
    unfold grantSetWatch
    split
    · rename_i hw
      exact h.rewriteWatch _ (Watch.timed_of_ne (parseWatchState_ne_tripped hw) rfl)
    · exact h
  case clearWatch number =>
    unfold grantClearWatch
    dsimp only
    repeat' split
    · exact h.rewriteWatch _ (Watch.timed_of_ne nofun rfl)
    all_goals exact h
  all_goals
    refine h.of_conditions ?_
    simp only [grantDefineNode, grantDefineSwitch, grantBuildEnd, grantSetPolicy, grantOverrideSwitch, grantRetireSwitch,
      grantLookupSwitch, grantLookupNode, grantLookupIsland, grantWalkSet, grantWalkMove, grantReadTable, grantReadClock,
      grantSetPacing, grantSetEnd, grantSetEnd.leaveEndedForward, grantSetMark, grantSetStepSpan, directLoadBatch,
      acceptLoad, grantArmBatch, grantDiscardBatch, grantDiscardBatch.discard, grantReadBatch, grantStart, grantPause,
      grantResume, grantStep, grantRestore, directReadStatus, grantReadWatch, directReadEvents, directSetEventEnables,
      directSetInterruptLine, directReadInterrupt, directSetCueLine, directClearLineFlags, directReadCueLine,
      directSetIndicator, directReadIndicator, grantRefreshIndicators, directReadLines, directSetCheckMode]
    (repeat' split) <;> simp

theorem endJob (h : WatchInv s) (j : JobInProgress) : WatchInv (endJob j s) := by
  obtain ⟨b, hands, ended⟩ := endJob_hands j s
  exact (h.hands hands).of_conditions ended.conditions

/-- A job that ends with the tables it leaves. -/
theorem endJob_committed (h : WatchInv s) (st : Store) (j : JobInProgress) :
    WatchInv (Machine.endJob j (commitStore st s)) := by
  have committed : WatchInv (commitStore st s) := h
  exact committed.endJob j

theorem mergeRelabel (h : WatchInv s) (cause : Nat) (j : JobInProgress) : WatchInv (mergeRelabel cause j s) := by
  unfold Machine.mergeRelabel
  split
  · split
    · dsimp only
      split
      · exact h.endJob_committed _ _
      · exact h
    · exact h.endJob j
  · exact h.endJob j

theorem splitRelabel (h : WatchInv s) (cause : Nat) (j : JobInProgress) : WatchInv (splitRelabel cause j s) := by
  unfold Machine.splitRelabel
  split
  · split
    · dsimp only
      split
      · exact h.endJob_committed _ _
      · exact h
    · split
      · dsimp only
        split
        · exact h.endJob_committed _ _
        · exact h
      · exact h.endJob j
  · exact h.endJob j

theorem sourceJob (h : WatchInv s) (n : Nat) (v : Bool) (cause : Nat) (j : JobInProgress) :
    WatchInv (sourceJob n v cause j s) := by
  unfold Machine.sourceJob
  split
  · split
    · exact h.endJob j
    · split
      · exact h.endJob_committed _ _
      · exact h.endJob j
  · exact h.endJob j

theorem splitTurn (h : WatchInv s) (j : JobInProgress) : WatchInv (splitTurn j s) := by
  unfold Machine.splitTurn
  repeat' split
  · exact h
  · exact h.endJob j
  · exact h

theorem serveEntry (h : WatchInv s) (n : BufferName) (e : BitVec 64) : WatchInv (serveEntry n e s) := by
  obtain ⟨a, b, before, -, -, hands, after⟩ := serveEntry_hands n e s
  exact ((h.of_conditions before.conditions).hands hands).of_conditions after.conditions

theorem restoreFirstStage (h : WatchInv s) : WatchInv (restoreFirstStage s) := by
  obtain ⟨w, hands, e⟩ := restoreFirstStage_eq s
  have back : WatchInv s.setBack := fun n => by
    show ((mapVector Watch.rearmed s.watch.conditions).get n).Timed
    rw [mapVector_get]
    exact Watch.Timed.rearmed (h n)
  rw [e]
  exact (back.hands hands).of_conditions rfl

theorem part (h : WatchInv s) (hp : Part s t) : WatchInv t := by
  cases hp with
  | link e => exact h.of_conditions (by rw [e])
  | front rest => exact h
  | arbitrate => exact h.arbitrate
  | release => exact h
  | claim => exact h
  | carryOut c => exact h.carryOut c
  | badCheck => exact h
  | capture => exact h
  | gather byte => exact h.of_conditions (gatherByte_conditions ..)
  | endFrame =>
    unfold endFrame
    split
    · exact h
    · exact WatchInv.arbitrate (h.of_conditions (by simp))
  | sample n level => exact h
  | edge n => exact h
  | cueLine => exact h
  | takeFunction f => exact h.of_conditions (takeFunction_conditions ..)
  | tick => exact h.of_conditions (pacingTick_conditions s)
  | flash => exact h
  | reset => exact watchInv_reset
  | compileLists grant run stage => exact h
  | compileValues grant run stage => exact h
  | compileEnd grant run stage =>
    obtain ⟨a, w, rfl, hands, e⟩ := compileEnd_eq s
    have committed : WatchInv (commitStore (s.store.labelAll s.clock.time) s) := h
    rw [e]
    exact (committed.hands hands).of_conditions rfl
  | restoreFirst grant run stage => exact h.restoreFirstStage
  | restoreSecond grant run stage => exact h
  | restoreEnd grant run stage =>
    obtain ⟨a, w, rfl, evaluated, e⟩ := restoreEnd_eq s
    have committed : WatchInv (commitStore (s.store.labelAll s.clock.time) s) := h
    rw [e]
    exact (committed.evaluates evaluated).of_conditions rfl
  | serve grant head => exact h.serveEntry _ _
  | mergeGuard grant current job stage =>
    unfold Machine.mergeGuard
    repeat' split
    all_goals first | exact h.endJob _ | exact h
  | mergeRelabel grant current job stage => exact h.mergeRelabel _ _
  | splitGuard grant current job stage =>
    unfold Machine.splitGuard
    repeat' split
    all_goals first | exact h.endJob _ | exact h.splitTurn _
  | splitTurn grant current job stage => exact h.splitTurn _
  | splitRelabel grant current job stage => exact h.splitRelabel _ _
  | sourceJob grant current job stage => exact h.sourceJob _ _ _ _

end WatchInv

/-- Settles O56: every part of a step keeps the counts of the arbiter and the trip times. -/
theorem stepsKeepArbiterAndWatch : Obligations.StepsKeepArbiterAndWatch :=
  ⟨fun _ _ hs h => step_keeps (fun _ _ hs hp => ArbiterInv.part hs hp) hs h,
    fun _ _ hs h => step_keeps (fun _ _ hs hp => WatchInv.part hs hp) hs h⟩

end Sys2Proof.Machine
end

section
/-! PROOFS. Grants of the link: a step on an empty queue (O2), a claim that meets the grant of another (O12), and what
arbitration leaves of the link and of claims that the link has withdrawn (R70, R74 to R77). -/

namespace Sys2Proof.Machine

/-! ### The grant of another -/

/-- Without a LINK grant there is no command to carry out. -/
theorem finishLinkGrant_of_ne {s : State} (h : s.arbiter.grant ≠ .link) : finishLinkGrant s = s := by
  rw [finishLinkGrant, if_neg h]

/-- With no command in hand a LINK grant in progress goes on. -/
theorem finishLinkGrant_of_none {s : State} (h : s.link.taken = none) : finishLinkGrant s = s := by
  unfold finishLinkGrant
  rw [h]
  split <;> rfl

/-- A LINK grant in progress carries out its command and ends, unless it has passed on, and the arbiter chooses. -/
theorem finishLinkGrant_carriesOut {s : State} {c : Command} (hg : s.arbiter.grant = .link)
    (ht : s.link.taken = some c) :
    finishLinkGrant s = arbitrate
      (if (carryOut c s).arbiter.grant = .link then { carryOut c s with arbiter.grant := .none } else carryOut c s) := by
  rw [finishLinkGrant, if_pos hg, ht]
  rfl

/-- A frame that does not wait has no record to be read before its next position. -/
theorem readAwaited_of_ne {s : State} (h : s.link.frame ≠ .waiting) : readAwaited s = s := by
  rw [readAwaited, if_neg h]

/-- Without a LINK grant nothing is to be done before a byte position. -/
theorem finishLink_of_ne {s : State} (h : s.arbiter.grant ≠ .link) : finishLink s = s := by
  rw [finishLink, finishLinkGrant_of_ne h]
  obtain e | ⟨x, -, hg, -⟩ := readAwaited_cases s
  · exact e
  · exact absurd hg h

/-! ### A step on an empty queue -/

/-- An engine has nothing to do while no grant is in progress (log 5). -/
theorem engine_idle {i : Instr} {s : State} (hg : s.arbiter.grant = .none)
    (hi : i ∈ [Instr.compileIncidenceLists, .compileStartingValues, .compileEnd, .restoreFirstStage,
      .restoreSecondStage, .restoreEnd, .mergeGuard, .mergeRelabel, .splitGuard, .splitVisit, .splitRelabel,
      .sourceJob, .applyEntry, .readTableRecord]) : exec i s = .next s := by
  have idle : ∀ work : State → Option State, work s = none → engineStep work s = .next s := fun work hw => by
    rw [engineStep, finishLinkGrant_of_ne (by rw [hg]; decide), hw]
    rfl
  have compile : ∀ stage effect, compileWork stage effect s = none := fun stage effect =>
    if_neg fun h => absurd (hg.symm.trans h.1) (by decide)
  have restore : ∀ stage effect, restoreWork stage effect s = none := fun stage effect =>
    if_neg fun h => absurd (hg.symm.trans h.1) (by decide)
  have resolver : ∀ unit, resolverWork unit s = none := fun unit => if_neg (by rw [hg]; decide)
  have sequencer : sequencerWork s = none := if_neg (by rw [hg]; decide)
  have stream : streamWork s = none := streamWork_waits (by rw [hg]; decide)
  simp only [List.mem_cons, List.not_mem_nil, or_false] at hi
  obtain rfl | rfl | rfl | rfl | rfl | rfl | rfl | rfl | rfl | rfl | rfl | rfl | rfl | rfl := hi
  · exact idle _ (compile ..)
  · exact idle _ (compile ..)
  · exact idle _ (compile ..)
  · exact idle _ (restore ..)
  · exact idle _ (restore ..)
  · exact idle _ (restore ..)
  · exact idle _ (resolver _)
  · exact idle _ (resolver _)
  · exact idle _ (resolver _)
  · exact idle _ (resolver _)
  · exact idle _ (resolver _)
  · exact idle _ (resolver _)
  · exact idle _ sequencer
  · exact idle _ stream

/-- Settles O2. -/
theorem emptyQueueIdlesOrEndsTheGrant : Obligations.EmptyQueueIdlesOrEndsTheGrant := by
  have idle : ∀ s : State, s.pending = [] → step s = .next (finishLinkGrant s) := fun s hp => by rw [step, hp]
  refine ⟨fun s hp hg => ?_, fun c s hp hg ht => ?_, fun i s hg hi => engine_idle hg hi⟩
  · rw [idle s hp, finishLinkGrant_of_ne hg]
  · rw [idle s hp, finishLinkGrant_carriesOut hg ht]

/-! ### What arbitration leaves of the link -/

/-- Arbitration writes the link only to answer a CLEAR MODEL. -/
theorem arbitrate_link {s : State} (h : s.link.taken ≠ some .clearModel) : (arbitrate s).link = s.link := by
  have answered : (answerClear (clearModel (refreshClaims s))).link = s.link := by
    rw [answerClear, if_neg (by rwa [clearModel_link]), clearModel_link]
    rfl
  unfold arbitrate
  dsimp only
  split
  · split
    · exact answered
    · rfl
  · rfl

/-- With a grant in progress arbitration keeps the grant, the LINK claim and a CLEAR MODEL that waits. -/
theorem arbitrate_granted {s : State} (h : s.arbiter.grant ≠ .none) :
    arbitrate s = { s with arbiter := (arbitrate s).arbiter } ∧ (arbitrate s).arbiter.grant = s.arbiter.grant ∧
      (arbitrate s).arbiter.linkClaim = s.arbiter.linkClaim ∧
      (arbitrate s).arbiter.clearPending = s.arbiter.clearPending := by
  rw [arbitrate_busy s h]
  exact ⟨rfl, rfl, rfl, rfl⟩

/-- A LINK claim that has been withdrawn is not granted, and its count is 0 (R71, R77). -/
theorem arbitrate_unclaimed {s : State} (hl : s.arbiter.linkClaim = false) (hc : s.arbiter.clearPending = false)
    (hg : s.arbiter.grant ≠ .link) :
    (arbitrate s).arbiter.linkClaim = false ∧ (arbitrate s).arbiter.linkWait = 0 ∧
      (arbitrate s).arbiter.grant ≠ .link := by
  have refreshed : (refreshClaims s).arbiter.linkWait = 0 := if_neg (by rw [hl]; decide)
  by_cases hn : s.arbiter.grant = .none
  · rw [arbitrate_none hn hc]
    obtain ⟨-, w⟩ | ⟨e, -⟩ | ⟨e, -⟩ | ⟨e, -⟩ := choose_cases s.link.stream.isSome (refreshClaims s).arbiter
    · exact absurd (hl.symm.trans w) (by decide)
    all_goals
      dsimp only
      rw [e]
      simp [Arbiter.grantSequencer, Arbiter.grantResolver, hl, hg, refreshed]
  · rw [arbitrate_busy s hn]
    exact ⟨hl, refreshed, hg⟩

/-! ### A claim that meets the grant of another -/

/-- Compile or restore holds the store: the command is answered BUSY (R74). -/
theorem hostCommand_busy {c : Command} {check : Option Byte} {s : State} (h : Taken c check s)
    (ha : accessOf c = .claim) (hg : s.arbiter.grant = .compileRestore) :
    hostCommand c check s = s.replied c .busy [] := by
  rw [hostCommand_taken h]
  simp only [decideCommand, ha, hg, if_true]
  rfl

/-- A frame in WAITING has its next position begun, as its sampling mode asks. -/
theorem beginWait_waits {c : Command} {l : Link} {s : State} (h : s.link = l.waits c) :
    beginWait s = { s with link := l.waiting c } := by
  obtain ⟨e, -, hm⟩ | ⟨e, hm⟩ := beginWait_cases s
  · rw [e]
    simp_all [Link.waiting, Link.waits]
  · rw [e]
    have high : l.lmode1 = true := by simpa [h, Link.waits] using hm
    have : l.waiting c = s.link := by rw [h, Link.waiting, high]; rfl
    rw [this]

/-- The resolver or the Sequencer has the store: the claim is placed and waits behind the grant (R69, R75). -/
theorem hostCommand_waits {c : Command} {check : Option Byte} {s : State} (h : Taken c check s)
    (ha : accessOf c = .claim) (hg : s.arbiter.grant = .resolver ∨ s.arbiter.grant = .sequencer) :
    ∃ a, a.grant = s.arbiter.grant ∧ a.linkClaim = true ∧
      hostCommand c check s = { s with link := s.link.waiting c, arbiter := a } := by
  have hcompile : s.arbiter.grant ≠ .compileRestore := by obtain hg | hg := hg <;> rw [hg] <;> decide
  have hnone : s.arbiter.grant ≠ .none := by obtain hg | hg := hg <;> rw [hg] <;> decide
  have hlink : s.arbiter.grant ≠ .link := by obtain hg | hg := hg <;> rw [hg] <;> decide
  let u : State := { s with link := s.link.waits c, arbiter.linkClaim := true }
  obtain ⟨hrest, hgrant, hclaim, -⟩ := arbitrate_granted (s := u) hnone
  have placed : hostCommand c check s = beginWait (finishLinkGrant (arbitrate u)) := by
    rw [hostCommand_taken h]
    simp only [decideCommand, ha, hcompile, if_false]
    rfl
  refine ⟨(arbitrate u).arbiter, hgrant, hclaim, ?_⟩
  rw [placed, finishLinkGrant_of_ne (by rw [hgrant]; exact hlink), beginWait_waits (l := s.link) (c := c) (by rw [hrest]),
    hrest]

theorem waiting_sdoByte (c : Command) {l : Link} {s : State} (h : s.link = l.waiting c) : s.sdoByte = some 0 := by
  unfold State.sdoByte
  rw [h]
  rfl

/-- Settles O12. -/
theorem claimsMeetTheGrant : Obligations.ClaimsMeetTheGrant := by
  refine ⟨fun c check s h ha hg => ?_, fun c check s h ha hg => ?_⟩
  · rw [exec_toInstr, hostCommand_busy h ha hg]
  · obtain ⟨a, hgrant, hclaim, e⟩ := hostCommand_waits h ha hg
    exact ⟨_, exec_toInstr .., by rw [e], waiting_sdoByte c (l := s.link) (by rw [e]), by rw [e]; exact hgrant,
      by rw [e]; exact hclaim⟩

end Sys2Proof.Machine
end

section
/-! SUPPORT. A frame runs until SEL rises (R177, R183): no command, no byte and no grant brings the Link Port to IDLE. -/

namespace Sys2Proof.Machine

/-! ### Commands that their grant answers -/

/-- The link `m` after a command of the link `l` has its answer: the frame is in STATUS, and beside the frame state only
the command in hand, the reply and the stream are written (R76, R177). -/
structure Link.Answered (l m : Link) : Prop where
  frame : m.frame = .status
  taken : m.taken = none
  rest : m = { l with frame := m.frame, taken := m.taken, reply := m.reply, stream := m.stream }

theorem answer_answered {l : Link} {s : State} (h : s.link = l) (st : Status) (data : List Byte) :
    l.Answered (answer st data s).link := by
  subst h
  exact ⟨rfl, rfl, rfl⟩

@[simp] theorem changeSwitch_answered (sw : Nat) (old new : SwitchRec) (s : State) :
    s.link.Answered (changeSwitch sw old new s).link := by
  unfold changeSwitch
  split <;> exact answer_answered (by simp) _ _

/-- A claim-taking command is answered within its grant, in the frame that waits for it (R76). -/
theorem carryOut_answered {c : Command} (ha : accessOf c = .claim) {s : State} (hf : s.link.frame = .waiting) :
    s.link.Answered (carryOut c s).link := by
  cases c <;> simp only [accessOf, reduceCtorEq] at ha <;> simp only [carryOut]
  case overrideSwitch sw action =>
    unfold grantOverrideSwitch
    repeat' split
    case h_1 => exact changeSwitch_answered ..
    all_goals exact answer_answered rfl _ _
  case retireSwitch sw =>
    unfold grantRetireSwitch
    repeat' split
    case h_1.isFalse => exact changeSwitch_answered ..
    all_goals exact answer_answered rfl _ _
  case readTable table first =>
    unfold grantReadTable
    split
    · split
      · exact answer_answered rfl _ _
      · rw [readRecord_eq]
        exact ⟨if_pos hf, rfl, by dsimp only; rw [if_pos hf, if_pos hf, if_pos hf]⟩
    · exact answer_answered rfl _ _
  all_goals
    simp only [grantDefineNode, grantDefineSwitch, grantBuildEnd, grantSetPolicy, grantLookupSwitch, grantLookupNode,
      grantLookupIsland, grantWalkSet, grantWalkMove, grantReadClock, grantSetPacing, grantSetEnd,
      grantSetEnd.leaveEndedForward, grantSetMark, grantSetStepSpan, grantArmBatch, grantDiscardBatch,
      grantDiscardBatch.discard, grantReadBatch, grantStart, grantPause, grantResume, grantStep, grantRestore,
      grantSetWatch, grantClearWatch, rewriteWatch, grantReadWatch, grantRefreshIndicators]
    repeat' split
    all_goals exact answer_answered (by first | rfl | simp) _ _

/-! ### A frame that runs -/

/-- A frame runs: the Link Port is not in IDLE. -/
def State.Framed (s : State) : Prop := s.link.frame ≠ .idle

namespace State.Framed

variable {s t : State}

theorem of_frame (f : FrameState) (h : t.link.frame = f) (hf : f ≠ .idle := by decide) : t.Framed := by
  unfold State.Framed
  rwa [h]

theorem congr (h : s.Framed) (e : t.link.frame = s.link.frame) : t.Framed := of_frame _ e h

theorem answer (s : State) (st : Status) (data : List Byte) : (Machine.answer st data s).Framed := of_frame .status rfl

theorem arbitrate (h : s.Framed) : (arbitrate s).Framed := by
  have cleared : (answerClear (clearModel (refreshClaims s))).Framed := by
    unfold answerClear
    split
    · exact answer _ _ _
    · exact h.congr (by rw [clearModel_link]; rfl)
  unfold Machine.arbitrate
  dsimp only
  split
  · split
    · exact cleared
    · exact h
  · exact h

theorem readRecord (h : s.Framed) (x : Stream) : (readRecord x s).Framed := by
  unfold Machine.readRecord pushRecord
  dsimp only
  split
  · exact of_frame .status rfl
  · exact h

theorem endUnit (h : s.Framed) : (endUnit s).Framed := arbitrate (s := releaseGrant s) h

/-- A command is answered, or leaves the frame as it is. -/
theorem carryOut (h : s.Framed) (c : Command) : (carryOut c s).Framed := by
  cases c <;> simp only [Machine.carryOut]
  case clearModel => exact arbitrate h
  case readTable table first =>
    unfold grantReadTable
    repeat' split
    case h_1.isFalse => exact State.Framed.readRecord (s := { s with link.taken := none, arbiter.linkClaim := true }) h _
    all_goals exact answer _ _ _
  case loadBatch letter tag =>
    unfold directLoadBatch acceptLoad refuseLoad
    split <;> exact of_frame .status rfl
  all_goals
    simp only [grantDefineNode, grantDefineSwitch, grantBuildEnd, grantSetPolicy, grantOverrideSwitch, grantRetireSwitch,
      changeSwitch, grantLookupSwitch, grantLookupNode, grantLookupIsland, grantWalkSet, grantWalkMove, grantReadClock,
      grantSetPacing, grantSetEnd, grantSetMark, grantSetStepSpan, grantArmBatch, grantDiscardBatch, grantReadBatch,
      grantStart, grantPause, grantResume, grantStep, grantRestore, directReadStatus, grantSetWatch, grantClearWatch,
      rewriteWatch, grantReadWatch, directReadEvents, directSetEventEnables, directSetInterruptLine, directReadInterrupt,
      directSetCueLine, directClearLineFlags, directReadCueLine, directSetIndicator, directReadIndicator,
      grantRefreshIndicators, directReadLines, directSetCheckMode]
    repeat' split
    all_goals exact of_frame .status rfl

theorem finishLinkGrant (h : s.Framed) : (finishLinkGrant s).Framed := by
  unfold Machine.finishLinkGrant
  repeat' split
  · exact arbitrate ((h.carryOut _).congr (by rw [endLinkGrant_link]))
  · exact h
  · exact h

theorem readAwaited (h : s.Framed) : (readAwaited s).Framed := by
  obtain e | ⟨x, -, -, -, -, e⟩ := readAwaited_cases s <;> rw [e]
  · exact h
  · exact (h.readRecord x).endUnit

theorem finishLink (h : s.Framed) : (finishLink s).Framed := h.finishLinkGrant.readAwaited

theorem beginWait (h : s.Framed) : (beginWait s).Framed := by
  obtain ⟨e, -⟩ | ⟨e, -⟩ := beginWait_cases s <;> rw [e] <;> exact h

theorem decideCommand (s : State) (c : Command) : (decideCommand c s).Framed := by
  have waits : ∀ a, State.Framed { s with link.frame := .waiting, link.taken := some c, arbiter := a } :=
    fun a => of_frame .waiting rfl
  unfold Machine.decideCommand placeClaim
  dsimp only
  split
  · exact (waits _).carryOut c
  · exact ((waits _).carryOut c).beginWait
  · split
    · exact answer _ _ _
    · exact (finishLinkGrant (arbitrate (waits _))).beginWait

theorem testCheck (s : State) (c : Command) (byte : Byte) : (testCheck c byte s).Framed := by
  unfold Machine.testCheck refuseCheck
  dsimp only
  repeat' split
  · exact decideCommand _ _
  · exact of_frame .status rfl
  · exact answer _ _ _

theorem endArguments (s : State) (c : Command) : (endArguments c s).Framed := by
  unfold Machine.endArguments
  split
  · exact of_frame .check rfl
  · exact decideCommand _ _

theorem commandByte (s : State) (code : Byte) : (commandByte code s).Framed := by
  unfold Machine.commandByte
  dsimp only
  repeat' split
  · exact answer _ _ _
  · exact endArguments _ _
  · exact of_frame .arguments rfl

theorem argumentByte (h : s.Framed) (byte : Byte) : (argumentByte byte s).Framed := by
  unfold Machine.argumentByte
  dsimp only
  split
  · exact endArguments _ _
  · exact h

theorem checkByte (h : s.Framed) (byte : Byte) : (checkByte byte s).Framed := by
  unfold Machine.checkByte
  split
  · exact testCheck _ _ _
  · exact h

theorem endReply (s : State) : (endReply s).Framed := by
  unfold Machine.endReply
  repeat' split
  · exact of_frame .status rfl
  · exact of_frame .waiting rfl
  · exact of_frame .trailing rfl

theorem sendStatus (s : State) : (sendStatus s).Framed := by
  obtain ⟨u, -, h⟩ := sendStatus_cases s
  obtain ⟨-, e⟩ | ⟨-, -, e⟩ | ⟨-, -, -, e⟩ | ⟨-, -, -, e⟩ := h <;> rw [e]
  · exact of_frame .entries rfl
  · exact of_frame .refusedLoad rfl
  · exact endReply u
  · exact of_frame .reply rfl

theorem endStatus (h : s.Framed) : (endStatus s).Framed := by
  unfold Machine.endStatus
  split
  · exact h
  · exact sendStatus s

theorem sendReply (h : s.Framed) : (sendReply s).Framed := by
  unfold Machine.sendReply
  dsimp only
  split
  · exact endReply _
  · exact h

theorem gatherByte (h : s.Framed) (byte : Byte) : (gatherByte byte s).Framed := by
  refine h.congr ?_
  unfold Machine.gatherByte
  repeat' split
  all_goals simp

theorem hostByte (h : s.Framed) (byte : Byte) : (hostByte s byte).Framed := by
  unfold Machine.hostByte
  split
  · exact h
  · exact commandByte _ _
  · exact h.argumentByte byte
  · exact h.checkByte byte
  · exact h.beginWait
  · exact h.endStatus.readAwaited.beginWait
  · exact h.sendReply.readAwaited.beginWait
  · exact h.gatherByte byte
  · exact h
  · exact h

theorem hostBytes (h : s.Framed) (bytes : List Byte) : (hostBytes bytes s).Framed := by
  unfold Machine.hostBytes
  induction bytes generalizing s with
  | nil => exact h
  | cons b l ih => exact ih (h.hostByte b)

end State.Framed

end Sys2Proof.Machine
end

section
/-! PROOFS. SEL (O6, O7): the start and the end of a frame (R177, R183), a command that the release finds granted and one
that it finds undecided (R77). -/

namespace Sys2Proof.Machine

/-! ### The end of a frame -/

/-- A frame ends with the load and the capture settled: the link is as between frames, and no claim, CLEAR MODEL or
grant of the link is left (R77, R183). -/
def State.withdrawn (s : State) : State :=
  { s with
    link := s.link.ended
    arbiter :=
      { s.arbiter with
        linkClaim := false
        clearPending := false
        grant := if s.arbiter.grant = .link then .none else s.arbiter.grant } }

theorem endFrame_framed {s : State} (h : s.Framed) :
    endFrame s = arbitrate (putBackCapture (endLoad s)).withdrawn := by
  rw [endFrame, if_neg h]
  rfl

theorem withdrawn_grant_ne_link (s : State) : s.withdrawn.arbiter.grant ≠ .link := by
  unfold State.withdrawn
  dsimp only
  split
  · decide
  · assumption

/-- The arbitration that ends a frame writes the arbiter, and gives the link no grant. -/
theorem arbitrate_withdrawn (s : State) :
    ∃ a, arbitrate s.withdrawn = { s with link := s.link.ended, arbiter := a } ∧ a.linkClaim = false ∧ a.linkWait = 0 ∧
      a.clearPending = false ∧ a.grant ≠ .link ∧
      (s.arbiter.grant ≠ .none → s.arbiter.grant ≠ .link → a.grant = s.arbiter.grant) := by
  obtain ⟨hclaim, hwait, hgrant⟩ := arbitrate_unclaimed (s := s.withdrawn) rfl rfl (withdrawn_grant_ne_link s)
  refine ⟨(arbitrate s.withdrawn).arbiter, arbitrate_eq _ rfl, hclaim, hwait, arbitrate_clearPending _ rfl, hgrant,
    fun hn hl => ?_⟩
  have goesOn : s.withdrawn.arbiter.grant = s.arbiter.grant := if_neg hl
  obtain ⟨-, kept, -⟩ := arbitrate_granted (s := s.withdrawn) (by rwa [goesOn])
  exact kept.trans goesOn

/-- With no load and no capture in hand the end of a frame writes the link and the arbiter alone. -/
theorem endFrame_bare {s : State} (h : s.Framed) (hl : s.link.load = none) (hc : s.link.captured = none) :
    endFrame s = arbitrate s.withdrawn := by
  have load : endLoad s = s := by rw [endLoad, hl]
  have capture : putBackCapture s = s := by rw [putBackCapture, hc]
  rw [endFrame_framed h, load, capture]

/-! ### Bytes before the release -/

/-- Clock edges while no frame runs are not taken (R175). -/
theorem hostBytes_idle {s : State} (h : s.link.frame = .idle) (bytes : List Byte) : hostBytes bytes s = s := by
  unfold hostBytes
  induction bytes with
  | nil => rfl
  | cons b l ih =>
    rw [List.foldl_cons, hostByte, h]
    exact ih

/-- A frame that waits behind a grant sends wait bytes, whatever the host clocks (R75). -/
theorem hostBytes_waiting {s : State} (h : s.link.frame = .waiting) (bytes : List Byte) :
    ∃ b, hostBytes bytes s = { s with link.waitBegun := b } := by
  unfold hostBytes
  induction bytes generalizing s with
  | nil => exact ⟨s.link.waitBegun, rfl⟩
  | cons byte l ih =>
    have position : ∃ b, hostByte s byte = { s with link.waitBegun := b } := by
      rw [hostByte, h]
      obtain ⟨e, -⟩ | ⟨e, -⟩ := beginWait_cases s
      · exact ⟨true, e⟩
      · exact ⟨s.link.waitBegun, e⟩
    obtain ⟨b, e⟩ := position
    rw [List.foldl_cons, e]
    exact ih h

/-! ### The obligations -/

/-- A granted command that the release finds is carried out, and the frame ends as if it had been before (R77). -/
theorem finishLink_granted {c : Command} {s : State} (ha : accessOf c = .claim) (hf : s.link.frame = .waiting)
    (hg : s.arbiter.grant = .link) (ht : s.link.taken = some c) :
    s.link.Answered (finishLinkGrant s).link ∧ finishLink s = finishLinkGrant s ∧
      finishLink (finishLinkGrant s) = finishLinkGrant s := by
  have answered : s.link.Answered (finishLinkGrant s).link := by
    have carried : (endLinkGrant (carryOut c s)).link = (carryOut c s).link := endLinkGrant_link _
    have h := carryOut_answered ha hf
    rw [finishLinkGrant, if_pos hg, ht]
    dsimp only
    rwa [arbitrate_link (by rw [carried, h.taken]; nofun), carried]
  have still : readAwaited (finishLinkGrant s) = finishLinkGrant s := readAwaited_of_ne (by rw [answered.frame]; decide)
  refine ⟨answered, still, ?_⟩
  rw [finishLink, finishLinkGrant_of_none answered.taken, still]

/-- Settles O6. -/
theorem selectOpensAndEndsFrames : Obligations.SelectOpensAndEndsFrames := by
  refine ⟨fun s => rfl, fun clocked s hf hg => ?_, fun c clocked s u ha hf hg ht hl hc hu => ?_, fun clocked s hf => ?_⟩
  · show Host.Outcome.next (endFrame (hostBytes clocked (finishLink s))) = _
    rw [finishLink_of_ne hg, hostBytes_idle hf, endFrame, if_pos hf]
  · obtain rfl : u = finishLinkGrant s := hu.trans (finishLinkGrant_carriesOut hg ht).symm
    obtain ⟨answered, finished, still⟩ := finishLink_granted ha hf hg ht
    have load : (finishLinkGrant s).link.load = none := by rw [answered.rest]; exact hl
    have captured : (finishLinkGrant s).link.captured = none := by rw [answered.rest]; exact hc
    have framed : (finishLinkGrant s).Framed := .of_frame .status answered.frame
    obtain ⟨a, e, -⟩ := arbitrate_withdrawn (finishLinkGrant s)
    refine ⟨answered.taken, answered.frame, ?_, _, rfl, ?_⟩
    · show Host.Outcome.next (endFrame (hostBytes clocked (finishLink s))) =
        .next (endFrame (hostBytes clocked (finishLink (finishLinkGrant s))))
      rw [still, finished]
    · show endFrame (finishLink s) =
        { finishLinkGrant s with link := (endFrame (finishLink s)).link, arbiter := (endFrame (finishLink s)).arbiter }
      rw [finished, endFrame_bare framed load captured, e]
  · have framed : (hostBytes clocked (finishLink s)).Framed := .hostBytes (.finishLink hf) clocked
    have e := endFrame_framed framed
    generalize hv : putBackCapture (endLoad (hostBytes clocked (finishLink s))) = v at e
    have link : v.link = (hostBytes clocked (finishLink s)).link := by rw [← hv, putBackCapture_link, endLoad_link]
    obtain ⟨a, ea, hclaim, hwait, -, hgrant, -⟩ := arbitrate_withdrawn v
    refine ⟨_, congrArg Host.Outcome.next (e.trans ea), rfl, rfl, rfl, rfl, rfl, rfl, rfl, rfl, rfl, rfl, ?_, hclaim, hwait,
      hgrant, rfl⟩
    rw [← link]
    rfl

/-- Settles O7. -/
theorem undecidedCommandIsNotCarriedOut : Obligations.UndecidedCommandIsNotCarriedOut := by
  intro clocked s hs hl hc
  have undecided : s.arbiter.grant ≠ .link ∧ s.Framed ∧ ∃ b, hostBytes clocked s = { s with link.waitBegun := b } := by
    obtain ⟨hf, hg⟩ | ⟨rfl, hf, hg⟩ := hs
    · exact ⟨by obtain hg | hg := hg <;> rw [hg] <;> decide, .of_frame .waiting hf, hostBytes_waiting hf clocked⟩
    · refine ⟨hg, ?_, s.link.waitBegun, rfl⟩
      obtain hf | hf | hf := hf
      · exact .of_frame .command hf
      · exact .of_frame .arguments hf
      · exact .of_frame .check hf
  obtain ⟨hg, framed, b, clockedOut⟩ := undecided
  have released : selRelease clocked s = arbitrate (State.withdrawn { s with link.waitBegun := b }) := by
    rw [selRelease, finishLink_of_ne hg, clockedOut, endFrame_bare (s := { s with link.waitBegun := b }) framed hl hc]
  obtain ⟨a, e, hclaim, hwait, hclear, -, hkept⟩ := arbitrate_withdrawn { s with link.waitBegun := b }
  exact ⟨_, congrArg Host.Outcome.next (released.trans e), rfl, hclaim, hwait, hclear, fun hn => hkept hn hg⟩

end Sys2Proof.Machine
end

section
/-! PROOFS. The Store Arbiter (O13): the Sequencer's claim (R111), the choice on a free store (R70 to R72), the units of
work that end with it, and a CLEAR MODEL that waits for a grant to end (R79). -/

namespace Sys2Proof.Machine

/-! ### The claim of the Sequencer (R111) -/

/-- With at most one ACTIVE buffer the head entry is the entry at its next-entry index (R98, R108). -/
theorem Sequencer.head_iff {q : Sequencer} (h : ¬(q.bufferA.state = .active ∧ q.bufferB.state = .active))
    (n : BufferName) (e : BitVec 64) :
    q.head = some (n, e) ↔ (q.buffer n).state = .active ∧ (q.buffer n).entries[(q.buffer n).index]? = some e := by
  refine ⟨Sequencer.of_head, fun ⟨ha, he⟩ => ?_⟩
  have name : q.activeName = some n := by
    unfold Sequencer.activeName
    cases n with
    | a => exact if_pos ha
    | b => rw [if_neg fun hA => h ⟨hA, ha⟩, if_pos (show q.bufferB.state = .active from ha)]
  rw [Sequencer.head, name]
  simp [he]

theorem Clock.reached_iff (c : Clock) (t : Nat) :
    c.reached t = true ↔ c.direction = .forward ∧ t ≤ c.time ∨ c.direction = .reverse ∧ c.time ≤ t := by
  unfold Clock.reached
  cases c.direction <;> simp

theorem State.sequencerReady_of_head {s : State} {n : BufferName} {e : BitVec 64} (h : s.sequencer.head = some (n, e)) :
    s.sequencerReady =
      (s.run.state.appliesEntries && !s.clock.backlog && !s.sequencer.cueStop && s.clock.reached (entryTime e)) := by
  rw [State.sequencerReady, h]

theorem State.sequencerReady_of_none {s : State} (h : s.sequencer.head = none) : s.sequencerReady = false := by
  rw [State.sequencerReady, h, Bool.and_false]

theorem State.sequencerReady_iff {s : State}
    (h : ¬(s.sequencer.bufferA.state = .active ∧ s.sequencer.bufferB.state = .active)) :
    s.sequencerReady = true ↔
      (s.run.state = .running ∨ s.run.state = .stepping ∨ s.run.state = .ended) ∧
      (∃ n e, (s.sequencer.buffer n).state = .active ∧
        (s.sequencer.buffer n).entries[(s.sequencer.buffer n).index]? = some e ∧
        (s.clock.direction = .forward ∧ entryTime e ≤ s.clock.time ∨
          s.clock.direction = .reverse ∧ s.clock.time ≤ entryTime e)) ∧
      s.clock.backlog = false ∧ s.sequencer.cueStop = false := by
  have head := Sequencer.head_iff h
  constructor
  · intro hr
    cases hh : s.sequencer.head with
    | none => rw [State.sequencerReady_of_none hh] at hr; cases hr
    | some p =>
      obtain ⟨n, e⟩ := p
      obtain ⟨ha, he⟩ := (head n e).1 hh
      rw [State.sequencerReady_of_head hh] at hr
      simp only [Bool.and_eq_true, Bool.not_eq_true', RunState.appliesEntries_iff, Clock.reached_iff] at hr
      obtain ⟨⟨⟨run, backlog⟩, stop⟩, reached⟩ := hr
      exact ⟨run, ⟨n, e, ha, he, reached⟩, backlog, stop⟩
  · rintro ⟨run, ⟨n, e, ha, he, reached⟩, backlog, stop⟩
    rw [State.sequencerReady_of_head ((head n e).2 ⟨ha, he⟩)]
    simp only [Bool.and_eq_true, Bool.not_eq_true', RunState.appliesEntries_iff, Clock.reached_iff]
    exact ⟨⟨⟨run, backlog⟩, stop⟩, reached⟩

/-! ### The choice on a free store (R70 to R72) -/

/-- The choice, branch by branch, on claims each of whose counts is 0 while it does not wait. -/
theorem Arbiter.choose_eq {a : Arbiter} (hl : a.linkClaim = false → a.linkWait = 0)
    (hq : a.sequencerClaim = false → a.sequencerWait = 0) (streaming : Bool) :
    a.choose streaming =
      if a.linkWait = 16 ∧ a.linkClaim = true then
        { a with grant := .link, linkWait := 0, linkClaim := streaming }
      else if a.sequencerWait = 4 ∧ a.sequencerClaim = true then
        { a with
          grant := .sequencer, linkWait := if a.linkClaim then a.linkWait + 1 else 0, sequencerWait := 0,
          sequencerClaim := false }
      else if a.resolverClaim = true then
        { a with
          grant := .resolver, linkWait := if a.linkClaim then a.linkWait + 1 else 0,
          sequencerWait := if a.sequencerClaim then a.sequencerWait + 1 else 0, resolverClaim := false }
      else if a.sequencerClaim = true then
        { a with
          grant := .sequencer, linkWait := if a.linkClaim then a.linkWait + 1 else 0, sequencerWait := 0,
          resolverClaim := false, sequencerClaim := false }
      else if a.linkClaim = true then
        { a with
          grant := .link, linkWait := 0, sequencerWait := 0, resolverClaim := false, sequencerClaim := false,
          linkClaim := streaming }
      else { a with linkWait := 0, sequencerWait := 0, resolverClaim := false, sequencerClaim := false } := by
  unfold Arbiter.choose
  by_cases h1 : a.linkWait = Config.linkTurn ∧ a.linkClaim = true
  · rw [if_pos h1, if_pos (show a.linkWait = 16 ∧ _ from h1)]
    rfl
  rw [if_neg h1, if_neg (show ¬(a.linkWait = 16 ∧ _) from h1)]
  by_cases h2 : a.sequencerWait = Config.sequencerTurn ∧ a.sequencerClaim = true
  · rw [if_pos h2, if_pos (show a.sequencerWait = 4 ∧ _ from h2)]
    rfl
  rw [if_neg h2, if_neg (show ¬(a.sequencerWait = 4 ∧ _) from h2)]
  by_cases h3 : a.resolverClaim = true
  · rw [if_pos h3, if_pos h3]
    rfl
  rw [if_neg h3, if_neg h3]
  have noResolver : a.resolverClaim = false := Bool.eq_false_iff.2 h3
  by_cases h4 : a.sequencerClaim = true
  · rw [if_pos h4, if_pos h4, Arbiter.grantSequencer]
    simp only [noResolver]
  rw [if_neg h4, if_neg h4]
  have noSequencer : a.sequencerClaim = false := Bool.eq_false_iff.2 h4
  by_cases h5 : a.linkClaim = true
  · rw [if_pos h5, if_pos h5, Arbiter.grantLink]
    simp only [noResolver, noSequencer, hq noSequencer]
  · rw [if_neg h5, if_neg h5]
    have noLink : a.linkClaim = false := Bool.eq_false_iff.2 h5
    obtain ⟨grant, linkWait, sequencerWait, resolverClaim, sequencerClaim, linkClaim, clearPending⟩ := a
    simp_all

/-- A free store with no CLEAR MODEL waiting: the claims as the claimants have them meet one choice. -/
theorem arbitrate_chooses {s : State} (hg : s.arbiter.grant = .none) (hc : s.arbiter.clearPending = false) :
    arbitrate s =
      { s with
        arbiter := Arbiter.choose s.link.stream.isSome
          { s.arbiter with
            resolverClaim := s.resolver.current.isSome
            sequencerClaim := s.sequencerReady
            sequencerWait := if s.sequencerReady then s.arbiter.sequencerWait else 0
            linkWait := if s.arbiter.linkClaim then s.arbiter.linkWait else 0 } } := by
  rw [arbitrate_none hg hc]
  simp [refreshClaims, hg]

/-! ### Units of work -/

/-- A claim of the resolver is not due, or has its effect on the tables and the jobs and ends its grant; the link and the
arbiter stand in between (R46). -/
theorem exec_resolverClaim {i : Instr} {s : State} (hg : s.arbiter.grant = .resolver)
    (hi : i ∈ [Instr.mergeGuard, .mergeRelabel, .splitGuard, .splitVisit, .splitRelabel, .sourceJob]) :
    exec i s = .next s ∨
      ∃ u, UnitAct s u ∧ u.link = s.link ∧ u.arbiter = s.arbiter ∧ exec i s = .next (endUnit u) := by
  have work : ∀ unit : JobInProgress → Option (State → State),
      (∀ (j : JobInProgress) (effect : State → State), unit j = some effect → s.resolver.current.isSome = true →
        UnitAct s (effect s) ∧ (effect s).link = s.link ∧ (effect s).arbiter = s.arbiter) →
      engineStep (resolverWork unit) s = .next s ∨
        ∃ u, UnitAct s u ∧ u.link = s.link ∧ u.arbiter = s.arbiter ∧
          engineStep (resolverWork unit) s = .next (endUnit u) := by
    intro unit hu
    rw [engineStep, finishLinkGrant_of_ne (by rw [hg]; decide), resolverWork, if_pos hg]
    cases hw : s.resolver.current.bind unit with
    | none => exact .inl rfl
    | some effect =>
      obtain ⟨j, hj, he⟩ := Option.bind_eq_some_iff.1 hw
      obtain ⟨act, link, arbiter⟩ := hu j effect he (by rw [hj]; rfl)
      exact .inr ⟨effect s, act, link, arbiter, rfl⟩
  simp only [List.mem_cons, List.not_mem_nil, or_false] at hi
  obtain rfl | rfl | rfl | rfl | rfl | rfl := hi <;> refine work _ fun j effect he hj => ?_ <;> split at he <;> cases he
  · exact ⟨mergeGuard_unit .., mergeGuard_link .., mergeGuard_arbiter ..⟩
  · exact ⟨mergeRelabel_unit _ _ hj, mergeRelabel_link .., mergeRelabel_arbiter ..⟩
  · exact ⟨splitGuard_unit .., splitGuard_link .., splitGuard_arbiter ..⟩
  · exact ⟨splitTurn_unit .., splitTurn_link .., splitTurn_arbiter ..⟩
  · exact ⟨splitRelabel_unit _ _ hj, splitRelabel_link .., splitRelabel_arbiter ..⟩
  · exact ⟨sourceJob_unit _ _ _ _ hj, sourceJob_link .., sourceJob_arbiter ..⟩

theorem serveEntry_linkClaim (n : BufferName) (e : BitVec 64) (s : State) :
    (serveEntry n e s).arbiter.linkClaim = s.arbiter.linkClaim ∧
      (serveEntry n e s).arbiter.linkWait = s.arbiter.linkWait := by
  obtain h | h := serveEntry_arbiter n e s
  · rw [h]
    exact ⟨rfl, rfl⟩
  · rw [h]
    exact ⟨rfl, rfl⟩

/-- A Sequencer grant serves the head entry, if there is one, and ends (R112). -/
theorem exec_sequencerGrant {s : State} (hg : s.arbiter.grant = .sequencer) :
    exec .applyEntry s = .next ((s.sequencer.head.map fun p => endUnit (serveEntry p.1 p.2 s)).getD s) := by
  show engineStep sequencerWork s = _
  rw [engineStep, finishLinkGrant_of_ne (by rw [hg]; decide), sequencerWork, if_pos hg]

/-! ### CLEAR MODEL -/

/-- CLEAR MODEL behind the grant of another waits for its end (R79). -/
theorem hostCommand_clearModel_waits {check : Option Byte} {s : State} (h : Taken .clearModel check s)
    (hn : s.arbiter.grant ≠ .none) (hr : s.arbiter.grant ≠ .compileRestore) :
    ∃ a, a.grant = s.arbiter.grant ∧ a.clearPending = true ∧
      hostCommand .clearModel check s = { s with link := s.link.waiting .clearModel, arbiter := a } := by
  let u : State := { s with link := s.link.waits .clearModel, arbiter.clearPending := true }
  obtain ⟨hrest, hgrant, -, hclear⟩ := arbitrate_granted (s := u) hn
  have access : accessOf .clearModel = .clear := rfl
  have decided : hostCommand .clearModel check s = beginWait (arbitrate u) := by
    rw [hostCommand_taken h]
    simp only [decideCommand, access, carryOut, takeClear, if_neg hr]
    rfl
  refine ⟨(arbitrate u).arbiter, hgrant, hclear, ?_⟩
  rw [decided, beginWait_waits (l := s.link) (c := .clearModel) (by rw [hrest]), hrest]

/-- The part that a CLEAR MODEL has emptied, with OK in its frame (R16 to R18, R79). -/
structure State.Emptied (reply : List Byte) (t : State) : Prop where
  run : t.run.state = .build
  nodes : t.store.nodes = []
  switches : t.store.switches = []
  islands : ∀ k, t.store.island k = none
  queue : t.resolver.queue = []
  current : t.resolver.current = none
  sequencer : t.sequencer = .cleared
  arbiter : t.arbiter = .free
  frame : t.link.frame = .status
  taken : t.link.taken = none
  reply : t.link.reply = reply

/-- The unit of work that a CLEAR MODEL waits behind ends, and the CLEAR MODEL acts before any other grant (R79). -/
theorem endUnit_clears {u : State} (hs : u.store.canonical = true) (hc : u.arbiter.clearPending = true)
    (ht : u.link.taken = some .clearModel) : (endUnit u).Emptied (replyBytes u.link.frameCheck .ok []) := by
  have acts : endUnit u = answer .ok [] (clearModel (releaseGrant u)) := arbitrate_clear rfl hc ht
  rw [acts, Evaluates.rest (clearModel_hands (releaseGrant u))]
  exact ⟨rfl, rfl, rfl, Store.cleared_island hs, rfl, rfl, rfl, rfl, rfl, rfl, rfl⟩

/-! ### The obligation -/

/-- Settles O13. -/
theorem arbiterChoosesTheNextGrant : Obligations.ArbiterChoosesTheNextGrant := by
  refine ⟨fun s h => ⟨State.sequencerReady_iff h, Sequencer.head_iff h⟩,
    fun s res seq lw sw hg hc hres hseq hlw hsw => ?_, fun s hg => ?_, fun i s ⟨hg, hi⟩ => ?_,
    fun n e s hg hh => ?_, fun check s h hg => ?_, fun i s hs hc ht hi => ?_⟩
  · have wait : sw = if s.sequencerReady then s.arbiter.sequencerWait else 0 := by simp [hsw, hg, hseq]
    subst hres hseq hlw wait
    rw [arbitrate_chooses hg hc, Arbiter.choose_eq]
    · exact fun hl => if_neg fun ht => Bool.false_ne_true (hl.symm.trans ht)
    · exact fun hq => if_neg fun ht => Bool.false_ne_true (hq.symm.trans ht)
  · refine ⟨_, arbitrate_busy s hg, rfl, rfl, rfl, rfl, rfl, rfl, ?_, ?_⟩
    · simp [refreshClaims, Option.isSome_iff_ne_none, and_assoc]
    · simp [refreshClaims, and_assoc]
  · obtain e | ⟨u, -, -, harb, e⟩ := exec_resolverClaim hg hi
    · exact .inl e
    · exact .inr ⟨releaseGrant u, by rw [← harb]; rfl, e⟩
  · refine ⟨releaseGrant (serveEntry n e s), rfl, ?_, ?_, serveEntry_clearPending n e s, ?_⟩
    · exact (serveEntry_linkClaim n e s).1
    · exact (serveEntry_linkClaim n e s).2
    · rw [exec_sequencerGrant hg, hh]
      rfl
  · obtain ⟨a, hgrant, hclear, e⟩ := hostCommand_clearModel_waits h (by obtain hg | hg | hg := hg <;> rw [hg] <;> decide)
      (by obtain hg | hg | hg := hg <;> rw [hg] <;> decide)
    exact ⟨_, exec_toInstr .clearModel check s, by rw [e], waiting_sdoByte .clearModel (l := s.link) (by rw [e]),
      by rw [e]; exact hgrant, by rw [e]; exact hclear⟩
  · obtain ⟨hg, hi⟩ | ⟨hg, rfl⟩ := hi
    · obtain e | ⟨u, act, hlink, harb, e⟩ := exec_resolverClaim hg hi
      · exact ⟨s, e, .inl ⟨rfl, by rintro rfl; simp at hi⟩⟩
      · obtain ⟨run, nodes, switches, islands, queue, current, sequencer, arbiter, frame, taken, reply⟩ :=
          endUnit_clears (act.canonical hs) (by rw [harb]; exact hc) (by rw [hlink]; exact ht)
        exact ⟨_, e, .inr (.inr ⟨run, nodes, switches, islands, queue, current, sequencer, arbiter, frame, taken,
          by rw [reply, hlink]⟩)⟩
    · refine ⟨_, exec_sequencerGrant hg, ?_⟩
      cases hh : s.sequencer.head with
      | none => exact .inr (.inl ⟨rfl, rfl⟩)
      | some p =>
        obtain ⟨run, nodes, switches, islands, queue, current, sequencer, arbiter, frame, taken, reply⟩ :=
          endUnit_clears (u := serveEntry p.1 p.2 s) ((serveEntry_act p.1 p.2 s).canonical hs)
            (by rw [serveEntry_clearPending]; exact hc) (by rw [serveEntry_link]; exact ht)
        exact .inr (.inr ⟨run, nodes, switches, islands, queue, current, sequencer, arbiter, frame, taken,
          by rw [Option.map_some, Option.getD_some, reply, serveEntry_link]⟩)

end Sys2Proof.Machine
end

section
/-! PROOFS. The sample event (O53) (R70, R111, R127, R134, R162, R163, R164): what a line's sample writes, what a line's
edge does after it, and that the writes of the lines come before the edges, for no edge reads what a sample writes. -/

namespace Sys2Proof.Machine

/-! ### The lines -/

theorem CueLine.asserted_eq (c : CueLine) : c.asserted = (c.taken == some (c.edge == .rising)) := by
  unfold CueLine.asserted
  cases c.edge <;> rfl

theorem CueLine.assertsAt_eq (c : CueLine) (level : Bool) : c.assertsAt level =
    (c.taken.isSome && c.taken != some (c.edge == .rising) &&
      (if c.lastSample = some level then some level else c.taken) == some (c.edge == .rising)) := by
  rw [CueLine.assertsAt, CueLine.asserted_eq, CueLine.asserted_eq]
  rfl

/-- The HOLD condition reads of a line its function and its level alone. -/
theorem holdCondition_set {p : Panel} {n : Fin 8} {c d : CueLine} (hf : c.function = d.function)
    (ha : c.asserted = d.asserted) :
    Panel.holdCondition { p with cues := p.cues.set n.val c n.isLt } =
      Panel.holdCondition { p with cues := p.cues.set n.val d n.isLt } := by
  have same : ∀ c : CueLine, (p.cues.set n.val c n.isLt).toList.any (fun c => decide (c.function = .hold) && c.asserted) =
      ((p.cues.toList.map fun c => decide (c.function = .hold) && c.asserted).set n.val
        (decide (c.function = .hold) && c.asserted)).any id := by
    intro c
    rw [Vector.toList_set, ← List.map_set, List.any_map]
    rfl
  rw [Panel.holdCondition, Panel.holdCondition, same, same, hf, ha]

/-- A line after its sample: a level that two consecutive samples agree on is taken, an asserting edge sets the flag. -/
def CueLine.after (level : Bool) (c : CueLine) : CueLine :=
  { c.sampled level with flag := c.flag || c.assertsAt level }

/-- The event flags that a line's sample raises: CUE_LINE, on an asserting edge with the line's interrupt enable on. -/
def CueLine.raises (level : Bool) (c : CueLine) : BitVec 19 :=
  if c.assertsAt level && c.intEnable then 1#19 <<< Event.cueLine.bit else 0#19

/-! ### What a sample writes, and what an edge does -/

/-- The writes of a sample: the lines, the HOLD condition that they form, and flags. -/
def State.sampledAs (cues : Vector CueLine 8) (mask : BitVec 19) (s : State) : State :=
  refreshHold { s with panel.cues := cues, watch.flags := mask ||| s.watch.flags }

/-- The sample of line `n` without the function of its edge. -/
def State.lineSampled (levels : Byte) (s : State) (n : Fin 8) : State :=
  s.sampledAs (s.panel.cues.set n.val ((s.panel.cues.get n).after (levels.getLsbD n.val)) n.isLt)
    ((s.panel.cues.get n).raises (levels.getLsbD n.val))

/-- The function of an edge reaches the Run Controller, and the arbiter chooses (R70, R111, R127, R134). -/
def State.edgeTaken (f : CueFunction) (s : State) : State := arbitrate (takeFunction f s)

theorem CueLine.after_still {level : Bool} {c : CueLine} (h : c.assertsAt level = false) :
    c.after level = c.sampled level ∧ c.raises level = 0#19 := by
  simp [CueLine.after, CueLine.raises, CueLine.sampled, h]

theorem CueLine.after_edge {level : Bool} {c : CueLine} (h : c.assertsAt level = true) :
    c.after level = { c.sampled level with flag := true } ∧
      c.raises level = if c.intEnable then 1#19 <<< Event.cueLine.bit else 0#19 := by
  simp [CueLine.after, CueLine.raises, h]

/-- The flag of a line is written after the HOLD condition is formed, which does not read it. -/
theorem setCue_flag (n : Fin 8) (c : CueLine) (s : State) :
    setCue n { (refreshHold (setCue n c s)).panel.cues.get n with flag := true } (refreshHold (setCue n c s)) =
      refreshHold (setCue n { c with flag := true } s) := by
  have get : (refreshHold (setCue n c s)).panel.cues.get n = c := Vector.getElem_set_self ..
  have hold : (setCue n c s).panel.holdCondition = (setCue n { c with flag := true } s).panel.holdCondition :=
    holdCondition_set rfl rfl
  rw [get, refreshHold, hold]
  simp [setCue, refreshHold]

theorem sampledAs_unflagged (n : Fin 8) (c : CueLine) (s : State) :
    s.sampledAs (s.panel.cues.set n.val c n.isLt) 0#19 = refreshHold (setCue n c s) := by
  rw [State.sampledAs, BitVec.zero_or]
  rfl

theorem sampledAs_flagged (n : Fin 8) (c : CueLine) (e : Event) (s : State) :
    s.sampledAs (s.panel.cues.set n.val c n.isLt) (1#19 <<< e.bit) = raise e (refreshHold (setCue n c s)) := by
  rw [State.sampledAs, BitVec.or_comm]
  rfl

/-- A line's sample is its writes, and on an asserting edge its function after them. -/
theorem sampleLine_eq (levels : Byte) (s : State) (n : Fin 8) :
    sampleLine levels s n =
      if (s.panel.cues.get n).assertsAt (levels.getLsbD n.val) then
        (s.lineSampled levels n).edgeTaken (s.panel.cues.get n).function
      else s.lineSampled levels n := by
  unfold sampleLine State.lineSampled
  dsimp only
  generalize s.panel.cues.get n = c, levels.getLsbD n.val = level
  cases he : c.assertsAt level
  · obtain ⟨line, flags⟩ := CueLine.after_still he
    rw [line, flags, sampledAs_unflagged]
    rfl
  · obtain ⟨line, flags⟩ := CueLine.after_edge he
    have get : (refreshHold (setCue n (c.sampled level) s)).panel.cues.get n = c.sampled level :=
      Vector.getElem_set_self ..
    have raised : (if c.intEnable then raise .cueLine (refreshHold (setCue n { c.sampled level with flag := true } s))
        else refreshHold (setCue n { c.sampled level with flag := true } s)) =
        s.sampledAs (s.panel.cues.set n.val (c.after level) n.isLt) (c.raises level) := by
      rw [line, flags]
      cases c.intEnable
      · exact (sampledAs_unflagged ..).symm
      · exact (sampledAs_flagged ..).symm
    rw [if_pos rfl, if_pos rfl, assertingEdge, setCue_flag, get, State.edgeTaken, ← raised]
    rfl

/-! ### No edge reads what a sample writes -/

section
variable (cues : Vector CueLine 8) (mask : BitVec 19)

theorem sampledAs_setBuffer (n : BufferName) (b : Buffer) (s : State) :
    setBuffer n b (s.sampledAs cues mask) = (setBuffer n b s).sampledAs cues mask := by
  cases n <;> rfl

theorem sampledAs_raise (e : Event) (s : State) :
    raise e (s.sampledAs cues mask) = (raise e s).sampledAs cues mask := by
  simp [raise, State.sampledAs, refreshHold, BitVec.or_assoc]

theorem sampledAs_activateFrom (l : List BufferName) (s : State) :
    activateFrom l (s.sampledAs cues mask) = (activateFrom l s).sampledAs cues mask := by
  induction l generalizing s with
  | nil => rfl
  | cons n rest ih =>
    let u : State := { s with sequencer.armOrder := rest }
    show (if (u.sequencer.buffer n).tag = some u.clock.direction then
        setBuffer n { u.sequencer.buffer n with state := .active, index := 0 } (u.sampledAs cues mask)
      else activateFrom rest (rejectBuffer n (u.sampledAs cues mask))) = State.sampledAs cues mask
        (if (u.sequencer.buffer n).tag = some u.clock.direction then
          setBuffer n { u.sequencer.buffer n with state := .active, index := 0 } u
        else activateFrom rest (rejectBuffer n u))
    split
    · exact sampledAs_setBuffer ..
    · rw [rejectBuffer, sampledAs_setBuffer, sampledAs_raise, ih]
      rfl

theorem sampledAs_activate (s : State) : activate (s.sampledAs cues mask) = (activate s).sampledAs cues mask := by
  show (if s.run.state.appliesEntries && !s.sequencer.anyBuffer .active then
      activateFrom s.sequencer.armOrder (s.sampledAs cues mask) else s.sampledAs cues mask) = _
  unfold activate
  split
  · exact sampledAs_activateFrom ..
  · rfl

theorem sampledAs_testStarve (s : State) : testStarve (s.sampledAs cues mask) = (testStarve s).sampledAs cues mask := by
  show (if s.run.state.moves && !s.sequencer.anyBuffer .active && !s.sequencer.anyBuffer .armed && !s.clock.starve then
      raise .starved (State.sampledAs cues mask { s with clock.starve := true }) else s.sampledAs cues mask) = _
  unfold testStarve
  split
  · exact sampledAs_raise ..
  · rfl

theorem sampledAs_enterMoving (target : RunState) (s : State) :
    enterMoving target (s.sampledAs cues mask) = (enterMoving target s).sampledAs cues mask := by
  show testStarve (activate (State.sampledAs cues mask { s with run.state := target, clock.pausedState := false })) = _
  rw [sampledAs_activate, sampledAs_testStarve]
  rfl

theorem sampledAs_takeFunction (f : CueFunction) (s : State) :
    takeFunction f (s.sampledAs cues mask) = (takeFunction f s).sampledAs cues mask := by
  have run : (s.sampledAs cues mask).run = s.run := rfl
  unfold takeFunction
  rw [run]
  split
  · exact sampledAs_enterMoving cues mask .stepping { s with clock.boundary := some (s.clock.addSpan s.clock.time) }
  · exact sampledAs_enterMoving cues mask .stepping { s with clock.boundary := some (s.clock.addSpan s.clock.time) }
  · rfl
  · rfl
  · exact sampledAs_enterMoving cues mask .running { s with clock.boundary := none }
  · rfl

theorem sampledAs_arbitrate {s : State} (h : s.arbiter.clearPending = false) :
    arbitrate (s.sampledAs cues mask) = (arbitrate s).sampledAs cues mask := by
  by_cases hg : s.arbiter.grant = .none
  · rw [arbitrate_none hg h, arbitrate_none (s := s.sampledAs cues mask) hg h]
    rfl
  · rw [arbitrate_busy s hg, arbitrate_busy (s.sampledAs cues mask) hg]
    rfl

theorem sampledAs_edgeTaken (f : CueFunction) {s : State} (h : s.arbiter.clearPending = false) :
    (s.sampledAs cues mask).edgeTaken f = (s.edgeTaken f).sampledAs cues mask := by
  rw [State.edgeTaken, sampledAs_takeFunction, sampledAs_arbitrate]
  · rfl
  · rw [takeFunction_clearPending, h]

end

/-! ### The whole event -/

theorem edgeTaken_panel (f : CueFunction) {s : State} (h : s.arbiter.clearPending = false) :
    (s.edgeTaken f).panel = s.panel := by
  have clear : (takeFunction f s).arbiter.clearPending = false := by rw [takeFunction_clearPending, h]
  rw [State.edgeTaken, arbitrate_eq _ clear]
  exact takeFunction_panel s f

theorem edgeTaken_clearPending (f : CueFunction) {s : State} (h : s.arbiter.clearPending = false) :
    (s.edgeTaken f).arbiter.clearPending = false :=
  arbitrate_clearPending _ (by rw [takeFunction_clearPending, h])

theorem arbitrate_edgeTaken (f : CueFunction) {s : State} (h : s.arbiter.clearPending = false) :
    arbitrate (s.edgeTaken f) = s.edgeTaken f :=
  arbitrate_idem _ (by rw [takeFunction_clearPending, h])

/-- The samples of further lines and the function of an edge change places. -/
theorem foldl_lineSampled_edgeTaken (levels : Byte) (f : CueFunction) (l : List (Fin 8)) {s : State}
    (h : s.arbiter.clearPending = false) :
    l.foldl (State.lineSampled levels) (s.edgeTaken f) = (l.foldl (State.lineSampled levels) s).edgeTaken f := by
  induction l generalizing s with
  | nil => rfl
  | cons n l ih =>
    have swap : (s.edgeTaken f).lineSampled levels n = (s.lineSampled levels n).edgeTaken f := by
      rw [State.lineSampled, edgeTaken_panel f h, ← sampledAs_edgeTaken _ _ f h]
      rfl
    rw [List.foldl_cons, List.foldl_cons, swap, ih (s := s.lineSampled levels n) h]

theorem lineSampled_get (levels : Byte) (s : State) (n m : Fin 8) :
    (s.lineSampled levels n).panel.cues.get m =
      if m = n then (s.panel.cues.get m).after (levels.getLsbD m.val) else s.panel.cues.get m := by
  show (s.panel.cues.set n.val _ n.isLt)[m.val] = _
  rw [Vector.getElem_set]
  by_cases e : m = n
  · subst e
    rw [if_pos rfl, if_pos rfl]
  · rw [if_neg fun v => e (Fin.ext v.symm), if_neg e]
    rfl

/-- The samples of distinct lines one after the other: all their writes, then the functions of their edges (R162, R163,
R134). `g` is the lines as they stand before. -/
theorem foldl_sampleLine (levels : Byte) (g : Fin 8 → CueLine) {l : List (Fin 8)} (hl : l.Nodup) {s : State}
    (h : s.arbiter.clearPending = false) (hg : ∀ n ∈ l, s.panel.cues.get n = g n) :
    l.foldl (sampleLine levels) s =
      (l.filter fun n => (g n).assertsAt (levels.getLsbD n.val)).foldl (fun v n => v.edgeTaken (g n).function)
        (l.foldl (State.lineSampled levels) s) := by
  induction l generalizing s with
  | nil => rfl
  | cons n l ih =>
    obtain ⟨hn, hl⟩ := List.nodup_cons.1 hl
    have clear : (s.lineSampled levels n).arbiter.clearPending = false := h
    have others : ∀ m ∈ l, (s.lineSampled levels n).panel.cues.get m = g m := fun m hm => by
      rw [lineSampled_get, if_neg (ne_of_mem_of_not_mem hm hn), hg m (List.mem_cons_of_mem n hm)]
    rw [List.foldl_cons, List.foldl_cons, sampleLine_eq, hg n List.mem_cons_self, List.filter_cons]
    split
    · rw [ih hl (edgeTaken_clearPending _ clear) fun m hm => by rw [edgeTaken_panel _ clear, others m hm],
        foldl_lineSampled_edgeTaken levels _ l clear, List.foldl_cons]
    · exact ih hl clear others

/-! ### The writes of a run of samples -/

theorem foldl_lineSampled_rest (levels : Byte) (l : List (Fin 8)) (s : State) :
    let u := l.foldl (State.lineSampled levels) s
    u = { s with panel.cues := u.panel.cues, clock.holdLine := u.clock.holdLine, watch.flags := u.watch.flags } := by
  induction l generalizing s with
  | nil => rfl
  | cons n l ih => exact ih (s.lineSampled levels n)

theorem foldl_lineSampled_get (levels : Byte) {l : List (Fin 8)} (hl : l.Nodup) (s : State) (m : Fin 8) :
    (l.foldl (State.lineSampled levels) s).panel.cues.get m =
      if m ∈ l then (s.panel.cues.get m).after (levels.getLsbD m.val) else s.panel.cues.get m := by
  induction l generalizing s with
  | nil => rw [if_neg List.not_mem_nil]; rfl
  | cons n l ih =>
    obtain ⟨hn, hl⟩ := List.nodup_cons.1 hl
    rw [List.foldl_cons, ih hl, lineSampled_get]
    by_cases e : m = n
    · subst e
      rw [if_neg hn, if_pos rfl, if_pos List.mem_cons_self]
    · rw [if_neg e]
      exact if_congr ⟨List.mem_cons_of_mem n, fun h => (List.mem_cons.1 h).resolve_left e⟩ rfl rfl

theorem foldl_lineSampled_hold (levels : Byte) (l : List (Fin 8)) {s : State}
    (h : s.clock.holdLine = s.panel.holdCondition) :
    (l.foldl (State.lineSampled levels) s).clock.holdLine =
      (l.foldl (State.lineSampled levels) s).panel.holdCondition := by
  induction l generalizing s with
  | nil => exact h
  | cons n l ih => exact ih (s := s.lineSampled levels n) rfl

theorem foldl_lineSampled_flags (levels : Byte) (g : Fin 8 → CueLine) {l : List (Fin 8)} (hl : l.Nodup) {s : State}
    (hg : ∀ n ∈ l, s.panel.cues.get n = g n) :
    (l.foldl (State.lineSampled levels) s).watch.flags =
      if l.any (fun n => (g n).assertsAt (levels.getLsbD n.val) && (g n).intEnable) then
        s.watch.flags ||| (1#19 <<< Event.cueLine.bit)
      else s.watch.flags := by
  induction l generalizing s with
  | nil => rfl
  | cons n l ih =>
    obtain ⟨hn, hl⟩ := List.nodup_cons.1 hl
    have others : ∀ m ∈ l, (s.lineSampled levels n).panel.cues.get m = g m := fun m hm => by
      rw [lineSampled_get, if_neg (ne_of_mem_of_not_mem hm hn), hg m (List.mem_cons_of_mem n hm)]
    have own : (s.lineSampled levels n).watch.flags =
        if (g n).assertsAt (levels.getLsbD n.val) && (g n).intEnable then
          s.watch.flags ||| (1#19 <<< Event.cueLine.bit)
        else s.watch.flags := by
      show (s.panel.cues.get n).raises _ ||| s.watch.flags = _
      rw [hg n List.mem_cons_self, CueLine.raises]
      split
      · exact BitVec.or_comm ..
      · exact BitVec.zero_or
    rw [List.foldl_cons, ih hl others, own, List.any_cons]
    cases (g n).assertsAt (levels.getLsbD n.val) && (g n).intEnable
    · rfl
    · simp [BitVec.or_assoc]

/-! ### The order of the lines -/

theorem mem_allCues (n : Fin 8) : n ∈ allCues := by
  revert n
  decide

/-- The lines of the operand's order, each once. -/
def cuesOnce (order acc : List (Fin 8)) : List (Fin 8) :=
  order.foldl (fun acc n => if n ∈ acc then acc else acc ++ [n]) acc

theorem cueOrder_eq (order : List (Fin 8)) :
    cueOrder order = cuesOnce order [] ++ allCues.filter fun n => decide (n ∉ cuesOnce order []) := rfl

theorem cuesOnce_nodup (order : List (Fin 8)) {acc : List (Fin 8)} (h : acc.Nodup) : (cuesOnce order acc).Nodup := by
  induction order generalizing acc with
  | nil => exact h
  | cons n order ih =>
    show (cuesOnce order (if n ∈ acc then acc else acc ++ [n])).Nodup
    split
    · exact ih h
    · next hn => exact ih (List.concat_eq_append ▸ h.concat hn)

theorem cuesOnce_of_nodup {order acc : List (Fin 8)} (h : (acc ++ order).Nodup) : cuesOnce order acc = acc ++ order := by
  induction order generalizing acc with
  | nil => exact (List.append_nil acc).symm
  | cons n order ih =>
    rw [List.append_cons] at h ⊢
    have new : n ∉ acc := fun hn =>
      (List.nodup_append.1 (List.nodup_append.1 h).1).2.2 n hn n (List.mem_singleton.2 rfl) rfl
    show cuesOnce order (if n ∈ acc then acc else acc ++ [n]) = _
    rw [if_neg new, ih h]

theorem cueOrder_nodup (order : List (Fin 8)) : (cueOrder order).Nodup := by
  rw [cueOrder_eq, List.nodup_append]
  refine ⟨cuesOnce_nodup order List.nodup_nil, List.Nodup.filter _ (by decide), fun m hm k hk e => ?_⟩
  subst e
  exact of_decide_eq_true (List.mem_filter.1 hk).2 hm

theorem mem_cueOrder (order : List (Fin 8)) (n : Fin 8) : n ∈ cueOrder order := by
  rw [cueOrder_eq, List.mem_append, List.mem_filter]
  by_cases h : n ∈ cuesOnce order []
  · exact .inl h
  · exact .inr ⟨mem_allCues n, decide_eq_true h⟩

theorem isPrefix_cueOrder {order : List (Fin 8)} (h : order.Nodup) : order <+: cueOrder order := by
  have once : cuesOnce order [] = order := cuesOnce_of_nodup h
  rw [cueOrder_eq, once]
  exact ⟨_, rfl⟩

/-! ### The sample event -/

/-- The state after the samples of all lines, without the functions of their edges. -/
def State.linesSampled (levels : Byte) (order : List (Fin 8)) (s : State) : State :=
  (cueOrder order).foldl (State.lineSampled levels) s

/-- The lines whose sample makes an asserting edge, in the order in which they are taken. -/
def State.edges (levels : Byte) (order : List (Fin 8)) (s : State) : List (Fin 8) :=
  (cueOrder order).filter fun n => (s.panel.cues.get n).assertsAt (levels.getLsbD n.val)

theorem mem_edges (levels : Byte) (order : List (Fin 8)) (s : State) (n : Fin 8) :
    n ∈ s.edges levels order ↔ (s.panel.cues.get n).assertsAt (levels.getLsbD n.val) = true := by
  rw [State.edges, List.mem_filter, and_iff_right (mem_cueOrder order n)]

/-- The sample event is the samples of all lines, and then the functions of the edges, each with its choice. -/
theorem sampleEvent_eq (levels : Byte) (order : List (Fin 8)) {s : State} (h : s.arbiter.clearPending = false) :
    sampleEvent levels order s =
      (s.edges levels order).foldl (fun v n => v.edgeTaken (s.panel.cues.get n).function)
        (s.linesSampled levels order) :=
  foldl_sampleLine levels _ (cueOrder_nodup order) h fun _ _ => rfl

theorem linesSampled_get (levels : Byte) (order : List (Fin 8)) (s : State) (n : Fin 8) :
    (s.linesSampled levels order).panel.cues.get n = (s.panel.cues.get n).after (levels.getLsbD n.val) := by
  rw [State.linesSampled, foldl_lineSampled_get levels (cueOrder_nodup order), if_pos (mem_cueOrder order n)]

theorem linesSampled_hold (levels : Byte) (order : List (Fin 8)) (s : State) :
    (s.linesSampled levels order).clock.holdLine = (s.linesSampled levels order).panel.holdCondition := by
  rw [State.linesSampled]
  cases hl : cueOrder order with
  | nil => exact absurd (mem_cueOrder order 0) (hl ▸ List.not_mem_nil)
  | cons n l => exact foldl_lineSampled_hold levels l (s := s.lineSampled levels n) rfl

theorem linesSampled_flags (levels : Byte) (order : List (Fin 8)) (s : State) :
    (s.linesSampled levels order).watch.flags =
      if (s.edges levels order).any (fun n => (s.panel.cues.get n).intEnable) then
        s.watch.flags ||| (1#19 <<< Event.cueLine.bit)
      else s.watch.flags := by
  rw [State.edges, List.any_filter]
  exact foldl_lineSampled_flags levels _ (cueOrder_nodup order) fun _ _ => rfl

/-- The state so sampled: the lines, the HOLD condition that they form and CUE_LINE, and nothing else. -/
theorem linesSampled_eq (levels : Byte) (order : List (Fin 8)) (s : State) :
    s.linesSampled levels order =
      { s with
        panel.cues := (s.linesSampled levels order).panel.cues
        clock.holdLine := (s.linesSampled levels order).panel.holdCondition
        watch.flags :=
          if (s.edges levels order).any (fun n => (s.panel.cues.get n).intEnable) then
            s.watch.flags ||| (1#19 <<< Event.cueLine.bit)
          else s.watch.flags } := by
  rw [← linesSampled_hold, ← linesSampled_flags]
  exact foldl_lineSampled_rest levels (cueOrder order) s

/-! ### What the edges leave alone -/

theorem enterMoving_time (target : RunState) (s : State) : (enterMoving target s).clock.time = s.clock.time :=
  ((activate_unwatched _).trans (testStarve_unwatched _)).time

theorem takeFunction_time (f : CueFunction) (s : State) : (takeFunction f s).clock.time = s.clock.time := by
  unfold takeFunction
  split
  · exact enterMoving_time ..
  · exact enterMoving_time ..
  · rfl
  · rfl
  · exact enterMoving_time ..
  · rfl

theorem edgeTaken_time (f : CueFunction) {s : State} (h : s.arbiter.clearPending = false) :
    (s.edgeTaken f).clock.time = s.clock.time := by
  rw [State.edgeTaken, arbitrate_eq _ (by rw [takeFunction_clearPending, h])]
  exact takeFunction_time f s

section
variable (g : Fin 8 → CueFunction) (l : List (Fin 8)) {u : State}

theorem foldl_edgeTaken_keeps (h : u.arbiter.clearPending = false) :
    let t := l.foldl (fun v n => v.edgeTaken (g n)) u
    t.panel = u.panel ∧ t.clock.time = u.clock.time ∧ t.arbiter.clearPending = false := by
  induction l generalizing u with
  | nil => exact ⟨rfl, rfl, h⟩
  | cons n l ih =>
    obtain ⟨panel, time, clear⟩ := ih (edgeTaken_clearPending (g n) h)
    exact ⟨panel.trans (edgeTaken_panel (g n) h), time.trans (edgeTaken_time (g n) h), clear⟩

/-- What a sample has written still stands after the edges: writing it again changes nothing. -/
theorem foldl_edgeTaken_sampledAs {cues : Vector CueLine 8} {mask : BitVec 19} (h : u.arbiter.clearPending = false)
    (hu : u.sampledAs cues mask = u) :
    (l.foldl (fun v n => v.edgeTaken (g n)) u).sampledAs cues mask = l.foldl (fun v n => v.edgeTaken (g n)) u := by
  induction l generalizing u with
  | nil => exact hu
  | cons n l ih => exact ih (edgeTaken_clearPending (g n) h) (by rw [← sampledAs_edgeTaken _ _ _ h, hu])

end

/-- A raised flag stays raised while the edges of the sampled lines are taken, and HOLD_LINE stays the HOLD condition. -/
theorem foldl_edgeTaken_sampled (g : Fin 8 → CueFunction) (l : List (Fin 8)) {u : State}
    (h : u.arbiter.clearPending = false) (hold : u.clock.holdLine = u.panel.holdCondition) :
    let t := l.foldl (fun v n => v.edgeTaken (g n)) u
    t.clock.holdLine = t.panel.holdCondition ∧ KeepsFlags u t := by
  have stands : u.sampledAs u.panel.cues u.watch.flags = u := by
    rw [State.sampledAs, BitVec.or_self, refreshHold]
    exact congrArg (fun b => { u with clock.holdLine := b }) hold.symm
  have kept := foldl_edgeTaken_sampledAs g l h stands
  refine ⟨?_, fun e he => ?_⟩
  · rw [← kept]
    rfl
  · rw [← kept]
    show (u.watch.flags ||| _).getLsbD e.bit = true
    rw [BitVec.getLsbD_or, show u.watch.flags.getLsbD e.bit = true from he, Bool.true_or]

/-! ### The function of an edge (R134) -/

theorem takeFunction_ready {s : State} (h : s.run.state = .ready) : takeFunction .step s = beginStep s := by
  simp only [takeFunction, h]

theorem takeFunction_step_paused {s : State} (h : s.run.state = .paused) : takeFunction .step s = beginStep s := by
  simp only [takeFunction, h]

theorem takeFunction_stepping {s : State} (h : s.run.state = .stepping) : takeFunction .step s = extendStep s := by
  simp only [takeFunction, h]

theorem takeFunction_running {s : State} (h : s.run.state = .running) : takeFunction .pauseToggle s = enterPaused s := by
  simp only [takeFunction, h]

theorem takeFunction_paused {s : State} (h : s.run.state = .paused) : takeFunction .pauseToggle s = resumeRun s := by
  simp only [takeFunction, h]

/-- Every other pair of function and run state changes nothing: each pair that moves the run is shut out. -/
theorem takeFunction_refused {f : CueFunction} {s : State}
    (h : f = .none ∨ f = .hold ∨
      f = .step ∧ s.run.state ≠ .ready ∧ s.run.state ≠ .paused ∧ s.run.state ≠ .stepping ∨
      f = .pauseToggle ∧ s.run.state ≠ .running ∧ s.run.state ≠ .paused) : takeFunction f s = s := by
  unfold takeFunction
  split <;> simp_all

/-! ### Two PAUSE_TOGGLE edges -/

theorem setBuffer_sequencer_congr (n : BufferName) (b : Buffer) {s t : State} (h : t.sequencer = s.sequencer) :
    (setBuffer n b t).sequencer = (setBuffer n b s).sequencer := by
  cases n
  · exact congrArg (fun q => { q with bufferA := b }) h
  · exact congrArg (fun q => { q with bufferB := b }) h

/-- The test of activation reads of the clock the direction alone. -/
theorem activateFrom_sequencer_congr (l : List BufferName) {s t : State} (h : t.sequencer = s.sequencer)
    (hd : t.clock.direction = s.clock.direction) : (activateFrom l t).sequencer = (activateFrom l s).sequencer := by
  induction l generalizing s t with
  | nil => exact h
  | cons n rest ih =>
    rw [activateFrom, activateFrom]
    dsimp only
    rw [h, hd]
    split
    · exact setBuffer_sequencer_congr _ _ rfl
    · refine ih ?_ (by simpa [rejectBuffer] using hd)
      rw [rejectBuffer, rejectBuffer, raise_sequencer, raise_sequencer]
      exact setBuffer_sequencer_congr _ _ rfl

theorem enterMoving_sequencer_congr (target : RunState) {s t : State} (h : t.sequencer = s.sequencer)
    (hd : t.clock.direction = s.clock.direction) :
    (enterMoving target t).sequencer = (enterMoving target s).sequencer := by
  rw [enterMoving, enterMoving, testStarve_sequencer, testStarve_sequencer, activate, activate]
  dsimp only
  rw [h]
  split
  · exact activateFrom_sequencer_congr _ rfl hd
  · rfl

/-- Of what the Sequencer's claim reads of the clock, entering a moving state writes nothing. -/
theorem enterMoving_clock (target : RunState) (s : State) :
    (enterMoving target s).clock.direction = s.clock.direction ∧
      (enterMoving target s).clock.backlog = s.clock.backlog ∧ (enterMoving target s).clock.time = s.clock.time := by
  rw [enterMoving, testStarve]
  split <;> simp

theorem sequencerReady_congr {s t : State} (hr : t.run = s.run) (h : t.sequencer = s.sequencer)
    (hd : t.clock.direction = s.clock.direction) (hb : t.clock.backlog = s.clock.backlog)
    (ht : t.clock.time = s.clock.time) : t.sequencerReady = s.sequencerReady := by
  rw [State.sequencerReady, State.sequencerReady, hr, h, hb]
  simp only [Clock.reached, hd, ht]

/-- The Sequencer's claim after the run has begun to move is formed of the run state, the buffers, the cue stop, BACKLOG
and the time. -/
theorem enterMoving_sequencerReady_congr (target : RunState) {s t : State} (hr : t.run = s.run)
    (h : t.sequencer = s.sequencer) (hd : t.clock.direction = s.clock.direction)
    (hb : t.clock.backlog = s.clock.backlog) (ht : t.clock.time = s.clock.time) :
    (enterMoving target t).sequencerReady = (enterMoving target s).sequencerReady := by
  obtain ⟨sd, sb, st⟩ := enterMoving_clock target s
  obtain ⟨td, tb, tt⟩ := enterMoving_clock target t
  refine sequencerReady_congr ?_ (enterMoving_sequencer_congr target h hd) ?_ ?_ ?_
  · simp [enterMoving, hr]
  · rw [sd, td, hd]
  · rw [sb, tb, hb]
  · rw [st, tt, ht]

/-- Two PAUSE_TOGGLE edges in PAUSED on a free store, with an entry then due: the first resumes and the Sequencer is
granted, the second pauses and leaves the grant (R70, R127, R128). -/
theorem edgeTaken_toggle_toggle {u : State} (hp : u.run.state = .paused) (ha : u.arbiter = .free)
    (hc : u.resolver.current = none) (hr : (resumeRun u).sequencerReady = true) :
    let t := (u.edgeTaken .pauseToggle).edgeTaken .pauseToggle
    t.run.state = .paused ∧ t.clock.pausedState = true ∧ t.arbiter = { Arbiter.free with grant := .sequencer } := by
  have free : (resumeRun u).arbiter = .free := (enterMoving_arbiter ..).trans ha
  have granted : Arbiter.next (resumeRun u) = { Arbiter.free with grant := .sequencer } := by
    simp [Arbiter.next, hc, hr, Arbiter.free]
  have first : u.edgeTaken .pauseToggle = { resumeRun u with arbiter := { Arbiter.free with grant := .sequencer } } := by
    rw [State.edgeTaken, takeFunction_paused hp, arbitrate_free _ free, granted]
  have running : (u.edgeTaken .pauseToggle).run.state = .running := by
    rw [first]
    simp [resumeRun, enterMoving]
  have second : (u.edgeTaken .pauseToggle).edgeTaken .pauseToggle = enterPaused (u.edgeTaken .pauseToggle) := by
    rw [State.edgeTaken, takeFunction_running running, first, arbitrate_busy _ (by simp [enterPaused, withdrawSequencer])]
    refine refreshClaims_self ?_ ?_ ?_ ?_ <;> simp [enterPaused, withdrawSequencer, hc, Arbiter.free]
  rw [second, first]
  exact ⟨rfl, rfl, rfl⟩

/-! ### The obligation -/

theorem edges_eq_singleton {levels : Byte} {order : List (Fin 8)} {s : State} {k : Fin 8}
    (h : ∀ n, (s.panel.cues.get n).assertsAt (levels.getLsbD n.val) = true ↔ n = k) : s.edges levels order = [k] := by
  have nodup : (s.edges levels order).Nodup := (cueOrder_nodup order).filter _
  exact List.perm_singleton.1 ((List.perm_ext_iff_of_nodup nodup (List.nodup_singleton k)).2 fun n => by
    rw [mem_edges, h, List.mem_singleton])

theorem linesSampled_clearPending (levels : Byte) (order : List (Fin 8)) {s : State} (h : s.arbiter.clearPending = false) :
    (s.linesSampled levels order).arbiter.clearPending = false := by
  rw [linesSampled_eq]
  exact h

/-- The edges leave the lines and the time as the samples left them, HOLD_LINE the HOLD condition and a raised flag
raised. -/
theorem sampleEvent_sampled (levels : Byte) (order : List (Fin 8)) {s : State} (h : s.arbiter.clearPending = false) :
    (sampleEvent levels order s).panel = (s.linesSampled levels order).panel ∧
      (sampleEvent levels order s).clock.time = s.clock.time ∧
      (sampleEvent levels order s).clock.holdLine = (sampleEvent levels order s).panel.holdCondition ∧
      KeepsFlags (s.linesSampled levels order) (sampleEvent levels order s) := by
  have clear := linesSampled_clearPending levels order h
  have untimed : (s.linesSampled levels order).clock.time = s.clock.time := by rw [linesSampled_eq]
  rw [sampleEvent_eq levels order h]
  obtain ⟨panel, time, -⟩ := foldl_edgeTaken_keeps (fun n => (s.panel.cues.get n).function) (s.edges levels order) clear
  obtain ⟨hold, raised⟩ := foldl_edgeTaken_sampled (fun n => (s.panel.cues.get n).function) (s.edges levels order)
    clear (linesSampled_hold levels order s)
  exact ⟨panel, time.trans untimed, hold, raised⟩

/-- An asserting edge with the line's interrupt enable on raises CUE_LINE (R162). -/
theorem linesSampled_cueLine {levels : Byte} {order : List (Fin 8)} {s : State} {n : Fin 8}
    (he : (s.panel.cues.get n).assertsAt (levels.getLsbD n.val) = true) (hi : (s.panel.cues.get n).intEnable = true) :
    (s.linesSampled levels order).flag .cueLine = true := by
  have fired : (s.edges levels order).any (fun n => (s.panel.cues.get n).intEnable) = true :=
    List.any_eq_true.2 ⟨n, (mem_edges ..).2 he, hi⟩
  have raised : (s.linesSampled levels order).watch.flags = (raise .cueLine s).watch.flags := by
    rw [linesSampled_flags, if_pos fired, raise_flags]
  rw [flag_congr raised, raise_flag_same]

/-- Without an asserting edge the samples write the lines and the HOLD condition alone. -/
theorem sampleEvent_still {levels : Byte} {order : List (Fin 8)} {s : State} (h : s.arbiter.clearPending = false)
    (hn : ∀ n : Fin 8, (s.panel.cues.get n).assertsAt (levels.getLsbD n.val) = false) :
    sampleEvent levels order s =
      { s with
        panel.cues := (sampleEvent levels order s).panel.cues
        clock.holdLine := (sampleEvent levels order s).clock.holdLine } := by
  have quiet : s.edges levels order = [] :=
    List.filter_eq_nil_iff.2 fun n _ => by rw [hn n]; exact Bool.false_ne_true
  have same : sampleEvent levels order s = s.linesSampled levels order := by
    rw [sampleEvent_eq levels order h, quiet]
    rfl
  have lines := linesSampled_eq levels order s
  rw [quiet] at lines
  rw [same, linesSampled_hold]
  exact lines

/-- The samples write nothing that the Sequencer's claim in a resumed run is formed of. -/
theorem linesSampled_resumed (levels : Byte) (order : List (Fin 8)) (s : State) :
    (resumeRun (s.linesSampled levels order)).sequencerReady = (enterMoving .running s).sequencerReady := by
  rw [linesSampled_eq]
  exact enterMoving_sequencerReady_congr .running (s := s) rfl rfl rfl rfl rfl

/-- Settles O53. -/
theorem sampleEventsMoveTheRun : Obligations.SampleEventsMoveTheRun := by
  refine ⟨fun levels order s hc => ?_, fun levels order s edges hc he => ?_,
    fun order => ⟨cueOrder_nodup order, mem_cueOrder order, isPrefix_cueOrder⟩, CueLine.assertsAt_eq, fun s => ?_⟩
  · obtain ⟨panel, time, hold, raised⟩ := sampleEvent_sampled levels order hc
    obtain ⟨store, resolver, link, clear⟩ := sampleEvent_keeps s levels order hc
    refine ⟨_, rfl, ?_⟩
    rw [arbitrate_eq _ clear]
    refine ⟨fun n level taken edge hl ht he => ?_, hold, ?_, ?_, store, resolver, link, time, fun hn => ?_⟩
    · have asserts : edge = (s.panel.cues.get n).assertsAt level := by rw [CueLine.assertsAt_eq, ← ht, he]
      refine ⟨?_, fun hedge hi => raised _ (linesSampled_cueLine (by rw [← hl, ← asserts, hedge]) hi)⟩
      show (sampleEvent levels order s).panel.cues.get n = _
      rw [panel, linesSampled_get, ← hl, asserts, ht]
      rfl
    · show (sampleEvent levels order s).panel.indicators = _
      rw [panel, linesSampled_eq]
    · show (sampleEvent levels order s).panel.flashActive = _
      rw [panel, linesSampled_eq]
    · exact congrArg (fun v : State => { v with arbiter := (arbitrate (sampleEvent levels order s)).arbiter })
        (sampleEvent_still hc hn)
  · have exec : exec (.sampleEvent levels order) s =
        .next (arbitrate ((s.edges levels order).foldl (fun v n => v.edgeTaken (s.panel.cues.get n).function)
          (s.linesSampled levels order))) := by
      rw [← sampleEvent_eq levels order hc]
      rfl
    have clear := linesSampled_clearPending levels order hc
    subst he
    refine ⟨s.linesSampled levels order, linesSampled_eq .., fun n => ?_, exec,
      fun j k hjk hj hk hp ha hr hready => ?_, fun k hk => ?_⟩
    · have fires : decide (n ∈ s.edges levels order) = (s.panel.cues.get n).assertsAt (levels.getLsbD n.val) := by
        rw [Bool.eq_iff_iff, decide_eq_true_iff, mem_edges]
      rw [linesSampled_get, ← State.edges, fires]
      rfl
    · rw [← State.edges] at hjk
      have sampled := linesSampled_eq levels order s
      obtain ⟨run, clock, arbiter⟩ := edgeTaken_toggle_toggle (u := s.linesSampled levels order)
        (by rw [sampled]; exact hp) (by rw [sampled]; exact ha) (by rw [sampled]; exact hr)
        (by rw [linesSampled_resumed, hready])
      refine ⟨((s.linesSampled levels order).edgeTaken .pauseToggle).edgeTaken .pauseToggle, ?_, run, clock, arbiter⟩
      rw [exec, hjk, List.foldl_cons, List.foldl_cons, List.foldl_nil, hj, hk,
        arbitrate_edgeTaken _ (edgeTaken_clearPending _ clear)]
    · rw [exec, edges_eq_singleton hk]
      exact congrArg _ (arbitrate_edgeTaken _ clear)
  · refine ⟨fun h => ?_, fun h => ?_, takeFunction_running, takeFunction_paused, fun f hf => ?_⟩
    · obtain h | h := h
      · exact takeFunction_ready h
      · exact takeFunction_step_paused h
    · exact takeFunction_stepping h
    · exact takeFunction_refused hf

end Sys2Proof.Machine
end

section
/-! PROOFS. The clock's invariant (O55), taken apart: the ranges of the clock (R80), how boundary, PAUSED_STATE, HOLD_LINE
and the cue stop follow the run and the lines (R87, R96, R97, R115), and what leaves all of it alone. -/

namespace Sys2Proof.Machine

/-! ### The ranges of the clock -/

/-- What the invariant says of the clock alone (R80). -/
structure Clock.InRange (c : Clock) : Prop where
  frac : c.frac < 256
  rate_pos : 1 ≤ c.rate
  rate_le : c.rate ≤ Config.maxRate
  span_pos : 1 ≤ c.span
  span_le : c.span ≤ Config.maxTime
  time_le : c.time ≤ c.endTime
  endTime_le : c.endTime ≤ Config.maxTime
  mark_le : ∀ m, c.mark = some m → m ≤ Config.maxTime
  boundary_le : ∀ b, c.boundary = some b → b ≤ c.endTime

/-- What the invariant says of the clock beside the run, the lines and the Sequencer (R87, R96, R97, R115). -/
structure State.ClockFollows (s : State) : Prop where
  boundary : s.clock.boundary.isSome = true ↔ s.run.state = .stepping
  paused : s.clock.pausedState = true ↔ s.run.state = .paused
  hold : s.clock.holdLine = s.panel.holdCondition
  cueStop : s.sequencer.cueStop = true → s.run.state = .ended

theorem clockInv_iff (s : State) : ClockInv s ↔ s.clock.InRange ∧ s.ClockFollows := by
  constructor
  · rintro ⟨h1, h2, h3, h4, h5, h6, h7, h8, h9, h10, h11, h12, h13⟩
    exact ⟨⟨h1, h2, h3, h4, h5, h6, h7, h8, h9⟩, ⟨h10, h11, h12, h13⟩⟩
  · rintro ⟨⟨h1, h2, h3, h4, h5, h6, h7, h8, h9⟩, ⟨h10, h11, h12, h13⟩⟩
    exact ⟨h1, h2, h3, h4, h5, h6, h7, h8, h9, h10, h11, h12, h13⟩

theorem ClockInv.inRange {s : State} (h : ClockInv s) : s.clock.InRange := ((clockInv_iff s).1 h).1

theorem ClockInv.follows {s : State} (h : ClockInv s) : s.ClockFollows := ((clockInv_iff s).1 h).2

/-- The boundary stands in STEPPING alone. -/
theorem State.ClockFollows.boundary_none {s : State} (h : s.ClockFollows) (hs : s.run.state ≠ .stepping) :
    s.clock.boundary = none :=
  Option.not_isSome_iff_eq_none.1 (mt h.boundary.1 hs)

/-- The cue stop stands in ENDED alone. -/
theorem State.ClockFollows.cueStop_off {s : State} (h : s.ClockFollows) (hs : s.run.state ≠ .ended) :
    s.sequencer.cueStop = false :=
  Bool.eq_false_iff.2 (mt h.cueStop hs)

/-- A span that is added stops at the end limit (R95). -/
theorem Clock.addSpan_le {c : Clock} {b : Nat} (hb : b ≤ c.endTime) : c.addSpan b ≤ c.endTime := by
  unfold Clock.addSpan
  split
  · exact Nat.min_le_right ..
  · exact (Nat.sub_le ..).trans hb

theorem Clock.limit_le (c : Clock) : c.limit ≤ c.endTime := by
  unfold Clock.limit
  split
  · exact le_rfl
  · exact Nat.zero_le _

namespace Clock.InRange

variable {c : Clock}

theorem congr (h : c.InRange) {a b p l : Bool} :
    Clock.InRange { c with starve := a, backlog := b, holdLine := l, pausedState := p } :=
  { h with frac := h.frac }

/-- Without a boundary. -/
theorem no_boundary (h : c.InRange) : Clock.InRange { c with boundary := none } :=
  { h with boundary_le := nofun }

theorem with_boundary (h : c.InRange) {b : Nat} (hb : b ≤ c.endTime) : Clock.InRange { c with boundary := some b } :=
  { h with boundary_le := fun _ e => Option.some.inj e ▸ hb }

/-- The clock at a time within the end limit. -/
theorem at_time (h : c.InRange) {t f : Nat} (ht : t ≤ c.endTime) (hf : f < 256) :
    Clock.InRange { c with time := t, frac := f } :=
  { h with time_le := ht, frac := hf }

/-- A tick that has not reached the limit stays within it (R84 to R86). -/
theorem candidate_le (h : c.InRange) (hl : c.atLimit = false) : c.candidate ≤ c.endTime := by
  have bound := h.time_le
  cases hd : c.direction <;> simp only [Clock.atLimit, Clock.candidate, hd, decide_eq_false_iff_not] at hl ⊢ <;> omega

end Clock.InRange

/-- A boundary that a tick reaches is the clock's. -/
theorem Clock.boundaryReached_some {c : Clock} {t b : Nat} (h : c.boundaryReached t = some b) :
    c.boundary = some b := by
  unfold Clock.boundaryReached at h
  repeat' split at h
  all_goals simp_all

/-- A stored rate is in its range (R90). -/
theorem clampRate_mem (r : Nat) : 1 ≤ clampRate r ∧ clampRate r ≤ Config.maxRate := by
  unfold clampRate Config.maxRate
  split
  · omega
  · split <;> omega

/-! ### The HOLD condition -/

theorem holdCondition_congr {p q : Panel} (h : q.cues = p.cues) : q.holdCondition = p.holdCondition := by
  rw [Panel.holdCondition, Panel.holdCondition, h]

/-- A line that keeps its function and its level leaves the HOLD condition. -/
theorem setCue_holdCondition (n : Fin 8) {c : CueLine} {s : State} (hf : c.function = (s.panel.cues.get n).function)
    (ha : c.asserted = (s.panel.cues.get n).asserted) : (setCue n c s).panel.holdCondition = s.panel.holdCondition := by
  refine (holdCondition_set hf ha).trans (holdCondition_congr ?_)
  exact Vector.set_getElem_self ..

/-- CLEAR LINE FLAGS leaves the functions and the levels of the lines (R166). -/
theorem clearedCues_holdCondition (mask : Byte) (p : Panel) :
    Panel.holdCondition { p with cues := clearedCues mask p.cues } = p.holdCondition := by
  have fold : ∀ (l : List (Fin 8)) (v : Vector CueLine 8),
      Panel.holdCondition { p with cues := l.foldl (fun v n =>
        if mask.getLsbD n.val then v.set n.val { v.get n with flag := false } n.isLt else v) v } =
        Panel.holdCondition { p with cues := v } := by
    intro l
    induction l with
    | nil => exact fun _ => rfl
    | cons n l ih =>
      intro v
      rw [List.foldl_cons, ih]
      split
      · refine (holdCondition_set (p := { p with cues := v }) (n := n) (c := { v.get n with flag := false })
          (d := v.get n) rfl rfl).trans (holdCondition_congr ?_)
        exact Vector.set_getElem_self ..
      · rfl
  exact fold allCues p.cues

/-! ### What the invariant does not read -/

/-- From `s` to `t` nothing changes that the invariant reads: of the clock the holds STARVE and BACKLOG alone. -/
structure ClockKept (s t : State) : Prop where
  clock : t.clock = { s.clock with starve := t.clock.starve, backlog := t.clock.backlog }
  run : t.run.state = s.run.state
  hold : t.panel.holdCondition = s.panel.holdCondition
  cueStop : t.sequencer.cueStop = s.sequencer.cueStop

namespace ClockKept

variable {s t u : State}

theorem of_eq (hc : t.clock = s.clock) (hr : t.run.state = s.run.state) (hp : t.panel.cues = s.panel.cues)
    (hq : t.sequencer.cueStop = s.sequencer.cueStop) : ClockKept s t :=
  ⟨by rw [hc], hr, holdCondition_congr hp, hq⟩

theorem trans (h : ClockKept s t) (k : ClockKept t u) : ClockKept s u :=
  ⟨by rw [k.clock, h.clock], k.run.trans h.run, k.hold.trans h.hold, k.cueStop.trans h.cueStop⟩

theorem inRange (h : ClockKept s t) (hs : s.clock.InRange) : t.clock.InRange := by
  rw [h.clock]
  exact hs.congr

theorem boundary (h : ClockKept s t) : t.clock.boundary = s.clock.boundary := by rw [h.clock]

theorem pausedState (h : ClockKept s t) : t.clock.pausedState = s.clock.pausedState := by rw [h.clock]

theorem holdLine (h : ClockKept s t) : t.clock.holdLine = s.clock.holdLine := by rw [h.clock]

end ClockKept

theorem ClockInv.kept {s t : State} (h : ClockInv s) (k : ClockKept s t) : ClockInv t := by
  obtain ⟨boundary, paused, hold, cueStop⟩ := h.follows
  refine (clockInv_iff t).2 ⟨k.inRange h.inRange, ?_, ?_, ?_, ?_⟩
  · rw [k.boundary, k.run]; exact boundary
  · rw [k.pausedState, k.run]; exact paused
  · rw [k.holdLine, k.hold]; exact hold
  · rw [k.cueStop, k.run]; exact cueStop

@[simp] theorem activateFrom_cueStop (l : List BufferName) (s : State) :
    (activateFrom l s).sequencer.cueStop = s.sequencer.cueStop := by
  induction l generalizing s with
  | nil => rfl
  | cons n rest ih =>
    rw [activateFrom]
    dsimp only
    split
    · exact setBuffer_cueStop ..
    · rw [ih, rejectBuffer, raise_sequencer, setBuffer_cueStop]

@[simp] theorem activate_cueStop (s : State) : (activate s).sequencer.cueStop = s.sequencer.cueStop := by
  unfold activate
  split
  · exact activateFrom_cueStop ..
  · rfl

theorem setBuffer_kept (n : BufferName) (b : Buffer) (s : State) : ClockKept s (setBuffer n b s) :=
  .of_eq (setBuffer_clock ..) (congrArg _ (setBuffer_run ..)) (congrArg _ (setBuffer_panel ..)) (setBuffer_cueStop ..)

theorem rejectBuffer_kept (n : BufferName) (s : State) : ClockKept s (rejectBuffer n s) :=
  (setBuffer_kept n .cleared s).trans (.of_eq rfl rfl rfl rfl)

theorem activate_kept (s : State) : ClockKept s (activate s) :=
  .of_eq (activate_clock s) (congrArg _ (activate_run s)) (congrArg _ (activate_panel s)) (activate_cueStop s)

theorem testStarve_kept (s : State) : ClockKept s (testStarve s) := by
  unfold testStarve
  split
  · exact ⟨rfl, rfl, rfl, rfl⟩
  · exact .of_eq rfl rfl rfl rfl

/-- The two tests that follow a change of the buffers (R108, R118). -/
theorem testStarve_activate_kept (s : State) : ClockKept s (testStarve (activate s)) :=
  (activate_kept s).trans (testStarve_kept _)

theorem appendJob_kept (j : Job) (s : State) : ClockKept s (appendJob j s) := by
  obtain ⟨b, hb⟩ := appendJob_clock j s
  exact ⟨by rw [hb], congrArg _ (appendJob_run s j), congrArg _ (appendJob_panel s j), congrArg _ (appendJob_sequencer s j)⟩

theorem appendJobs_kept (js : List Job) (s : State) : ClockKept s (appendJobs js s) := by
  induction js generalizing s with
  | nil => exact .of_eq rfl rfl rfl rfl
  | cons j js ih => exact (appendJob_kept j s).trans (ih _)

theorem commitSwitch_kept (sw : Nat) (old new : SwitchRec) (cause : Nat) (s : State) :
    ClockKept s (commitSwitch sw old new cause s) := by
  obtain ⟨b, hb⟩ := commitSwitch_clock sw old new cause s
  exact ⟨by rw [hb], by simp, by simp, by simp⟩

theorem changeSwitch_kept (sw : Nat) (old new : SwitchRec) (s : State) : ClockKept s (changeSwitch sw old new s) := by
  unfold changeSwitch
  split
  · exact .of_eq rfl rfl rfl rfl
  · exact (commitSwitch_kept sw old new s.clock.time s).trans (.of_eq rfl rfl rfl rfl)

theorem applyPolicy_kept (p : Policy) (s : State) : ClockKept s (applyPolicy p s) := by
  have put : ClockKept s { s with policy := p, store := s.store.underPolicy p } := .of_eq rfl rfl rfl rfl
  rw [applyPolicy_eq]
  exact put.trans (appendJobs_kept ..)

/-- A buffer whose last entry is taken is emptied and the next may become ACTIVE (R110). -/
theorem endSpent_kept (n : BufferName) (s : State) : ClockKept s (endSpent n s) := by
  unfold endSpent
  dsimp only
  split
  · have emptied : ∀ u : State, ClockKept u (raise .batchDone (setBuffer n .cleared u)) := fun u =>
      (setBuffer_kept n .cleared u).trans (.of_eq rfl rfl rfl rfl)
    exact ((setBuffer_kept n _ s).trans (emptied _)).trans (testStarve_activate_kept _)
  · exact .of_eq rfl rfl rfl rfl

theorem gatherByte_kept (byte : Byte) (s : State) : ClockKept s (gatherByte byte s) := by
  refine .of_eq (by simp) (by simp) (by simp) ?_
  unfold gatherByte countEntry markCheck setOutcome
  repeat' split
  all_goals simp

theorem endLoad_kept (s : State) : ClockKept s (endLoad s) := by
  refine .of_eq (by simp) (by simp) (by simp) ?_
  unfold endLoad
  repeat' split
  all_goals simp

theorem jobLeft_kept (j : JobInProgress) (s : State) : ClockKept s (jobLeft j s) := by
  unfold jobLeft
  split <;> exact .of_eq (by simp) (by simp) (by simp [report]) (by simp)

/-- The end of a job clears at most a BACKLOG hold of the clock (R48, R117). -/
theorem endJob_kept (j : JobInProgress) (s : State) : ClockKept s (endJob j s) := by
  refine (jobLeft_kept j s).trans ?_
  cases h : s.resolver.queue with
  | nil =>
    rw [endJob_of_empty j h]
    exact .of_eq rfl rfl rfl rfl
  | cons k rest =>
    rw [endJob_of_cons j h]
    unfold takeJob
    split
    · exact .of_eq rfl rfl rfl rfl
    · exact ⟨rfl, rfl, rfl, rfl⟩

end Sys2Proof.Machine
end

section
/-! PROOFS. Every step keeps the clock's invariant (O55): the moves of the run, the pacing tick, the clock's commands, the
cue lines, RESTORE and CLEAR MODEL; every other part leaves alone what the invariant reads. -/

namespace Sys2Proof.Machine

/-- The test of activation and STARVE that follows the entry into a moving state leaves the target, with no PAUSED_STATE
(R127): the boundary has to stand in STEPPING alone. -/
theorem enterMoving_clockInv {target : RunState} {s : State} (hr : s.clock.InRange) (hf : target ≠ .paused)
    (hb : s.clock.boundary.isSome = true ↔ target = .stepping) (hh : s.clock.holdLine = s.panel.holdCondition)
    (hq : s.sequencer.cueStop = false) : ClockInv (enterMoving target s) := by
  have entered : ClockInv { s with run.state := target, clock.pausedState := false } :=
    (clockInv_iff _).2 ⟨hr.congr, hb, ⟨nofun, fun h => absurd h hf⟩, hh, fun h => absurd (hq.symm.trans h) nofun⟩
  exact entered.kept (testStarve_activate_kept _)

namespace ClockInv

variable {s t : State}

/-- What leaves the clock, the run state, the lines and the cue stop alone. -/
theorem of_eq (h : ClockInv s) (hc : t.clock = s.clock) (hr : t.run.state = s.run.state)
    (hp : t.panel.cues = s.panel.cues) (hq : t.sequencer.cueStop = s.sequencer.cueStop) : ClockInv t :=
  h.kept (.of_eq hc hr hp hq)

/-- The clock is set within its ranges, its boundary and the two holds that follow stand. -/
theorem set_clock (h : ClockInv s) {c : Clock} (hr : c.InRange) (hb : c.boundary = s.clock.boundary)
    (hp : c.pausedState = s.clock.pausedState) (hh : c.holdLine = s.clock.holdLine) :
    ClockInv { s with clock := c } := by
  obtain ⟨boundary, paused, hold, cueStop⟩ := h.follows
  exact (clockInv_iff _).2 ⟨hr, hb ▸ boundary, hp ▸ paused, hh ▸ hold, cueStop⟩

/-! ### Moves of the run -/

theorem beginStep (h : ClockInv s) (hs : s.run.state = .ready ∨ s.run.state = .paused) : ClockInv (beginStep s) := by
  have off := h.follows.cueStop_off (by rintro he; simp [he] at hs)
  exact enterMoving_clockInv (h.inRange.with_boundary (Clock.addSpan_le h.inRange.time_le)) nofun
    ⟨fun _ => rfl, fun _ => rfl⟩ h.follows.hold off

theorem resumeRun (h : ClockInv s) (hs : s.run.state ≠ .ended) : ClockInv (resumeRun s) :=
  enterMoving_clockInv h.inRange.no_boundary nofun ⟨nofun, nofun⟩ h.follows.hold (h.follows.cueStop_off hs)

theorem enterRunning (h : ClockInv s) (hs : s.run.state = .ready) : ClockInv (enterMoving .running s) := by
  have none := h.follows.boundary_none (by rw [hs]; decide)
  exact enterMoving_clockInv h.inRange nofun ⟨fun hb => absurd (none ▸ hb) nofun, nofun⟩ h.follows.hold
    (h.follows.cueStop_off (by rw [hs]; decide))

/-- The boundary of a step span in progress moves on (R133). -/
theorem extendStep (h : ClockInv s) : ClockInv (extendStep s) := by
  obtain ⟨boundary, paused, hold, cueStop⟩ := h.follows
  refine (clockInv_iff _).2 ⟨{ h.inRange with boundary_le := fun b hb => ?_ }, ?_, paused, hold, cueStop⟩
  · obtain ⟨a, ha, rfl⟩ := Option.map_eq_some_iff.1 hb
    exact Clock.addSpan_le (h.inRange.boundary_le a ha)
  · show (s.clock.boundary.map _).isSome = true ↔ _
    rw [Option.isSome_map]
    exact boundary

/-- Whatever the run state was, PAUSED is entered with all that it asks for (R128). -/
theorem enterPaused_of (hr : s.clock.InRange) (hh : s.clock.holdLine = s.panel.holdCondition) :
    ClockInv (enterPaused s) :=
  (clockInv_iff _).2 ⟨hr.no_boundary.congr, ⟨nofun, nofun⟩, ⟨fun _ => rfl, fun _ => rfl⟩, hh, nofun⟩

theorem enterPaused (h : ClockInv s) : ClockInv (enterPaused s) := enterPaused_of h.inRange h.follows.hold

theorem leaveEnded (h : ClockInv s) : ClockInv (leaveEnded s) := by
  unfold Machine.leaveEnded
  split
  · exact h.enterPaused
  · exact h

theorem takeFunction (h : ClockInv s) (f : CueFunction) : ClockInv (takeFunction f s) := by
  unfold Machine.takeFunction
  split
  · rename_i hs; exact h.beginStep (.inl hs)
  · rename_i hs; exact h.beginStep (.inr hs)
  · exact h.extendStep
  · exact h.enterPaused
  · rename_i hs; exact h.resumeRun (by rw [hs]; decide)
  · exact h

/-! ### The pacing tick -/

/-- A run that moves and reaches the limit ends there, without a boundary (R85, R86). -/
theorem endRun (h : ClockInv s) (hm : s.run.state.moves = true) : ClockInv (endRun s) := by
  obtain ⟨boundary, paused, hold, cueStop⟩ := h.follows
  have unpaused : s.clock.pausedState ≠ true := fun hp => by rw [paused.1 hp] at hm; cases hm
  exact (clockInv_iff _).2 ⟨(h.inRange.at_time s.clock.limit_le (by decide)).no_boundary, ⟨nofun, nofun⟩,
    ⟨fun hp => absurd hp unpaused, nofun⟩, hold, fun _ => rfl⟩

/-- A boundary that is reached becomes T; a STEP line asserted sets the next one and otherwise the run pauses (R87). -/
theorem reachBoundary (h : ClockInv s) (hs : s.run.state = .stepping) {b : Nat} (hb : b ≤ s.clock.endTime) :
    ClockInv (reachBoundary b s) := by
  obtain ⟨boundary, paused, hold, cueStop⟩ := h.follows
  have reached := h.inRange.at_time (f := 0) hb (by decide)
  unfold Machine.reachBoundary
  dsimp only
  split
  · exact (clockInv_iff _).2 ⟨reached.with_boundary (Clock.addSpan_le hb), ⟨fun _ => hs, fun _ => rfl⟩, paused, hold,
      cueStop⟩
  · exact enterPaused_of reached hold

theorem advanceTime (h : ClockInv s) (hm : s.run.state.moves = true) : ClockInv (advanceTime s) := by
  unfold Machine.advanceTime
  split
  · exact h.endRun hm
  · rename_i hl
    have moved : ClockInv { s with clock.time := s.clock.candidate, clock.frac := s.clock.newFrac } :=
      h.set_clock (h.inRange.at_time (h.inRange.candidate_le (Bool.eq_false_iff.2 hl)) (Nat.mod_lt _ (by decide)))
        rfl rfl rfl
    dsimp only
    split
    · rename_i hs
      split
      · rename_i b hb
        exact h.reachBoundary hs (h.inRange.boundary_le b (Clock.boundaryReached_some hb))
      · exact moved
    · exact moved

theorem pacingTick (h : ClockInv s) : ClockInv (pacingTick s) := by
  unfold Machine.pacingTick
  split
  · rename_i ha
    have advanced := h.advanceTime (Bool.and_eq_true_iff.1 ha).1
    unfold testMark
    split
    · exact advanced.of_eq rfl rfl rfl rfl
    · exact advanced
  · exact h

/-! ### CLEAR MODEL, RESTORE and arbitration -/

/-- The clock is rewound with HOLD_LINE taken from the lines, in a state without boundary and PAUSED_STATE (R81). -/
theorem of_rewound {b : Bool} (h : s.clock.InRange) (hs : t.clock = { s.clock with
      time := 0, frac := 0, boundary := none, starve := false, backlog := b,
      holdLine := t.panel.holdCondition, pausedState := false })
    (hr : t.run.state ≠ .stepping) (hp : t.run.state ≠ .paused) (hq : t.sequencer.cueStop = false) : ClockInv t := by
  refine (clockInv_iff t).2 ⟨?_, ?_, ?_, ?_, fun hc => absurd (hq.symm.trans hc) nofun⟩
  · rw [hs]
    exact (h.at_time (Nat.zero_le _) (by decide)).no_boundary.congr
  · rw [hs]; exact ⟨nofun, fun hc => absurd hc hr⟩
  · rw [hs]; exact ⟨nofun, fun hc => absurd hc hp⟩
  · rw [hs]

theorem clearModel (h : ClockInv s) : ClockInv (clearModel s) := by
  rw [Evaluates.rest (clearModel_hands s)]
  exact of_rewound h.inRange rfl nofun nofun rfl

theorem arbitrate (h : ClockInv s) : ClockInv (arbitrate s) := by
  have claims : ClockInv (refreshClaims s) := h
  unfold Machine.arbitrate
  dsimp only
  split
  · split
    · exact claims.clearModel.of_eq (answerClear_clock _) (congrArg _ (answerClear_run _))
        (congrArg _ (answerClear_panel _)) (congrArg _ (answerClear_sequencer _))
    · exact claims
  · exact claims

theorem beginRestore (h : ClockInv s) : ClockInv (beginRestore s) := by
  rw [beginRestore_eq]
  exact (clockInv_iff _).2 ⟨h.inRange.no_boundary.congr, ⟨nofun, nofun⟩, ⟨nofun, nofun⟩, h.follows.hold, nofun⟩

/-- Compile and restore end in READY, which like their own run state has no boundary, no PAUSED_STATE and no cue stop. -/
theorem ready (h : ClockInv s) (hs : s.run.state.holdsStore = true) (hc : t.clock = s.clock)
    (hr : t.run.state = .ready) (hp : t.panel.cues = s.panel.cues) (hq : t.sequencer = s.sequencer) : ClockInv t := by
  obtain ⟨boundary, paused, hold, cueStop⟩ := h.follows
  have other : ∀ r : RunState, r.holdsStore = false → s.run.state ≠ r := fun r hf he => by
    rw [he, hf] at hs; cases hs
  refine (clockInv_iff t).2 ⟨hc ▸ h.inRange, ?_, ?_, ?_, ?_⟩
  · rw [hc, hr, boundary]; exact ⟨fun he => absurd he (other _ rfl), nofun⟩
  · rw [hc, hr, paused]; exact ⟨fun he => absurd he (other _ rfl), nofun⟩
  · rw [hc, holdCondition_congr hp]; exact hold
  · rw [hq]; exact fun hq => absurd (cueStop hq) (other _ rfl)

/-! ### Commands -/

theorem testActiveBuffer (h : ClockInv s) : ClockInv (testActiveBuffer s) := by
  unfold Machine.testActiveBuffer
  split
  · rename_i n _
    split
    · exact h
    · have rejected : ClockInv (withdrawSequencer (rejectBuffer n s)) := 
        (h.kept (rejectBuffer_kept n s)).of_eq rfl rfl rfl rfl
      exact rejected.kept (testStarve_activate_kept _)
  · exact h

theorem changeDirection (h : ClockInv s) (d : Direction) : ClockInv (changeDirection d s) := by
  obtain ⟨boundary, paused, hold, cueStop⟩ := h.follows
  have turned : ClockInv { s with clock.direction := d, clock.frac := 0, sequencer.stats.previous := none } :=
    (clockInv_iff _).2 ⟨{ h.inRange with frac := Nat.zero_lt_succ 255 }, boundary, paused, hold, cueStop⟩
  exact turned.testActiveBuffer.leaveEnded

theorem grantSetPacing (h : ClockInv s) (rate : U16) (direction : Byte) : ClockInv (grantSetPacing rate direction s) := by
  obtain ⟨rate_pos, rate_le⟩ := clampRate_mem rate.toNat
  have stored : ClockInv { s with clock.rate := clampRate rate.toNat } :=
    h.set_clock { h.inRange with rate_pos := rate_pos, rate_le := rate_le } rfl rfl rfl
  unfold Machine.grantSetPacing
  dsimp only
  repeat' split
  · exact h
  · exact stored
  · exact stored.changeDirection _
  · exact h

/-- SET END is taken only where no boundary stands, so that a lower end limit cuts none off (R92). -/
theorem grantSetEnd (h : ClockInv s) (endTime : U32) : ClockInv (grantSetEnd endTime s) := by
  unfold Machine.grantSetEnd
  split
  · rename_i hm
    have none := h.follows.boundary_none fun hs => by rw [hs] at hm; cases hm
    have bound : max endTime.toNat s.clock.time ≤ Config.maxTime :=
      max_le (Nat.le_of_lt_succ endTime.isLt) (h.inRange.time_le.trans h.inRange.endTime_le)
    have stored : ClockInv { s with clock.endTime := max endTime.toNat s.clock.time } :=
      h.set_clock { h.inRange with
        time_le := le_max_right ..
        endTime_le := bound
        boundary_le := fun b hb => absurd (none.symm.trans hb) nofun } rfl rfl rfl
    unfold grantSetEnd.leaveEndedForward
    dsimp only
    split
    · exact stored.leaveEnded
    · exact stored
  · exact h

theorem grantSetMark (h : ClockInv s) (presence : Byte) (mark : U32) : ClockInv (grantSetMark presence mark s) := by
  have bound : mark.toNat ≤ Config.maxTime := Nat.le_of_lt_succ mark.isLt
  unfold Machine.grantSetMark
  split
  · exact h.set_clock { h.inRange with mark_le := fun _ hm => Option.some.inj hm ▸ bound } rfl rfl rfl
  · exact h.set_clock { h.inRange with mark_le := nofun } rfl rfl rfl
  · exact h

theorem grantSetStepSpan (h : ClockInv s) (span : U32) : ClockInv (grantSetStepSpan span s) := by
  unfold Machine.grantSetStepSpan
  split
  · exact h
  · rename_i hs
    exact h.set_clock { h.inRange with
      span_pos := Nat.one_le_iff_ne_zero.2 hs
      span_le := Nat.le_of_lt_succ span.isLt } rfl rfl rfl

/-- STARVE clears, and the tests of activation and STARVE follow (R105). -/
theorem armBuffer (h : ClockInv s) (n : BufferName) : ClockInv (armBuffer n s) := by
  have armed : ∀ u : State, ClockInv u →
      ClockInv { u with sequencer.armOrder := u.sequencer.armOrder ++ [n], clock.starve := false } := fun u hu =>
    hu.kept ⟨rfl, rfl, rfl, rfl⟩
  exact (armed _ (h.kept (setBuffer_kept n _ s))).kept (testStarve_activate_kept _)

/-- The HOLD condition is formed anew of whatever the lines are (R97, R164). -/
theorem refreshHold_setCue (h : ClockInv s) (n : Fin 8) (c : CueLine) : ClockInv (refreshHold (setCue n c s)) := by
  obtain ⟨boundary, paused, -, cueStop⟩ := h.follows
  exact (clockInv_iff _).2 ⟨h.inRange.congr, boundary, paused, rfl, cueStop⟩

/-- Every command keeps the invariant: those that write the clock, the run, the lines or the cue stop each by its lemma,
and the others leave all of that alone. -/
theorem carryOut (h : ClockInv s) (c : Command) : ClockInv (carryOut c s) := by
  cases c <;> simp only [Machine.carryOut]
  case buildEnd =>
    unfold grantBuildEnd
    split
    · exact h
    rename_i hb
    split
    · exact h
    · obtain ⟨boundary, paused, hold, cueStop⟩ := h.follows
      rw [not_not.1 hb] at boundary paused cueStop
      exact (clockInv_iff _).2 ⟨h.inRange, ⟨fun e => absurd (boundary.1 e) nofun, nofun⟩,
        ⟨fun e => absurd (paused.1 e) nofun, nofun⟩, hold, fun e => absurd (cueStop e) nofun⟩
  case clearModel =>
    have taken : ClockInv { s with
      arbiter.clearPending := true
      arbiter.grant := if s.arbiter.grant = .compileRestore then .none else s.arbiter.grant } := h
    exact taken.arbitrate
  case setPolicy policy =>
    unfold grantSetPolicy
    dsimp only
    repeat' split
    case h_1.isFalse => exact (h.kept (applyPolicy_kept _ s)).of_eq rfl rfl rfl rfl
    all_goals exact h
  case overrideSwitch sw action =>
    unfold grantOverrideSwitch
    repeat' split
    case h_1 => exact h.kept (changeSwitch_kept _ _ _ s)
    all_goals exact h
  case retireSwitch sw =>
    unfold grantRetireSwitch
    repeat' split
    case h_1.isFalse => exact h.kept (changeSwitch_kept _ _ _ s)
    all_goals exact h
  case setPacing rate direction => exact h.grantSetPacing rate direction
  case setEnd endTime => exact h.grantSetEnd endTime
  case setMark presence mark => exact h.grantSetMark presence mark
  case setStepSpan span => exact h.grantSetStepSpan span
  case armBatch letter =>
    unfold grantArmBatch
    dsimp only
    repeat' split
    case h_1.isTrue => exact h.armBuffer _
    all_goals exact h
  case start =>
    unfold grantStart
    split
    · rename_i hs; exact h.enterRunning hs
    · exact h
  case pause =>
    unfold grantPause
    split
    · exact h.enterPaused
    · exact h.enterPaused
    all_goals exact h
  case resume =>
    unfold grantResume
    split
    · rename_i hs; exact h.resumeRun (by rw [hs]; decide)
    · rename_i hs; exact h.resumeRun (by rw [hs]; decide)
    · exact h
  case step =>
    unfold grantStep
    split
    · rename_i hs; exact h.beginStep (.inl hs)
    · rename_i hs; exact h.beginStep (.inr hs)
    · exact h.extendStep
    · exact h
  case restore =>
    unfold grantRestore
    split
    · exact h.beginRestore
    · exact h
  case setCueLine line function edge enable =>
    unfold directSetCueLine
    split
    · exact h.refreshHold_setCue _ _
    · exact h
  case clearLineFlags mask => exact h.kept ⟨rfl, rfl, clearedCues_holdCondition mask s.panel, rfl⟩
  all_goals
    refine h.of_eq ?_ ?_ ?_ ?_ <;>
      simp only [grantDefineNode, grantDefineSwitch, grantLookupSwitch, grantLookupNode, grantLookupIsland, grantWalkSet,
        grantWalkMove, grantReadTable, grantReadClock, directLoadBatch, acceptLoad, grantDiscardBatch,
        grantDiscardBatch.discard, grantReadBatch, directReadStatus, grantSetWatch, grantClearWatch, rewriteWatch,
        grantReadWatch, directReadEvents, directSetEventEnables, directSetInterruptLine, directReadInterrupt,
        directReadCueLine, directSetIndicator, setIndicatorLine, directReadIndicator, grantRefreshIndicators, report,
        directReadLines, directSetCheckMode] <;>
      (repeat' split) <;> simp

/-! ### The Sequencer and the resolver -/

/-- A CUE entry pauses a moving run, and sets the cue stop in ENDED alone (R115). -/
theorem applyCue (h : ClockInv s) : ClockInv (applyCue s) := by
  unfold Machine.applyCue
  split
  · exact h.enterPaused
  · exact h.enterPaused
  · rename_i hs
    obtain ⟨boundary, paused, hold, -⟩ := h.follows
    exact (clockInv_iff _).2 ⟨h.inRange, boundary, paused, hold, fun _ => hs⟩
  · exact h

theorem applyPlan (h : ClockInv s) (time : Nat) (p : EntryPlan) : ClockInv (applyPlan time p s) := by
  cases p with
  | fault => exact h
  | switch sw old new disc =>
    have committed := h.kept (commitSwitch_kept sw old new time s)
    unfold Machine.applyPlan
    dsimp only
    split
    · exact committed.of_eq rfl rfl rfl rfl
    · exact committed
  | source n v => exact h.kept (appendJob_kept _ s)
  | cue => exact h.applyCue

theorem advanceIndex (h : ClockInv s) (n : BufferName) : ClockInv (advanceIndex n s) := h.kept (setBuffer_kept ..)

theorem serveEntry (h : ClockInv s) (n : BufferName) (e : BitVec 64) : ClockInv (serveEntry n e s) := by
  unfold Machine.serveEntry
  dsimp only
  split
  · have counted : ClockInv (raise .entryFault { s with
      sequencer.stats.faults := saturate16 s.sequencer.stats.faults }) := h
    exact (counted.advanceIndex n).kept (endSpent_kept n _)
  split
  · split <;> exact h.kept ⟨rfl, rfl, rfl, rfl⟩
  · have stats : ClockInv { s with sequencer.stats := s.sequencer.stats.afterEntry s.clock (entryTime e) } := h
    refine ClockInv.kept ?_ (endSpent_kept n _)
    exact ((stats.applyPlan (entryTime e) (planEntry s e)).advanceIndex n).of_eq (handStats_clock ..)
      (congrArg _ (handStats_run ..)) (congrArg _ (handStats_panel ..)) (congrArg _ (handStats_sequencer ..))

/-- A job ends over whatever tables and counts its claim leaves. -/
theorem endJob (h : ClockInv s) (j : JobInProgress) : ClockInv (endJob j s) := h.kept (endJob_kept j s)

theorem endJob_committed (h : ClockInv s) (st : Store) (j : JobInProgress) :
    ClockInv (Machine.endJob j (commitStore st s)) := by
  have committed : ClockInv (commitStore st s) := h
  exact committed.endJob j

theorem mergeGuard (h : ClockInv s) (sw : Nat) (j : JobInProgress) : ClockInv (mergeGuard sw j s) := by
  unfold Machine.mergeGuard
  split
  · split
    · exact h.endJob j
    · split
      · split
        · exact h.endJob j
        · split
          · exact h
          · exact h.endJob j
      · exact h.endJob j
  · exact h.endJob j

theorem mergeRelabel (h : ClockInv s) (cause : Nat) (j : JobInProgress) : ClockInv (mergeRelabel cause j s) := by
  unfold Machine.mergeRelabel
  split
  · split
    · dsimp only
      split
      · exact h.endJob_committed _ _
      · exact h
    · exact h.endJob j
  · exact h.endJob j

theorem splitTurn (h : ClockInv s) (j : JobInProgress) : ClockInv (splitTurn j s) := by
  unfold Machine.splitTurn
  split
  · split
    · exact h
    · exact h.endJob j
  · exact h

theorem splitGuard (h : ClockInv s) (sw : Nat) (j : JobInProgress) : ClockInv (splitGuard sw j s) := by
  unfold Machine.splitGuard
  split
  · split
    · exact h.endJob j
    · split
      · split
        · exact h.splitTurn _
        · exact h.endJob j
      · exact h.endJob j
  · exact h.endJob j

theorem splitRelabel (h : ClockInv s) (cause : Nat) (j : JobInProgress) : ClockInv (splitRelabel cause j s) := by
  unfold Machine.splitRelabel
  split
  · split
    · dsimp only
      split
      · exact h.endJob_committed _ _
      · exact h
    · split
      · dsimp only
        split
        · exact h.endJob_committed _ _
        · exact h
      · exact h.endJob j
  · exact h.endJob j

theorem sourceJob (h : ClockInv s) (n : Nat) (v : Bool) (cause : Nat) (j : JobInProgress) :
    ClockInv (sourceJob n v cause j s) := by
  unfold Machine.sourceJob
  split
  · split
    · exact h.endJob j
    · split
      · exact h.endJob_committed _ _
      · exact h.endJob j
  · exact h.endJob j

/-! ### The parts of a step -/

theorem endFrame (h : ClockInv s) : ClockInv (endFrame s) := by
  unfold Machine.endFrame
  split
  · exact h
  · have loaded := h.kept (endLoad_kept s)
    exact arbitrate (loaded.of_eq (putBackCapture_clock _) (congrArg _ (putBackCapture_run _))
      (congrArg _ (putBackCapture_panel _)) (congrArg _ (putBackCapture_sequencer _)))

theorem part (h : ClockInv s) (hp : Part s t) : ClockInv t := by
  cases hp with
  | link e => exact h.of_eq (by rw [e]) (by rw [e]) (by rw [e]) (by rw [e])
  | front rest => exact h
  | arbitrate => exact h.arbitrate
  | release => exact h
  | claim => exact h
  | carryOut c => exact h.carryOut c
  | badCheck => exact h
  | capture => exact h
  | gather byte => exact h.kept (gatherByte_kept byte s)
  | endFrame => exact h.endFrame
  | sample n level => exact h.refreshHold_setCue n _
  | edge n => exact h.kept ⟨rfl, rfl, setCue_holdCondition n rfl rfl, rfl⟩
  | cueLine => exact h
  | takeFunction f => exact h.takeFunction f
  | tick => exact h.pacingTick
  | flash => exact h
  | reset => exact clockInv_reset
  | compileLists grant run stage => exact h
  | compileValues grant run stage => exact h
  | compileEnd grant run stage =>
    obtain ⟨a, w, rfl, -, e⟩ := compileEnd_eq s
    rw [e]
    exact h.ready (by rw [run]; rfl) rfl rfl rfl rfl
  | restoreFirst grant run stage =>
    obtain ⟨w, -, e⟩ := restoreFirstStage_eq s
    rw [e]
    have state : s.setBack.run.state = .restoring := run
    exact of_rewound h.inRange rfl (by rw [state]; decide) (by rw [state]; decide) rfl
  | restoreSecond grant run stage => exact h
  | restoreEnd grant run stage =>
    obtain ⟨a, w, rfl, -, e⟩ := restoreEnd_eq s
    rw [e]
    exact h.ready (by rw [run]; rfl) rfl rfl rfl rfl
  | serve grant head => exact h.serveEntry _ _
  | mergeGuard grant current job stage => exact h.mergeGuard _ _
  | mergeRelabel grant current job stage => exact h.mergeRelabel _ _
  | splitGuard grant current job stage => exact h.splitGuard _ _
  | splitTurn grant current job stage => exact h.splitTurn _
  | splitRelabel grant current job stage => exact h.splitRelabel _ _
  | sourceJob grant current job stage => exact h.sourceJob _ _ _ _

end ClockInv

/-- Settles O55: every part of a step keeps the ranges of the clock, and what follows the run and the lines. -/
theorem stepsKeepTheClockInvariant : Obligations.StepsKeepTheClockInvariant :=
  fun _ _ hs h => step_keeps (fun _ _ hs hp => ClockInv.part hs hp) hs h

end Sys2Proof.Machine
end

section
/-! PROOFS. The pacing tick (O52): where a tick ends, and the mark that it crosses (R83 to R88). -/

namespace Sys2Proof.Machine

/-! ### The terms of a tick -/

theorem Clock.unheld_iff (c : Clock) :
    c.unheld = true ↔ c.starve = false ∧ c.backlog = false ∧ c.holdLine = false ∧ c.pausedState = false := by
  simp [Clock.unheld, and_assoc]

theorem State.tickAdvances_iff (s : State) :
    s.tickAdvances = true ↔ (s.run.state = .running ∨ s.run.state = .stepping) ∧ s.clock.starve = false ∧
      s.clock.backlog = false ∧ s.clock.holdLine = false ∧ s.clock.pausedState = false := by
  rw [State.tickAdvances, Bool.and_eq_true, RunState.moves_iff, Clock.unheld_iff]

theorem Clock.atLimit_iff (c : Clock) :
    c.atLimit = true ↔ c.direction = .forward ∧ c.endTime - c.time ≤ c.advance ∨
      c.direction = .reverse ∧ c.time ≤ c.advance := by
  cases hd : c.direction <;> simp [Clock.atLimit, hd]

theorem Clock.not_atLimit_iff (c : Clock) :
    c.atLimit = false ↔ c.direction = .forward ∧ c.advance < c.endTime - c.time ∨
      c.direction = .reverse ∧ c.advance < c.time := by
  cases hd : c.direction <;> simp only [Clock.atLimit, hd, decide_eq_false_iff_not, not_le] <;> simp

theorem Clock.boundaryReached_iff (c : Clock) (t b : Nat) :
    c.boundaryReached t = some b ↔ c.boundary = some b ∧
      (c.direction = .forward ∧ b ≤ t ∨ c.direction = .reverse ∧ t ≤ b) := by
  cases hb : c.boundary with
  | none => simp [Clock.boundaryReached, hb]
  | some a =>
    cases hd : c.direction <;>
      simp only [Clock.boundaryReached, hb, hd, Option.ite_none_right_eq_some, Option.some.injEq] <;> aesop

/-- A boundary that lies beyond the candidate time is not reached. -/
theorem Clock.boundaryReached_none {c : Clock} {t : Nat}
    (h : c.boundary = none ∨ ∃ b, c.boundary = some b ∧
      (c.direction = .forward ∧ t < b ∨ c.direction = .reverse ∧ b < t)) : c.boundaryReached t = none := by
  refine Option.eq_none_iff_forall_ne_some.2 fun a ha => ?_
  obtain ⟨hb, hd⟩ := (c.boundaryReached_iff t a).1 ha
  obtain h | ⟨b, h, hn⟩ := h <;> rw [hb] at h <;> cases h
  obtain ⟨hf, hle⟩ | ⟨hf, hle⟩ := hd <;> obtain ⟨hf', hlt⟩ | ⟨hf', hlt⟩ := hn
  · omega
  · exact absurd (hf.symm.trans hf') nofun
  · exact absurd (hf.symm.trans hf') nofun
  · omega

/-! ### The advance -/

theorem advanceTime_ends {s : State} (h : s.clock.atLimit = true) : advanceTime s = endRun s := if_pos h

theorem advanceTime_reaches {s : State} {b : Nat} (hl : s.clock.atLimit = false) (hs : s.run.state = .stepping)
    (hb : s.clock.boundaryReached s.clock.candidate = some b) : advanceTime s = reachBoundary b s := by
  simp [advanceTime, hl, hs, hb]

theorem advanceTime_moves {s : State} (hl : s.clock.atLimit = false)
    (hb : s.run.state = .stepping → s.clock.boundaryReached s.clock.candidate = none) :
    advanceTime s = { s with clock.time := s.clock.candidate, clock.frac := s.clock.newFrac } := by
  by_cases hs : s.run.state = .stepping
  · simp [advanceTime, hl, hs, hb hs]
  · simp [advanceTime, hl, hs]

theorem reachBoundary_step {b : Nat} {s : State} (h : s.panel.stepCondition = true) :
    reachBoundary b s =
      { raise .stepDone s with
        clock := { s.clock with time := b, frac := 0, boundary := some (s.clock.addSpan b) } } := if_pos h

theorem reachBoundary_pause {b : Nat} {s : State} (h : s.panel.stepCondition = false) :
    reachBoundary b s = enterPaused (raise .stepDone { s with clock.time := b, clock.frac := 0 }) :=
  if_neg (by rw [raise_panel, h]; decide)

/-- A tick that advances ends the run at the limit, and short of it reaches the boundary or moves T. -/
theorem advanceTime_cases (s : State) :
    s.clock.atLimit = true ∧ advanceTime s = endRun s ∨
      s.clock.atLimit = false ∧ ((∃ b, advanceTime s = reachBoundary b s) ∨
        advanceTime s = { s with clock.time := s.clock.candidate, clock.frac := s.clock.newFrac }) := by
  cases hl : s.clock.atLimit with
  | true => exact .inl ⟨rfl, advanceTime_ends hl⟩
  | false =>
    refine .inr ⟨rfl, ?_⟩
    by_cases hs : s.run.state = .stepping
    · cases hb : s.clock.boundaryReached s.clock.candidate with
      | none => exact .inr (advanceTime_moves hl fun _ => hb)
      | some b => exact .inl ⟨b, advanceTime_reaches hl hs hb⟩
    · exact .inr (advanceTime_moves hl fun h => absurd h hs)

/-- What an advance writes, with no CLEAR MODEL brought to wait: of the clock T, F, the boundary and PAUSED_STATE, the
run state, the cue stop, the claim of the Sequencer, and the flags ENDED and STEP_DONE. -/
structure Advanced (s t : State) : Prop where
  rest : t = { s with
    clock := t.clock, run := t.run, watch.flags := t.watch.flags, sequencer.cueStop := t.sequencer.cueStop,
    arbiter := t.arbiter }
  clock : t.clock = { s.clock with
    time := t.clock.time, frac := t.clock.frac, boundary := t.clock.boundary, pausedState := t.clock.pausedState }
  clearPending : t.arbiter.clearPending = s.arbiter.clearPending
  flag : ∀ e, e ≠ .ended → e ≠ .stepDone → t.flag e = s.flag e

theorem endRun_advanced (s : State) : Advanced s (endRun s) := ⟨rfl, rfl, rfl, fun _ he _ => raise_flag_other he _⟩

/-- A boundary that is reached raises STEP_DONE, and not ENDED. -/
theorem reachBoundary_advanced (b : Nat) (s : State) :
    Advanced s (reachBoundary b s) ∧ (reachBoundary b s).flag .stepDone = true ∧
      (reachBoundary b s).flag .ended = s.flag .ended := by
  have other : ∀ e, e ≠ .stepDone → (raise .stepDone s).flag e = s.flag e := fun e he => raise_flag_other he s
  cases hc : s.panel.stepCondition with
  | true =>
    rw [reachBoundary_step hc]
    exact ⟨⟨rfl, rfl, rfl, fun e _ => other e⟩, raise_flag_same .stepDone s, other _ (by decide)⟩
  | false =>
    rw [reachBoundary_pause hc]
    exact ⟨⟨rfl, rfl, rfl, fun e _ => other e⟩, raise_flag_same .stepDone s, other _ (by decide)⟩

theorem advanceTime_advanced (s : State) : Advanced s (advanceTime s) := by
  obtain ⟨-, h⟩ | ⟨-, ⟨b, h⟩ | h⟩ := advanceTime_cases s <;> rw [h]
  · exact endRun_advanced s
  · exact (reachBoundary_advanced b s).1
  · exact ⟨rfl, rfl, rfl, fun _ _ _ => rfl⟩

/-- Short of the limit no run ends (R85, R86). -/
theorem advanceTime_flag_ended {s : State} (hl : s.clock.atLimit = false) :
    (advanceTime s).flag .ended = s.flag .ended := by
  obtain ⟨h, -⟩ | ⟨-, ⟨b, h⟩ | h⟩ := advanceTime_cases s
  · exact absurd (hl.symm.trans h) (by decide)
  · rw [h]; exact (reachBoundary_advanced b s).2.2
  · rw [h]; rfl

/-! ### The mark -/

theorem testMark_eq (old : Nat) (s : State) : ∃ f, testMark old s = { s with watch.flags := f } ∧
    ∀ e, State.flag { s with watch.flags := f } e =
      (s.flag e || (decide (e = .mark) && s.clock.crosses old s.clock.time)) := by
  unfold testMark
  cases s.clock.crosses old s.clock.time with
  | true =>
    refine ⟨_, rfl, fun e => ?_⟩
    rw [Bool.and_true]
    exact raise_flag .mark e s
  | false => exact ⟨_, rfl, fun e => by rw [Bool.and_false, Bool.or_false]⟩

/-! ### The row -/

theorem exec_pacingTick_held {s : State} (hc : s.arbiter.clearPending = false) (h : ¬s.tickAdvances = true) :
    exec .pacingTick s = .next { s with arbiter := (arbitrate s).arbiter } := by
  have held : pacingTick s = s := if_neg h
  rw [← arbitrate_eq s hc]
  exact congrArg (fun u => Host.Outcome.next (arbitrate u)) held

/-- The advance, then the flag MARK where the tick crosses the mark (R88), then the arbiter's choice. -/
structure Ticked (s t : State) : Prop where
  rest : t = { s with
    clock := t.clock, run := t.run, watch.flags := t.watch.flags, sequencer.cueStop := t.sequencer.cueStop,
    arbiter := t.arbiter }
  clock : t.clock = (advanceTime s).clock
  run : t.run = (advanceTime s).run
  cueStop : t.sequencer.cueStop = (advanceTime s).sequencer.cueStop
  flag : ∀ e, e ≠ .mark → t.flag e = (advanceTime s).flag e
  mark : t.flag .mark = (s.flag .mark || s.clock.crosses s.clock.time t.clock.time)

theorem exec_pacingTick {s : State} (hc : s.arbiter.clearPending = false) (h : s.tickAdvances = true) :
    ∃ t, exec .pacingTick s = .next t ∧ Ticked s t := by
  obtain ⟨rest, clock, clear, flag⟩ := advanceTime_advanced s
  obtain ⟨f, marked, hf⟩ := testMark_eq s.clock.time (advanceTime s)
  have ticked : pacingTick s = { advanceTime s with watch.flags := f } := (if_pos h).trans marked
  have exec : Machine.exec .pacingTick s = .next (arbitrate { advanceTime s with watch.flags := f }) :=
    congrArg (fun u => Host.Outcome.next (arbitrate u)) ticked
  rw [arbitrate_eq { advanceTime s with watch.flags := f } (clear.trans hc)] at exec
  have crosses : (advanceTime s).clock.crosses s.clock.time = s.clock.crosses s.clock.time := by
    rw [clock]
    rfl
  refine ⟨_, exec, ?_, rfl, rfl, rfl, fun e he => ?_, ?_⟩
  · exact congrArg (fun u : State =>
      { u with watch.flags := f, arbiter := (arbitrate { advanceTime s with watch.flags := f }).arbiter }) rest
  · refine (hf e).trans ?_
    rw [decide_eq_false he, Bool.false_and, Bool.or_false]
  · refine (hf .mark).trans ?_
    rw [flag .mark (by decide) (by decide), crosses]
    rfl

/-- Settles O52: the tick that is held, and the three ends of one that advances. -/
theorem pacingTickAdvancesTheClock : Obligations.PacingTickAdvancesTheClock := by
  intro s hc
  refine ⟨fun hn => ?_, fun advance new hm starve backlog hold paused ha hnew => ?_⟩
  · exact ⟨_, exec_pacingTick_held hc fun h => hn (s.tickAdvances_iff.1 h), rfl⟩
  obtain ⟨t, exec, rest, clock, run, cueStop, flag, mark⟩ := exec_pacingTick hc
    (s.tickAdvances_iff.2 ⟨hm, starve, backlog, hold, paused⟩)
  have candidate : new = s.clock.candidate := by
    rw [hnew, ha]
    cases hd : s.clock.direction <;> simp [Clock.candidate, Clock.advance, hd]
  subst ha candidate
  refine ⟨t, exec, rest, fun e he hs hm => ?_, fun hl => ?_, fun hl => ⟨?_, fun b hs hb hd => ?_, fun hd => ?_⟩, ?_⟩
  · exact (flag e hm).trans ((advanceTime_advanced s).flag e he hs)
  · rw [clock, run, cueStop, flag .ended (by decide), flag .stepDone (by decide),
      advanceTime_ends (s.clock.atLimit_iff.2 hl)]
    refine ⟨?_, rfl, rfl, raise_flag_same .., raise_flag_other (by decide) _⟩
    refine congrArg (fun n => { s.clock with time := n, frac := 0, boundary := none }) ?_
    cases hd : s.clock.direction <;> simp [Clock.limit, hd]
  · rw [flag .ended (by decide)]
    exact advanceTime_flag_ended (s.clock.not_atLimit_iff.2 hl)
  · rw [clock, run, cueStop, flag .stepDone (by decide), advanceTime_reaches (s.clock.not_atLimit_iff.2 hl) hs
      ((s.clock.boundaryReached_iff _ b).2 ⟨hb, hd⟩)]
    refine ⟨(reachBoundary_advanced b s).2.1, fun hp => ?_, fun hp => ?_⟩
    · rw [reachBoundary_step hp]
      refine ⟨rfl, rfl, ?_⟩
      refine congrArg (fun n => { s.clock with time := b, frac := 0, boundary := some n }) ?_
      cases hd : s.clock.direction <;> simp [Clock.addSpan, hd]
    · rw [reachBoundary_pause hp]
      exact ⟨rfl, rfl, rfl⟩
  · have passes : s.run.state = .stepping → s.clock.boundaryReached s.clock.candidate = none := fun hs =>
      Clock.boundaryReached_none (hd.resolve_left fun hr => absurd (hs.symm.trans hr) nofun)
    rw [clock, run, cueStop, flag .stepDone (by decide), advanceTime_moves (s.clock.not_atLimit_iff.2 hl) passes]
    exact ⟨rfl, rfl, rfl, rfl⟩
  · rw [mark]
    cases hm : s.clock.mark <;> cases hd : s.clock.direction <;> simp [Clock.crosses, hm, hd]

end Sys2Proof.Machine
end

section
/-! PROOFS. START, RESUME, STEP and PAUSE (O37): each grant answers, and a run that begins to move reads nothing of the link
and of the arbiter (R125, R127, R128, R130 to R133). -/

namespace Sys2Proof.Machine

/-! ### Commands that their grant answers on a quiet part -/

section
variable {c : Command} {check : Option Byte} {s u : State} {st : Status} {data : List Byte}

theorem exec_answered (h : Taken c check s) (ha : accessOf c = .claim) (hq : Quiet s)
    (hu : carryOut c (s.inGrant c) = answer st data u) (hl : u.link = s.link.waits c)
    (hr : u.arbiter = (s.inGrant c).arbiter) :
    exec (c.toInstr check) s = .next { u with link := s.link.replied c st data, arbiter := Arbiter.next u } := by
  refine (exec_toInstr ..).trans (congrArg _ (hostCommand_answered h ha hq hu hl ?_))
  rw [hr, State.inGrant, hq.1]

/-- Where no job is in progress and no entry due after the command, the store is left free as it was found. -/
theorem exec_answered_free (h : Taken c check s) (ha : accessOf c = .claim) (hq : Quiet s)
    (hu : carryOut c (s.inGrant c) = answer st data u) (hl : u.link = s.link.waits c)
    (hr : u.arbiter = (s.inGrant c).arbiter) (hc : u.resolver = s.resolver) (hn : u.sequencerReady = false) :
    exec (c.toInstr check) s = .next { u with link := s.link.replied c st data, arbiter := s.arbiter } := by
  have ⟨free, _, current, _⟩ := hq
  have next : Arbiter.next u = s.arbiter := by
    rw [Arbiter.next_of_not_ready hn, hc, if_pos current, free]
    rfl
  rw [← next]
  exact exec_answered h ha hq hu hl hr

end

/-! ### A run that begins to move -/

/-- The state with another link and arbiter. -/
def State.onLink (l : Link) (a : Arbiter) (s : State) : State := { s with link := l, arbiter := a }

section
variable (l : Link) (a : Arbiter)

theorem onLink_setBuffer (n : BufferName) (b : Buffer) (s : State) :
    setBuffer n b (s.onLink l a) = (setBuffer n b s).onLink l a := by
  cases n <;> rfl

theorem onLink_activateFrom (o : List BufferName) (s : State) :
    activateFrom o (s.onLink l a) = (activateFrom o s).onLink l a := by
  induction o generalizing s with
  | nil => rfl
  | cons n rest ih =>
    let u : State := { s with sequencer.armOrder := rest }
    show (if (u.sequencer.buffer n).tag = some u.clock.direction then
        setBuffer n { u.sequencer.buffer n with state := .active, index := 0 } (u.onLink l a)
      else activateFrom rest (rejectBuffer n (u.onLink l a))) = State.onLink l a
        (if (u.sequencer.buffer n).tag = some u.clock.direction then
          setBuffer n { u.sequencer.buffer n with state := .active, index := 0 } u
        else activateFrom rest (rejectBuffer n u))
    split
    · exact onLink_setBuffer ..
    · rw [rejectBuffer, onLink_setBuffer, rejectBuffer, ← ih]
      rfl

theorem onLink_activate (s : State) : activate (s.onLink l a) = (activate s).onLink l a := by
  show (if s.run.state.appliesEntries && !s.sequencer.anyBuffer .active then
      activateFrom s.sequencer.armOrder (s.onLink l a) else s.onLink l a) = _
  unfold activate
  split
  · exact onLink_activateFrom ..
  · rfl

theorem onLink_testStarve (s : State) : testStarve (s.onLink l a) = (testStarve s).onLink l a := by
  show (if s.run.state.moves && !s.sequencer.anyBuffer .active && !s.sequencer.anyBuffer .armed && !s.clock.starve then
      State.onLink l a (raise .starved { s with clock.starve := true }) else s.onLink l a) = _
  unfold testStarve
  split <;> rfl

theorem onLink_enterMoving (target : RunState) (s : State) :
    enterMoving target (s.onLink l a) = (enterMoving target s).onLink l a := by
  show testStarve (activate (State.onLink l a { s with run.state := target, clock.pausedState := false })) = _
  rw [onLink_activate, onLink_testStarve]
  rfl

end

/-- A command whose grant sets the clock and lets the run begin to move does so to the state as it was found. -/
theorem exec_enterMoving {c : Command} {check : Option Byte} {s u : State} {target : RunState} (h : Taken c check s)
    (ha : accessOf c = .claim) (hq : Quiet s)
    (hu : carryOut c (s.inGrant c) =
      answer .ok [] (enterMoving target (u.onLink (s.link.waits c) (s.inGrant c).arbiter))) :
    ∃ t, exec (c.toInstr check) s = .next t ∧
      t = { enterMoving target u with link := s.link.replied c .ok [], arbiter := t.arbiter } := by
  rw [onLink_enterMoving] at hu
  exact ⟨_, exec_answered h ha hq hu rfl rfl, rfl⟩

/-! ### The grants -/

theorem grantStart_ok {s : State} (h : s.run.state = .ready) :
    grantStart s = answer .ok [] (enterMoving .running s) := by
  simp only [grantStart, h]

theorem grantStart_protect {s : State} (h : s.run.state ≠ .ready) : grantStart s = answer .protect [] s := by
  unfold grantStart
  split
  · exact absurd ‹_› h
  · rfl

theorem grantResume_ok {s : State} (h : s.run.state = .stepping ∨ s.run.state = .paused) :
    grantResume s = answer .ok [] (resumeRun s) := by
  obtain h | h := h <;> simp only [grantResume, h]

theorem grantResume_protect {s : State} (hs : s.run.state ≠ .stepping) (hp : s.run.state ≠ .paused) :
    grantResume s = answer .protect [] s := by
  unfold grantResume
  split
  · exact absurd ‹_› hs
  · exact absurd ‹_› hp
  · rfl

theorem grantStep_begin {s : State} (h : s.run.state = .ready ∨ s.run.state = .paused) :
    grantStep s = answer .ok [] (beginStep s) := by
  obtain h | h := h <;> simp only [grantStep, h]

theorem grantStep_extend {s : State} (h : s.run.state = .stepping) : grantStep s = answer .ok [] (extendStep s) := by
  simp only [grantStep, h]

theorem grantStep_protect {s : State} (hr : s.run.state ≠ .ready) (hp : s.run.state ≠ .paused)
    (hs : s.run.state ≠ .stepping) : grantStep s = answer .protect [] s := by
  unfold grantStep
  split
  · exact absurd ‹_› hr
  · exact absurd ‹_› hp
  · exact absurd ‹_› hs
  · rfl

theorem grantPause_enters {s : State} (h : s.run.state = .running ∨ s.run.state = .stepping) :
    grantPause s = answer .ok [] (enterPaused s) := by
  obtain h | h := h <;> simp only [grantPause, h]

theorem grantPause_paused {s : State} (h : s.run.state = .paused) : grantPause s = answer .ok [] s := by
  simp only [grantPause, h]

theorem grantPause_protect {s : State} (hr : s.run.state ≠ .running) (hs : s.run.state ≠ .stepping)
    (hp : s.run.state ≠ .paused) : grantPause s = answer .protect [] s := by
  unfold grantPause
  split
  · exact absurd ‹_› hr
  · exact absurd ‹_› hs
  · exact absurd ‹_› hp
  · rfl

/-! ### The obligation -/

/-- In PAUSED no entry is due (R111). -/
theorem sequencerReady_paused {s : State} (h : s.run.state = .paused) : s.sequencerReady = false := by
  simp [State.sequencerReady, h, RunState.appliesEntries]

/-- Settles O37: each command is its grant's branch on a quiet part. -/
theorem runCommandsMoveTheRun : Obligations.RunCommandsMoveTheRun := by
  refine ⟨fun check s h hq => ⟨fun hr => ?_, fun hr => ?_⟩, fun check s h hq => ⟨fun hr => ?_, fun hs hp => ?_⟩,
    fun check s h hq => ⟨fun hr => ?_, fun b hr hb => ?_, fun hr hp hs => ?_⟩,
    fun check s h hq => ⟨fun hr => ?_, fun hp => ?_, fun hr hs hp => ?_⟩⟩
  · exact exec_enterMoving (u := s) h rfl hq (grantStart_ok (s := s.inGrant .start) hr)
  · exact exec_read h rfl hq (grantStart_protect (s := s.inGrant .start) hr)
  · exact exec_enterMoving (u := { s with clock.boundary := none }) h rfl hq
      (grantResume_ok (s := s.inGrant .resume) hr)
  · exact exec_read h rfl hq (grantResume_protect (s := s.inGrant .resume) hs hp)
  · obtain ⟨t, exec, ht⟩ := exec_enterMoving (u := { s with clock.boundary := some (s.clock.addSpan s.clock.time) })
      h rfl hq (grantStep_begin (s := s.inGrant .step) hr)
    refine ⟨t, exec, ht.trans ?_⟩
    refine congrArg (fun n => { enterMoving .stepping { s with clock.boundary := some n } with
      link := s.link.replied .step .ok [], arbiter := t.arbiter }) ?_
    cases hd : s.clock.direction <;> simp [Clock.addSpan, hd]
  · have ready : (extendStep (s.inGrant .step)).sequencerReady = s.sequencerReady := rfl
    refine (exec_answered_free h rfl hq (grantStep_extend (s := s.inGrant .step) hr) rfl rfl rfl
      (ready.trans hq.2.2.2.2.1)).trans ?_
    refine congrArg (fun n => Host.Outcome.next
      { s with link := s.link.replied .step .ok [], clock.boundary := n }) ?_
    rw [show (s.inGrant .step).clock.boundary = some b from hb, Option.map_some]
    cases hd : s.clock.direction <;> simp [Clock.addSpan, hd, State.inGrant]
  · exact exec_read h rfl hq (grantStep_protect (s := s.inGrant .step) hr hp hs)
  · have withdrawn : (enterPaused (s.inGrant .pause)).arbiter = (s.inGrant .pause).arbiter := by
      rw [enterPaused, withdrawSequencer, State.inGrant, hq.1]
      rfl
    exact exec_answered_free h rfl hq (grantPause_enters (s := s.inGrant .pause) hr) rfl withdrawn rfl
      (sequencerReady_paused rfl)
  · exact exec_read h rfl hq (grantPause_paused (s := s.inGrant .pause) hp)
  · exact exec_read h rfl hq (grantPause_protect (s := s.inGrant .pause) hr hs hp)

end Sys2Proof.Machine
end

section
/-! PROOFS. The clock's settings (O34): SET PACING with a change of direction, SET END with the release from ENDED, SET MARK
and SET STEP SPAN (R90 to R94, R109, R121, R136). -/

namespace Sys2Proof.Machine

/-! ### The operands -/

/-- A direction's code is the byte that was parsed (R193). -/
theorem parseDirection_code {b : Byte} {d : Direction} (h : parseDirection b = some d) : d.code = b := by
  unfold parseDirection at h
  split at h <;> cases h <;> exact BitVec.eq_of_toNat_eq (Eq.symm ‹_›)

theorem clampRate_eq (r : Nat) : clampRate r = if r = 0 then 1 else min r 16384 := by
  unfold clampRate Config.maxRate
  split
  · rfl
  · split <;> omega

theorem Clock.canMove_iff (c : Clock) :
    c.canMove = true ↔ c.direction = .forward ∧ c.time < c.endTime ∨ c.direction = .reverse ∧ 0 < c.time := by
  cases hd : c.direction <;> simp [Clock.canMove, hd]

theorem RunState.mayTurn_iff (r : RunState) : r.mayTurn = true ↔ r = .ready ∨ r = .paused ∨ r = .ended := by
  cases r <;> decide

theorem RunState.mayTurn_off {r : RunState} (h1 : r ≠ .ready) (h2 : r ≠ .paused) (h3 : r ≠ .ended) :
    r.mayTurn = false :=
  Bool.eq_false_iff.2 fun h => by
    obtain h | h | h := r.mayTurn_iff.1 h <;> contradiction

theorem RunState.moves_of_mayTurn {r : RunState} (h : r.mayTurn = true) : r.moves = false := by
  cases r <;> cases h <;> rfl

/-! ### The release from ENDED (R136) -/

theorem leaveEnded_leaves {s : State} (h : s.run.state = .ended) (hc : s.clock.canMove = true) :
    leaveEnded s = enterPaused s := if_pos ⟨h, hc⟩

theorem leaveEnded_stays {s : State} (h : ¬(s.run.state = .ended ∧ s.clock.canMove = true)) : leaveEnded s = s :=
  if_neg h

/-- A release writes the clock's boundary and PAUSED_STATE, the run state, the cue stop and the Sequencer's claim. -/
theorem leaveEnded_rest (s : State) :
    leaveEnded s = { s with
      clock := (leaveEnded s).clock, run := (leaveEnded s).run,
      sequencer.cueStop := (leaveEnded s).sequencer.cueStop, arbiter := (leaveEnded s).arbiter } := by
  unfold leaveEnded
  split <;> rfl

/-- The arbiter without a claim of the Sequencer. -/
def Arbiter.Unclaimed (a : Arbiter) : Prop := a.sequencerClaim = false ∧ a.sequencerWait = 0

theorem Arbiter.Unclaimed.withdraw {s : State} (h : s.arbiter.Unclaimed) : (withdrawSequencer s).arbiter = s.arbiter := by
  obtain ⟨claim, wait⟩ := h
  rw [withdrawSequencer, ← claim, ← wait]

theorem leaveEnded_arbiter {s : State} (h : s.arbiter.Unclaimed) : (leaveEnded s).arbiter = s.arbiter := by
  unfold leaveEnded
  split
  · exact h.withdraw
  · rfl

/-! ### The test of the ACTIVE buffer (R109, R111) -/

/-- Activation writes the Sequencer and the event flags alone. -/
theorem activateFrom_rest (l : List BufferName) (s : State) :
    activateFrom l s = { s with
      sequencer := (activateFrom l s).sequencer, watch.flags := (activateFrom l s).watch.flags } := by
  induction l generalizing s with
  | nil => rfl
  | cons n rest ih =>
    rw [activateFrom]
    dsimp only
    split
    · cases n <;> rfl
    · refine (ih _).trans ?_
      cases n <;> rfl

theorem activate_rest (s : State) :
    activate s = { s with sequencer := (activate s).sequencer, watch.flags := (activate s).watch.flags } := by
  unfold activate
  split
  · exact activateFrom_rest ..
  · rfl

/-- A buffer that has been emptied has no tag that activation would accept. -/
theorem activateFrom_cleared {n : BufferName} (l : List BufferName) {s : State} (h : s.sequencer.buffer n = .cleared) :
    (activateFrom l s).sequencer.buffer n = .cleared := by
  induction l generalizing s with
  | nil => exact h
  | cons m rest ih =>
    have taken : ({ s with sequencer.armOrder := rest } : State).sequencer.buffer n = .cleared := by
      cases n <;> exact h
    rw [activateFrom]
    dsimp only
    split
    · rename_i ht
      have hm : n ≠ m := by
        rintro rfl
        rw [taken] at ht
        cases ht
      rw [setBuffer_other _ _ _ _ hm, taken]
    · refine ih ?_
      rw [rejectBuffer, raise_sequencer]
      by_cases hm : n = m
      · rw [hm, setBuffer_buffer]
      · rw [setBuffer_other _ _ _ _ hm, taken]

theorem activate_cleared {n : BufferName} {s : State} (h : s.sequencer.buffer n = .cleared) :
    (activate s).sequencer.buffer n = .cleared := by
  unfold activate
  split
  · exact activateFrom_cleared _ h
  · exact h

/-- In a run that does not move a buffer of another tag is rejected and activation tested, and nothing starves. -/
theorem testActiveBuffer_rejects {s : State} {n : BufferName} (hm : s.run.state.moves = false)
    (ha : s.sequencer.activeName = some n) (ht : (s.sequencer.buffer n).tag ≠ some s.clock.direction) :
    testActiveBuffer s = activate (withdrawSequencer (rejectBuffer n s)) := by
  unfold testActiveBuffer
  rw [ha]
  dsimp only
  rw [if_neg ht]
  refine testStarve_still fun h => ?_
  rw [activate_run, withdrawSequencer_run, rejectBuffer_run, hm] at h
  exact absurd h.1 (by decide)

theorem testActiveBuffer_still {s : State}
    (h : ∀ n, s.sequencer.activeName = some n → (s.sequencer.buffer n).tag = some s.clock.direction) :
    testActiveBuffer s = s := by
  unfold testActiveBuffer
  split
  · rename_i n hn
    exact if_pos (h n hn)
  · rfl

/-- What the test of the ACTIVE buffer does in a run that does not move. -/
structure Tested (s t : State) : Prop where
  rest : t = { s with sequencer := t.sequencer, watch.flags := t.watch.flags, arbiter := t.arbiter }
  stats : t.sequencer.stats = s.sequencer.stats
  arbiter : s.arbiter.Unclaimed → t.arbiter = s.arbiter
  rejected : ∀ n, s.sequencer.activeName = some n → (s.sequencer.buffer n).tag ≠ some s.clock.direction →
    t.sequencer.buffer n = .cleared ∧ t.flag .batchRejected = true
  kept : (∀ n, s.sequencer.activeName = some n → (s.sequencer.buffer n).tag = some s.clock.direction) → t = s

theorem testActiveBuffer_tested {s : State} (hm : s.run.state.moves = false) : Tested s (testActiveBuffer s) := by
  by_cases h : ∀ n, s.sequencer.activeName = some n → (s.sequencer.buffer n).tag = some s.clock.direction
  · rw [testActiveBuffer_still h]
    exact ⟨rfl, rfl, fun _ => rfl, fun n hn ht => absurd (h n hn) ht, fun _ => rfl⟩
  · obtain ⟨n, hn, ht⟩ : ∃ n, s.sequencer.activeName = some n ∧ (s.sequencer.buffer n).tag ≠ some s.clock.direction := by
      simpa using h
    have cleared : (withdrawSequencer (rejectBuffer n s)).sequencer.buffer n = .cleared := setBuffer_buffer ..
    rw [testActiveBuffer_rejects hm hn ht]
    refine ⟨?_, ?_, fun hu => ?_, fun m hm' _ => ?_, fun h' => absurd h' h⟩
    · rw [activate_arbiter]
      refine (activate_rest _).trans ?_
      cases n <;> rfl
    · rw [(activate_unwatched _).stats]
      exact setBuffer_stats ..
    · rw [activate_arbiter]
      refine Eq.trans ?_ hu.withdraw
      cases n <;> rfl
    · cases hn.symm.trans hm'
      exact ⟨activate_cleared cleared, activate_keepsFlags _ _ (raise_flag_same ..)⟩

/-! ### A change of direction (R91) -/

/-- What a change of direction does in a run that does not move. -/
structure Turned (d : Direction) (s t : State) : Prop where
  rest : t = { s with
    clock := t.clock, run := t.run, sequencer := t.sequencer, watch.flags := t.watch.flags, arbiter := t.arbiter }
  stats : t.sequencer.stats = { s.sequencer.stats with previous := none }
  arbiter : s.arbiter.Unclaimed → t.arbiter = s.arbiter
  rejected : ∀ n, s.sequencer.activeName = some n → (s.sequencer.buffer n).tag ≠ some d →
    t.sequencer.buffer n = .cleared ∧ t.flag .batchRejected = true
  kept : (∀ n, s.sequencer.activeName = some n → (s.sequencer.buffer n).tag = some d) →
    t.sequencer.bufferA = s.sequencer.bufferA ∧ t.sequencer.bufferB = s.sequencer.bufferB ∧
      t.sequencer.armOrder = s.sequencer.armOrder ∧ t.watch = s.watch
  released : s.run.state = .ended → { s.clock with direction := d }.canMove = true →
    t.run = { s.run with state := .paused } ∧
      t.clock = { s.clock with direction := d, frac := 0, boundary := none, pausedState := true }
  stays : ¬(s.run.state = .ended ∧ { s.clock with direction := d }.canMove = true) →
    t.run = s.run ∧ t.clock = { s.clock with direction := d, frac := 0 }

theorem changeDirection_turned (d : Direction) {s : State} (hm : s.run.state.moves = false) :
    Turned d s (changeDirection d s) := by
  let a : State := { s with clock.direction := d, clock.frac := 0, sequencer.stats.previous := none }
  obtain ⟨rest, stats, arbiter, rejected, kept⟩ := testActiveBuffer_tested (s := a) hm
  have buffer : ∀ n, a.sequencer.buffer n = s.sequencer.buffer n := fun n => by cases n <;> rfl
  have run : (testActiveBuffer a).run = s.run := by rw [rest]
  have clock : (testActiveBuffer a).clock = { s.clock with direction := d, frac := 0 } := by rw [rest]
  have canMove : (testActiveBuffer a).clock.canMove = { s.clock with direction := d }.canMove := by rw [clock]; rfl
  have left := leaveEnded_rest (testActiveBuffer a)
  have watch := leaveEnded_watch (testActiveBuffer a)
  have sequencer := congrArg State.sequencer left
  show Turned d s (leaveEnded (testActiveBuffer a))
  refine ⟨?_, ?_, fun hu => ?_, fun n hn ht => ?_, fun hk => ?_, fun he hc => ?_, fun hn => ?_⟩
  · generalize leaveEnded (testActiveBuffer a) = t at left
    rw [left, rest]
  · rw [sequencer]
    exact stats
  · have stands := arbiter hu
    rw [leaveEnded_arbiter (by rw [stands]; exact hu)]
    exact stands
  · obtain ⟨cleared, flag⟩ := rejected n hn (by rw [buffer]; exact ht)
    refine ⟨?_, (flag_congr (by rw [watch]) _).trans flag⟩
    rw [sequencer, ← cleared]
    cases n <;> rfl
  · have still := kept fun n hn => (congrArg Buffer.tag (buffer n)).trans (hk n hn)
    rw [watch, sequencer, still]
    exact ⟨rfl, rfl, rfl, rfl⟩
  · rw [leaveEnded_leaves (by rw [run]; exact he) (by rw [canMove]; exact hc)]
    show { (testActiveBuffer a).run with state := .paused } = _ ∧
      { (testActiveBuffer a).clock with pausedState := true, boundary := none } = _
    rw [run, clock]
    exact ⟨rfl, rfl⟩
  · rw [leaveEnded_stays (by rw [run, canMove]; exact hn)]
    exact ⟨run, clock⟩

/-! ### The grants -/

theorem grantSetPacing_range {rate : U16} {b : Byte} {s : State} (h : parseDirection b = none) :
    grantSetPacing rate b s = answer .range [] s := by
  simp only [grantSetPacing, h]

theorem grantSetPacing_same {rate : U16} {b : Byte} {s : State} (h : parseDirection b = some s.clock.direction) :
    grantSetPacing rate b s =
      answer .ok (reply16 (clampRate rate.toNat) ++ [b]) { s with clock.rate := clampRate rate.toNat } := by
  simp [grantSetPacing, h, parseDirection_code h]

theorem grantSetPacing_protect {rate : U16} {b : Byte} {d : Direction} {s : State} (h : parseDirection b = some d)
    (hd : d ≠ s.clock.direction) (hm : s.run.state.mayTurn = false) :
    grantSetPacing rate b s = answer .protect [] s := by
  simp only [grantSetPacing, h, if_pos (And.intro hd hm)]

theorem grantSetPacing_turns {rate : U16} {b : Byte} {d : Direction} {s : State} (h : parseDirection b = some d)
    (hd : d ≠ s.clock.direction) (hm : s.run.state.mayTurn = true) :
    grantSetPacing rate b s = answer .ok (reply16 (clampRate rate.toNat) ++ [b])
      (changeDirection d { s with clock.rate := clampRate rate.toNat }) := by
  obtain ⟨-, -, -, -, -, released, stays⟩ := changeDirection_turned d
    (s := { s with clock.rate := clampRate rate.toNat }) (RunState.moves_of_mayTurn hm)
  have clock : (changeDirection d { s with clock.rate := clampRate rate.toNat }).clock.rate = clampRate rate.toNat ∧
      (changeDirection d { s with clock.rate := clampRate rate.toNat }).clock.direction = d := by
    by_cases hr : s.run.state = .ended ∧ { s.clock with rate := clampRate rate.toNat, direction := d }.canMove = true
    · rw [(released hr.1 hr.2).2]
      exact ⟨rfl, rfl⟩
    · rw [(stays hr).2]
      exact ⟨rfl, rfl⟩
  simp only [grantSetPacing, h, hm, hd, if_false, Bool.true_eq_false, and_false, clock, parseDirection_code h]

theorem grantSetEnd_protect {endTime : U32} {s : State} (h : s.run.state.mayTurn = false) :
    grantSetEnd endTime s = answer .protect [] s := if_neg (by rw [h]; decide)

/-- A run in ENDED that a later end limit lets move forward is released. -/
theorem grantSetEnd_leaves {endTime : U32} {s : State} (h : s.run.state = .ended) (hd : s.clock.direction = .forward)
    (ht : s.clock.time < max endTime.toNat s.clock.time) :
    grantSetEnd endTime s = answer .ok (reply32 (max endTime.toNat s.clock.time))
      (enterPaused { s with clock.endTime := max endTime.toNat s.clock.time }) := by
  have left : leaveEnded { s with clock.endTime := max endTime.toNat s.clock.time } =
      enterPaused { s with clock.endTime := max endTime.toNat s.clock.time } :=
    leaveEnded_leaves h ((Clock.canMove_iff _).2 (.inl ⟨hd, ht⟩))
  rw [grantSetEnd, if_pos (by rw [h]; rfl), grantSetEnd.leaveEndedForward]
  dsimp only
  rw [if_pos hd, left]
  rfl

theorem grantSetEnd_stays {endTime : U32} {s : State} (h : s.run.state.mayTurn = true)
    (hn : ¬(s.run.state = .ended ∧ s.clock.direction = .forward ∧ s.clock.time < max endTime.toNat s.clock.time)) :
    grantSetEnd endTime s = answer .ok (reply32 (max endTime.toNat s.clock.time))
      { s with clock.endTime := max endTime.toNat s.clock.time } := by
  rw [grantSetEnd, if_pos h, grantSetEnd.leaveEndedForward]
  dsimp only
  by_cases hd : s.clock.direction = .forward
  · rw [if_pos hd, leaveEnded_stays]
    rintro ⟨he, hm⟩
    obtain ⟨-, ht⟩ | ⟨hr, -⟩ := (Clock.canMove_iff _).1 hm
    · exact hn ⟨he, hd, ht⟩
    · exact absurd (hd.symm.trans hr) nofun
  · rw [if_neg hd]

theorem grantSetMark_eq (presence : Byte) (mark : U32) (s : State) :
    grantSetMark presence mark s =
      if presence = 1 then answer .ok [] { s with clock.mark := some mark.toNat }
      else if presence = 0 then answer .ok [] { s with clock.mark := none }
      else answer .range [] s := by
  rw [grantSetMark, parseFlag_eq]
  by_cases h1 : presence = 1
  · rw [h1]; rfl
  · by_cases h0 : presence = 0
    · rw [h0]; rfl
    · rw [if_neg h0, if_neg h1, if_neg h1, if_neg h0]

/-! ### The obligation -/

theorem inGrant_unclaimed (c : Command) {s : State} (hq : Quiet s) : (s.inGrant c).arbiter.Unclaimed := by
  rw [State.inGrant, hq.1]
  exact ⟨rfl, rfl⟩

/-- A new direction that is taken, on a quiet part. -/
theorem exec_setPacing_turns {rate : U16} {b : Byte} {d : Direction} {check : Option Byte} {s : State}
    (h : Taken (.setPacing rate b) check s) (hq : Quiet s) (hp : parseDirection b = some d)
    (hd : d ≠ s.clock.direction) (hm : s.run.state.mayTurn = true) :
    ∃ u a, Turned d { s.inGrant (.setPacing rate b) with clock.rate := clampRate rate.toNat } u ∧
      exec (.setPacing rate b check) s = .next { u with
        link := s.link.replied (.setPacing rate b) .ok (reply16 (clampRate rate.toNat) ++ [b]), arbiter := a } := by
  have turned := changeDirection_turned d
    (s := { s.inGrant (.setPacing rate b) with clock.rate := clampRate rate.toNat }) (RunState.moves_of_mayTurn hm)
  exact ⟨_, _, turned, exec_answered h rfl hq (grantSetPacing_turns (s := s.inGrant _) hp hd hm)
    (by rw [turned.rest]; rfl) (turned.arbiter (inGrant_unclaimed (.setPacing rate b) hq))⟩

/-- Settles O34: each setting is its grant's branch on a quiet part, a new direction as `Turned` says. -/
theorem clockSettingsAreStored : Obligations.ClockSettingsAreStored := by
  refine ⟨fun rate b check s h hq => ⟨fun stored hs => ⟨fun hd => ?_, fun d hp hd hr => ?_,
      fun d hp hd h1 h2 h3 => ?_⟩, fun hp => ?_⟩,
    fun endTime check s h hq => ⟨fun stored hs hr => ?_, fun h1 h2 h3 => ?_⟩,
    fun presence mark check s h hq => ?_, fun span check s h hq => ?_⟩
  · rw [hs, ← clampRate_eq]
    exact exec_answered_free h rfl hq (grantSetPacing_same (s := s.inGrant _) hd) rfl rfl rfl hq.2.2.2.2.1
  · obtain ⟨u, a, ⟨rest, stats, -, rejected, kept, released, stays⟩, exec⟩ :=
      exec_setPacing_turns h hq hp hd ((RunState.mayTurn_iff _).2 hr)
    have canMove := (Clock.canMove_iff { s.clock with rate := clampRate rate.toNat, direction := d })
    rw [hs, ← clampRate_eq]
    refine ⟨_, exec, ?_, stats, rejected, kept, fun hc => ?_, fun hc => ?_⟩
    · exact congrArg (fun v : State => { v with
        link := s.link.replied (.setPacing rate b) .ok (reply16 (clampRate rate.toNat) ++ [b]), arbiter := a }) rest
    · exact released hc.1 (canMove.2 hc.2)
    · exact stays fun hn => hc ⟨hn.1, canMove.1 hn.2⟩
  · exact exec_read h rfl hq (grantSetPacing_protect (s := s.inGrant _) hp hd (RunState.mayTurn_off h1 h2 h3))
  · exact exec_read h rfl hq (grantSetPacing_range hp)
  · rw [hs]
    by_cases hc : s.run.state = .ended ∧ s.clock.direction = .forward ∧ s.clock.time < max endTime.toNat s.clock.time
    · obtain ⟨he, hd, ht⟩ := hc
      have withdrawn : (withdrawSequencer (s.inGrant (.setEnd endTime))).arbiter = (s.inGrant (.setEnd endTime)).arbiter :=
        (inGrant_unclaimed _ hq).withdraw
      rw [if_pos ⟨he, hd, ht⟩]
      exact exec_answered_free h rfl hq (grantSetEnd_leaves (s := s.inGrant _) he hd ht) rfl withdrawn rfl
        (sequencerReady_paused rfl)
    · rw [if_neg hc]
      exact exec_answered_free h rfl hq
        (grantSetEnd_stays (s := s.inGrant _) ((RunState.mayTurn_iff _).2 hr) hc) rfl rfl rfl hq.2.2.2.2.1
  · exact exec_read h rfl hq (grantSetEnd_protect (s := s.inGrant _) (RunState.mayTurn_off h1 h2 h3))
  · have grant := grantSetMark_eq presence mark (s.inGrant (.setMark presence mark))
    by_cases h1 : presence = 1
    · rw [if_pos h1] at grant ⊢
      exact exec_answered_free h rfl hq grant rfl rfl rfl hq.2.2.2.2.1
    rw [if_neg h1] at grant ⊢
    by_cases h0 : presence = 0
    · rw [if_pos h0] at grant ⊢
      exact exec_answered_free h rfl hq grant rfl rfl rfl hq.2.2.2.2.1
    · rw [if_neg h0] at grant ⊢
      exact exec_read h rfl hq grant
  · by_cases h0 : span = 0
    · rw [if_pos h0]
      exact exec_read h rfl hq (if_pos (by rw [h0]; rfl))
    · rw [if_neg h0]
      exact exec_answered_free h rfl hq (if_neg fun hz => h0 (BitVec.eq_of_toNat_eq hz)) rfl rfl rfl hq.2.2.2.2.1

end Sys2Proof.Machine
end

section
/-! PROOFS. Activation and STARVE (O36): what the test of R108 and R118 makes of the arm order, and what it leaves alone
(R109, R116, R127). -/

namespace Sys2Proof.Machine

/-! ### Both buffers at once -/

theorem Sequencer.buffer_state_ne {q : Sequencer} {x : BufferState} (ha : q.bufferA.state ≠ x)
    (hb : q.bufferB.state ≠ x) (n : BufferName) : (q.buffer n).state ≠ x := by
  cases n
  · exact ha
  · exact hb

theorem setBuffer_flag (n : BufferName) (b : Buffer) (s : State) (e : Event) : (setBuffer n b s).flag e = s.flag e :=
  flag_congr (congrArg WatchUnit.flags (setBuffer_watch ..)) e

/-! ### The head of the arm order -/

/-- A buffer whose tag is the direction of play activates, whatever waits behind it (R108). -/
theorem activateFrom_head_accepts {s : State} {n : BufferName} (rest : List BufferName)
    (h : (s.sequencer.buffer n).tag = some s.clock.direction) :
    activateFrom (n :: rest) s =
      setBuffer n { s.sequencer.buffer n with state := .active, index := 0 }
        { s with sequencer.armOrder := rest } := by
  rw [activateFrom]
  dsimp only
  rw [if_pos (by cases n <;> exact h)]
  cases n <;> rfl

/-- `s` with buffer `n` rejected from the head of the arm order, which leaves `rest` (R109). -/
def State.rejected (n : BufferName) (rest : List BufferName) (s : State) : State :=
  rejectBuffer n { s with sequencer.armOrder := rest }

theorem activateFrom_head_rejects {s : State} {n : BufferName} (rest : List BufferName)
    (h : (s.sequencer.buffer n).tag ≠ some s.clock.direction) :
    activateFrom (n :: rest) s = activateFrom rest (s.rejected n rest) := by
  rw [activateFrom]
  dsimp only
  rw [if_neg (by cases n <;> exact h), State.rejected]

section Rejected
variable (n : BufferName) (rest : List BufferName) (s : State)

@[simp] theorem rejected_clock : (s.rejected n rest).clock = s.clock := by simp [State.rejected]

@[simp] theorem rejected_armOrder : (s.rejected n rest).sequencer.armOrder = rest := by
  simp [State.rejected, rejectBuffer]

@[simp] theorem rejected_buffer : (s.rejected n rest).sequencer.buffer n = .cleared := by
  simp [State.rejected, rejectBuffer]

theorem rejected_other {m : BufferName} (h : m ≠ n) :
    (s.rejected n rest).sequencer.buffer m = s.sequencer.buffer m := by
  rw [State.rejected, rejectBuffer, raise_sequencer, setBuffer_other _ _ _ _ h]
  cases m <;> rfl

theorem rejected_flag : (s.rejected n rest).flag .batchRejected = true := raise_flag_same ..

theorem rejected_flag_other {e : Event} (h : e ≠ .batchRejected) : (s.rejected n rest).flag e = s.flag e :=
  (raise_flag_other h _).trans (setBuffer_flag ..)

end Rejected

/-! ### The whole test -/

/-- The test of activation, and then of STARVE (R108, R118). -/
def State.tested (s : State) : State := testStarve (activate s)

theorem testStarve_rest (s : State) :
    testStarve s =
      { s with clock.starve := (testStarve s).clock.starve, watch.flags := (testStarve s).watch.flags } := by
  unfold testStarve
  split <;> rfl

theorem tested_rest (s : State) :
    s.tested = { s with
      sequencer := s.tested.sequencer
      clock.starve := s.tested.clock.starve
      watch.flags := s.tested.watch.flags } := by
  have starve := testStarve_rest (activate s)
  have active := activate_rest s
  unfold State.tested
  generalize testStarve (activate s) = t at starve
  rw [starve, active]

theorem tested_sequencer (s : State) : s.tested.sequencer = (activate s).sequencer := testStarve_sequencer _

theorem tested_stats (s : State) : s.tested.sequencer.stats = s.sequencer.stats := by
  rw [tested_sequencer]
  exact (activate_unwatched s).stats

theorem tested_flag {e : Event} (hr : e ≠ .batchRejected) (hs : e ≠ .starved) (s : State) :
    s.tested.flag e = s.flag e :=
  (testStarve_flag hs _).trans (activate_flag hr s)

theorem RunState.applies_of_moves {r : RunState} (h : r.moves = true) : r.appliesEntries = true :=
  r.appliesEntries_iff.2 ((r.moves_iff.1 h).imp_right .inl)

theorem tested_still {s : State} (hr : s.run.state.appliesEntries = false) : s.tested = s := by
  rw [State.tested, activate_still hr]
  exact testStarve_still fun h => Bool.false_ne_true (hr.symm.trans (RunState.applies_of_moves h.1))

/-- A run that does not move starves nothing. -/
theorem tested_of_not_moves {s : State} (hm : s.run.state.moves = false) : s.tested = activate s :=
  testStarve_still fun h => Bool.false_ne_true (by rw [← hm, ← activate_run s, h.1])

theorem testStarve_of_active {s : State} {n : BufferName} (h : (s.sequencer.buffer n).state = .active) :
    testStarve s = s := testStarve_still fun hs => (hs.2 n).1 h

/-- With an ACTIVE buffer there is nothing to test (R108, R118). -/
theorem tested_of_active {s : State} {n : BufferName} (h : (s.sequencer.buffer n).state = .active) : s.tested = s := by
  have hany : s.sequencer.anyBuffer .active = true := (s.sequencer.anyBuffer_iff _).2 ⟨n, h⟩
  rw [State.tested, show activate s = s by simp [activate, hany], testStarve_of_active h]

/-- A moving run starves once activation has left no buffer ACTIVE or ARMED (R118). -/
theorem tested_starves {s : State} (hm : s.run.state.moves = true)
    (hb : ∀ k, ((activate s).sequencer.buffer k).state ≠ .active ∧ ((activate s).sequencer.buffer k).state ≠ .armed) :
    s.tested.clock.starve = true ∧ s.tested.flag .starved = (s.flag .starved || !s.clock.starve) := by
  have starves := testStarve_starves (s := activate s) (by rw [activate_run, hm]) hb
  rwa [activate_flag (by decide), activate_clock] at starves

/-! ### The test, by the arm order -/

section ArmOrder
variable {s : State} {n m : BufferName} {rest : List BufferName}
  (hr : s.run.state.appliesEntries = true) (ha : ∀ k, (s.sequencer.buffer k).state ≠ .active)
include hr ha

theorem tested_accepts (ho : s.sequencer.armOrder = n :: rest)
    (ht : (s.sequencer.buffer n).tag = some s.clock.direction) :
    s.tested = setBuffer n { s.sequencer.buffer n with state := .active, index := 0 }
      { s with sequencer.armOrder := rest } := by
  rw [State.tested, activate_applies hr ha, ho, activateFrom_head_accepts rest ht]
  exact testStarve_of_active (n := n) (by rw [setBuffer_buffer])

theorem activate_empty (ho : s.sequencer.armOrder = []) : activate s = s := by
  rw [activate_applies hr ha, ho, activateFrom]

theorem activate_rejects_only (ho : s.sequencer.armOrder = [n])
    (ht : (s.sequencer.buffer n).tag ≠ some s.clock.direction) : activate s = s.rejected n [] := by
  rw [activate_applies hr ha, ho, activateFrom_rejects ht, State.rejected]

theorem activate_rejects_first (ho : s.sequencer.armOrder = [n, m])
    (ht : (s.sequencer.buffer n).tag ≠ some s.clock.direction) :
    activate s = activateFrom [m] (s.rejected n [m]) := by
  rw [activate_applies hr ha, ho, activateFrom_head_rejects [m] ht]

/-- The second of two armed buffers activates behind a rejected first (R109). -/
theorem tested_accepts_second (ho : s.sequencer.armOrder = [n, m]) (hn : n ≠ m)
    (ht : (s.sequencer.buffer n).tag ≠ some s.clock.direction)
    (hm : (s.sequencer.buffer m).tag = some s.clock.direction) :
    s.tested = setBuffer m { s.sequencer.buffer m with state := .active, index := 0 }
      { s.rejected n [m] with sequencer.armOrder := [] } := by
  have other := rejected_other n [m] s hn.symm
  rw [State.tested, activate_rejects_first hr ha ho ht, activateFrom_accepts (by rw [other, hm, rejected_clock]), other]
  exact testStarve_of_active (n := m) (by rw [setBuffer_buffer])

theorem activate_rejects_both (ho : s.sequencer.armOrder = [n, m]) (hn : n ≠ m)
    (ht : (s.sequencer.buffer n).tag ≠ some s.clock.direction)
    (hm : (s.sequencer.buffer m).tag ≠ some s.clock.direction) :
    activate s = (s.rejected n [m]).rejected m [] := by
  rw [activate_rejects_first hr ha ho ht,
    activateFrom_rejects (by rw [rejected_other n [m] s hn.symm, rejected_clock]; exact hm)]
  rfl

end ArmOrder

/-- A rejection leaves BATCH_REJECTED raised, whatever activation and STARVE do behind it (R109). -/
theorem tested_flag_rejected {s : State} (h : (activate s).flag .batchRejected = true) :
    s.tested.flag .batchRejected = true := (testStarve_flag (by decide) _).trans h

/-! ### The obligation -/

theorem enterMoving_run (target : RunState) (s : State) : (enterMoving target s).run.state = target := by
  simp [enterMoving]

theorem enterMoving_pausedState (target : RunState) (s : State) :
    (enterMoving target s).clock.pausedState = false := by
  rw [enterMoving, testStarve_rest, activate_clock]

theorem RunState.moves_of_applies {r : RunState} (h : r.appliesEntries = true) (he : r ≠ .ended) : r.moves = true :=
  r.moves_iff.2 (or_assoc.2 (r.appliesEntries_iff.1 h) |>.resolve_right he)

/-- A cleared buffer is neither ACTIVE nor ARMED. -/
theorem Buffer.idle_of_cleared {b : Buffer} (h : b = .cleared) : b.state ≠ .active ∧ b.state ≠ .armed := by
  rw [h]
  decide

/-- Settles O36: the test by the arm order, and its frame. -/
theorem enteringAMovingRun : Obligations.EnteringAMovingRun := by
  refine ⟨fun target s _ => ⟨rfl, enterMoving_run target s, enterMoving_pausedState target s⟩,
    fun s h1 h2 h3 => tested_still (Bool.eq_false_iff.2 fun h => ?_), fun s t hs ht => ?_⟩
  · obtain h | h | h := s.run.state.appliesEntries_iff.1 h <;> contradiction
  have hr := s.run.state.appliesEntries_iff.2 hs
  obtain rfl : t = s.tested := ht
  have rest := tested_rest s
  refine ⟨by rw [rest], by rw [rest], by rw [rest], by rw [rest], by rw [rest], by rw [rest], by rw [rest],
    congrArg State.clock rest, tested_stats s, ?_, congrArg State.watch rest, fun e h1 h2 => tested_flag h1 h2 s,
    fun he => ?_, fun n rest ho ht ha hb => ?_, fun n ho ht ha hb => ?_, fun n m ho hn ht ha hb => ?_, fun h => ?_,
    fun ho ha hb ha' hb' => ?_⟩
  · rw [tested_sequencer, activate_cueStop]
  · rw [tested_of_not_moves (by rw [he]; rfl), activate_clock]
    exact ⟨rfl, activate_flag (by decide) s⟩
  · rw [tested_accepts hr (Sequencer.buffer_state_ne ha hb) ho ht]
    refine ⟨setBuffer_buffer .., setBuffer_armOrder .., fun m hm => ?_, setBuffer_watch .., setBuffer_clock ..⟩
    rw [setBuffer_other _ _ _ _ hm]
    cases m <;> rfl
  · have idle := Sequencer.buffer_state_ne ha hb
    have rejects := activate_rejects_only hr idle ho ht
    rw [tested_sequencer, rejects]
    refine ⟨rejected_buffer .., fun m hm => rejected_other n [] s hm, rejected_armOrder ..,
      tested_flag_rejected (by rw [rejects]; exact rejected_flag ..), fun hm he => ?_⟩
    refine tested_starves (RunState.moves_of_applies hr he) fun k => ?_
    rw [rejects]
    by_cases hk : k = n
    · exact hk ▸ Buffer.idle_of_cleared (rejected_buffer ..)
    · rw [rejected_other n [] s hk]
      exact ⟨idle k, hm k hk⟩
  · have idle := Sequencer.buffer_state_ne ha hb
    by_cases hm : (s.sequencer.buffer m).tag = some s.clock.direction
    · rw [tested_accepts_second hr idle ho hn ht hm]
      refine ⟨?_, setBuffer_armOrder .., (setBuffer_flag ..).trans (rejected_flag n [m] s), fun _ =>
        ⟨setBuffer_buffer .., (setBuffer_clock ..).trans (rejected_clock ..),
          (setBuffer_flag ..).trans (rejected_flag_other n [m] s (by decide))⟩, fun h => absurd hm h⟩
      rw [setBuffer_other _ _ _ _ hn, ← rejected_buffer n [m] s]
      cases n <;> rfl
    · have rejects := activate_rejects_both hr idle ho hn ht hm
      have first : ((s.rejected n [m]).rejected m []).sequencer.buffer n = .cleared :=
        (rejected_other m [] _ hn).trans (rejected_buffer ..)
      rw [tested_sequencer, rejects]
      refine ⟨first, rejected_armOrder .., tested_flag_rejected (by rw [rejects]; exact rejected_flag ..),
        fun h => absurd h hm, fun _ => ⟨rejected_buffer .., fun he => ?_⟩⟩
      refine tested_starves (RunState.moves_of_applies hr he) fun k => ?_
      rw [rejects]
      obtain rfl | rfl := BufferName.eq_or_eq hn k
      · exact Buffer.idle_of_cleared (rejected_buffer ..)
      · exact Buffer.idle_of_cleared first
  · obtain h | h := h
    · exact tested_of_active (n := .a) h
    · exact tested_of_active (n := .b) h
  · have still := activate_empty hr (Sequencer.buffer_state_ne ha hb) ho
    refine ⟨by rw [tested_sequencer, still], fun he => ?_, fun he => ?_⟩
    · rw [tested_of_not_moves (by rw [he]; rfl), still]
    · obtain ⟨starve, flag⟩ := tested_starves (RunState.moves_of_applies hr he) (by
        rw [still]
        exact fun k => ⟨Sequencer.buffer_state_ne ha hb k, Sequencer.buffer_state_ne ha' hb' k⟩)
      refine ⟨starve, flag, fun hs => ?_⟩
      rw [State.tested, still]
      simp [testStarve, hs]

end Sys2Proof.Machine
end

section
/-! PROOFS. ARM BATCH and DISCARD BATCH (O35): what their grants make of the buffer and of the arm order, and
when they leave the Sequencer no entry to apply (R98, R105, R106, R111). -/

namespace Sys2Proof.Machine

/-- A command that leaves the resolver alone and no entry due leaves the arbiter of a quiet part as it was found. -/
theorem Arbiter.next_of_quiet {s u : State} (hq : Quiet s) (hc : u.resolver = s.resolver)
    (hn : u.sequencerReady = false) : Arbiter.next u = s.arbiter := by
  have ⟨free, _, current, _⟩ := hq
  exact (Arbiter.next_free (by rw [hc, current]) hn).trans free.symm

/-- Where entries are not applied none is due (R111). -/
theorem sequencerReady_of_not_applies {s : State} (h : s.run.state.appliesEntries = false) :
    s.sequencerReady = false := by
  rw [State.sequencerReady, h, Bool.false_and, Bool.false_and, Bool.false_and]

/-! ### ARM BATCH (R105) -/

/-- `s` with buffer `n` ARMED behind the letters of the arm order, and STARVE cleared. -/
def State.armed (n : BufferName) (s : State) : State :=
  setBuffer n { s.sequencer.buffer n with state := .armed }
    { s with sequencer.armOrder := s.sequencer.armOrder ++ [n], clock.starve := false }

theorem armBuffer_eq (n : BufferName) (s : State) : armBuffer n s = (s.armed n).tested := by
  cases n <;> rfl

theorem onLink_tested (l : Link) (a : Arbiter) (s : State) : (s.onLink l a).tested = s.tested.onLink l a := by
  rw [State.tested, onLink_activate, onLink_testStarve, State.tested]

/-- Arming reads nothing of the link and of the arbiter. -/
theorem onLink_armBuffer (l : Link) (a : Arbiter) (n : BufferName) (s : State) :
    armBuffer n (s.onLink l a) = (armBuffer n s).onLink l a := by
  rw [armBuffer_eq, armBuffer_eq, ← onLink_tested]
  cases n <;> rfl

theorem grantArmBatch_ok {letter : Byte} {n : BufferName} {s : State} (hn : parseBuffer letter = some n)
    (hs : (s.sequencer.buffer n).state = .loading) (he : 1 ≤ (s.sequencer.buffer n).entries.length) :
    grantArmBatch letter s = answer .ok [] (armBuffer n s) := by
  simp only [grantArmBatch, hn, hs, he, and_self, if_true]

theorem grantArmBatch_range {letter : Byte} {s : State}
    (h : parseBuffer letter = none ∨ ∃ n, parseBuffer letter = some n ∧
      ((s.sequencer.buffer n).state ≠ .loading ∨ (s.sequencer.buffer n).entries = [])) :
    grantArmBatch letter s = answer .range [] s := by
  obtain hn | ⟨n, hn, h⟩ := h
  · simp only [grantArmBatch, hn]
  · have refused : ¬((s.sequencer.buffer n).state = .loading ∧ 1 ≤ (s.sequencer.buffer n).entries.length) := by
      rintro ⟨hs, he⟩
      obtain h | h := h
      · exact h hs
      · rw [h] at he
        exact absurd he (by decide)
    simp only [grantArmBatch, hn, if_neg refused]

/-! ### DISCARD BATCH (R106) -/

theorem discard_rest (n : BufferName) (s : State) :
    grantDiscardBatch.discard n s = { s with sequencer := (grantDiscardBatch.discard n s).sequencer } := by
  cases n <;> rfl

theorem discard_buffer (n : BufferName) (s : State) : (grantDiscardBatch.discard n s).sequencer.buffer n = .cleared :=
  setBuffer_buffer ..

theorem discard_other {m n : BufferName} (h : m ≠ n) (s : State) :
    (grantDiscardBatch.discard n s).sequencer.buffer m = s.sequencer.buffer m := by
  rw [grantDiscardBatch.discard, setBuffer_other _ _ _ _ h]
  cases m <;> rfl

theorem mem_discard_armOrder (m n : BufferName) (s : State) :
    m ∈ (grantDiscardBatch.discard n s).sequencer.armOrder ↔ m ∈ s.sequencer.armOrder ∧ m ≠ n := by
  rw [grantDiscardBatch.discard, setBuffer_armOrder, List.mem_filter, decide_eq_true_iff]

theorem discard_stats (n : BufferName) (s : State) :
    (grantDiscardBatch.discard n s).sequencer.stats = s.sequencer.stats :=
  setBuffer_stats ..

theorem discard_cueStop (n : BufferName) (s : State) :
    (grantDiscardBatch.discard n s).sequencer.cueStop = s.sequencer.cueStop :=
  setBuffer_cueStop ..

/-- The head entry is read from an ACTIVE buffer alone (R98). -/
theorem Sequencer.head_congr {p q : Sequencer}
    (h : ∀ k, (p.buffer k).state = .active ∨ (q.buffer k).state = .active → p.buffer k = q.buffer k) :
    p.head = q.head := by
  have active : ∀ k, (p.buffer k).state = .active ↔ (q.buffer k).state = .active := fun k =>
    ⟨fun e => h k (.inl e) ▸ e, fun e => h k (.inr e) ▸ e⟩
  have activeA : p.bufferA.state = .active ↔ q.bufferA.state = .active := active .a
  have activeB : p.bufferB.state = .active ↔ q.bufferB.state = .active := active .b
  have name : p.activeName = q.activeName := by simp only [Sequencer.activeName, activeA, activeB]
  unfold Sequencer.head
  rw [name]
  cases hq : q.activeName with
  | none => rfl
  | some n =>
    dsimp only
    rw [h n (.inr (Sequencer.active_of_activeName hq))]

theorem discard_head {n : BufferName} {s : State} (h : (s.sequencer.buffer n).state ≠ .active) :
    (grantDiscardBatch.discard n s).sequencer.head = s.sequencer.head := by
  refine Sequencer.head_congr fun k hk => ?_
  by_cases hn : k = n
  · subst hn
    rw [discard_buffer] at hk
    exact absurd (hk.resolve_left (by decide)) h
  · exact discard_other hn s

theorem discard_sequencerReady {n : BufferName} {s : State} (h : (s.sequencer.buffer n).state ≠ .active) :
    (grantDiscardBatch.discard n s).sequencerReady = s.sequencerReady := by
  rw [State.sequencerReady, discard_head h, discard_cueStop, discard_rest, State.sequencerReady]

theorem grantDiscardBatch_discards {letter : Byte} {n : BufferName} {s : State} (hn : parseBuffer letter = some n)
    (hs : (s.sequencer.buffer n).state = .loading ∨ (s.sequencer.buffer n).state = .armed) :
    grantDiscardBatch letter s = answer .ok [] (grantDiscardBatch.discard n s) := by
  obtain hs | hs := hs <;> simp only [grantDiscardBatch, hn, hs]

theorem grantDiscardBatch_empty {letter : Byte} {n : BufferName} {s : State} (hn : parseBuffer letter = some n)
    (hs : (s.sequencer.buffer n).state = .empty) : grantDiscardBatch letter s = answer .ok [] s := by
  simp only [grantDiscardBatch, hn, hs]

theorem grantDiscardBatch_busy {letter : Byte} {n : BufferName} {s : State} (hn : parseBuffer letter = some n)
    (hs : (s.sequencer.buffer n).state = .active ∨ (s.sequencer.buffer n).state = .spent) :
    grantDiscardBatch letter s = answer .busy [] s := by
  obtain hs | hs := hs <;> simp only [grantDiscardBatch, hn, hs]

theorem grantDiscardBatch_range {letter : Byte} {s : State} (hn : parseBuffer letter = none) :
    grantDiscardBatch letter s = answer .range [] s := by
  simp only [grantDiscardBatch, hn]

/-! ### The obligation -/

theorem exec_armBatch {letter : Byte} {n : BufferName} {check : Option Byte} {s : State}
    (h : Taken (.armBatch letter) check s) (hq : Quiet s) (hn : parseBuffer letter = some n)
    (hs : (s.sequencer.buffer n).state = .loading) (he : 1 ≤ (s.sequencer.buffer n).entries.length) :
    exec (.armBatch letter check) s = .next { (s.armed n).tested with
      link := s.link.replied (.armBatch letter) .ok [], arbiter := Arbiter.next (s.armed n).tested } := by
  have armed := onLink_armBuffer (s.link.waits (.armBatch letter)) (s.inGrant (.armBatch letter)).arbiter n s
  have grant := grantArmBatch_ok (s := s.inGrant (.armBatch letter)) hn hs he
  rw [show armBuffer n (s.inGrant (.armBatch letter)) = _ from armed, armBuffer_eq n s] at grant
  exact exec_answered h rfl hq (u := (s.armed n).tested.onLink (s.link.waits (.armBatch letter))
    (s.inGrant (.armBatch letter)).arbiter) grant rfl rfl

/-- Settles O35: each command is its grant's branch on a quiet part. -/
theorem armAndDiscardBatches : Obligations.ArmAndDiscardBatches := by
  refine ⟨fun letter check s h hq => ⟨fun n u hn hs he hu => ?_, fun hr => ?_⟩,
    fun letter check s h hq => ⟨fun n hn hs => ?_, fun n hn hs => ?_, fun n hn hs => ?_, fun hn => ?_⟩⟩
  · obtain rfl : u = s.armed n := hu
    refine ⟨_, exec_armBatch h hq hn hs he, rfl, fun hr => ?_⟩
    have run : (s.armed n).run.state.appliesEntries = false := by
      rw [State.armed, setBuffer_run]
      exact hr
    rw [tested_still run, Arbiter.next_of_quiet (u := s.armed n) hq (setBuffer_resolver ..)
      (sequencerReady_of_not_applies run)]
    cases n <;> rfl
  · exact exec_read h rfl hq (grantArmBatch_range (s := s.inGrant _) hr)
  · have played : (s.sequencer.buffer n).state ≠ .active := by
      obtain hs | hs := hs <;> rw [hs] <;> decide
    let u := s.inGrant (.discardBatch letter)
    have ⟨_, _, _, _, notReady, _⟩ := hq
    have ready : (grantDiscardBatch.discard n u).sequencerReady = false :=
      (discard_sequencerReady (s := u) played).trans notReady
    have rest := discard_rest n u
    have cleared := discard_buffer n u
    refine ⟨_, exec_answered_free h rfl hq (grantDiscardBatch_discards (s := u) hn hs) (by rw [rest]; rfl)
      (by rw [rest]) (by rw [rest]; rfl) ready, ?_, ?_⟩
    · exact congrArg (fun v : State => { v with
        link := s.link.replied (.discardBatch letter) .ok [], arbiter := s.arbiter }) rest
    · dsimp only
      rw [cleared]
      refine ⟨rfl, rfl, rfl, rfl, rfl, fun hm => ((mem_discard_armOrder n n u).1 hm).2 rfl, fun m hm =>
        ⟨discard_other hm u, (mem_discard_armOrder m n u).trans (and_iff_left hm)⟩, discard_stats n u,
        discard_cueStop n u⟩
  · exact exec_read h rfl hq (grantDiscardBatch_empty (s := s.inGrant _) hn hs)
  · exact exec_read h rfl hq (grantDiscardBatch_busy (s := s.inGrant _) hn hs)
  · exact exec_read h rfl hq (grantDiscardBatch_range (s := s.inGrant _) hn)

end Sys2Proof.Machine
end

section
/-! PROOFS. LOAD BATCH (O22): its status by run state, operands and buffer, the load that is accepted, and the frame
of one that is refused (R100, R104). -/

namespace Sys2Proof.Machine

/-- A command of R78 is carried out in its own step. -/
theorem exec_direct {c : Command} {check : Option Byte} {s : State} (h : Taken c check s) (ha : accessOf c = .direct) :
    exec (c.toInstr check) s = .next (carryOut c { s with link := s.link.waits c }) :=
  (exec_toInstr ..).trans (congrArg _ (hostCommand_direct h ha))

/-! ### The status (R100) -/

theorem RunState.hasModel_of_ne {r : RunState} (h1 : r ≠ .build) (h2 : r ≠ .compiling) (h3 : r ≠ .restoring) :
    r.hasModel = true := by
  cases r with
  | build => exact absurd rfl h1
  | compiling => exact absurd rfl h2
  | restoring => exact absurd rfl h3
  | _ => rfl

/-- The status that the state and the tag of a buffer give a load with tag `d`. -/
def Buffer.loadStatus (d : Direction) (b : Buffer) : Status :=
  match b.state with
  | .empty => .ok
  | .loading => if b.tag = some d then .ok else .range
  | _ => .busy

theorem Buffer.loadStatus_ok {d : Direction} {b : Buffer}
    (h : b.state = .empty ∨ b.state = .loading ∧ b.tag = some d) : b.loadStatus d = .ok := by
  obtain h | ⟨h, ht⟩ := h
  · rw [Buffer.loadStatus, h]
  · rw [Buffer.loadStatus, h]
    exact if_pos ht

theorem Buffer.loadStatus_range {d : Direction} {b : Buffer} (h : b.state = .loading) (ht : b.tag ≠ some d) :
    b.loadStatus d = .range := by
  rw [Buffer.loadStatus, h]
  exact if_neg ht

theorem Buffer.loadStatus_busy {d : Direction} {b : Buffer}
    (h : b.state = .armed ∨ b.state = .active ∨ b.state = .spent) : b.loadStatus d = .busy := by
  obtain h | h | h := h <;> rw [Buffer.loadStatus, h]

section
variable {letter tag : Byte} {s : State}

theorem loadStatus_protect (h : s.run.state = .build ∨ s.run.state = .compiling ∨ s.run.state = .restoring) :
    loadStatus letter tag s = .protect := by
  obtain h | h | h := h <;> rw [loadStatus, h]

theorem loadStatus_named {n : BufferName} {d : Direction} (hm : s.run.state.hasModel = true)
    (hn : parseBuffer letter = some n) (hd : parseDirection tag = some d) :
    loadStatus letter tag s = (s.sequencer.buffer n).loadStatus d := by
  unfold loadStatus Buffer.loadStatus
  rw [hn, hd]
  cases hr : s.run.state with
  | build | compiling | restoring => rw [hr] at hm; cases hm
  | _ => rfl

theorem loadStatus_unnamed (hm : s.run.state.hasModel = true)
    (h : parseBuffer letter = none ∨ parseDirection tag = none) : loadStatus letter tag s = .range := by
  unfold loadStatus
  cases hn : parseBuffer letter <;> cases hd : parseDirection tag
  case some.some => simp [hn, hd] at h
  all_goals
    cases hr : s.run.state with
    | build | compiling | restoring => rw [hr] at hm; cases hm
    | _ => rfl

/-! ### The two branches -/

theorem directLoadBatch_accepts {n : BufferName} {d : Direction} (h : loadStatus letter tag s = .ok)
    (hn : parseBuffer letter = some n) (hd : parseDirection tag = some d) :
    directLoadBatch letter tag s = acceptLoad n d s := by
  rw [directLoadBatch, h, hn, hd]

theorem directLoadBatch_refuses {st : Status} (h : loadStatus letter tag s = st) (hst : st ≠ .ok) :
    directLoadBatch letter tag s = refuseLoad st s := by
  unfold directLoadBatch
  split
  · exact absurd (h.symm.trans ‹_›) hst
  · rw [h]

end

theorem acceptLoad_rest (n : BufferName) (d : Direction) (s : State) :
    acceptLoad n d s =
      { s with link := (acceptLoad n d s).link, sequencer := (acceptLoad n d s).sequencer } := by
  cases n <;> rfl

/-! ### The frame of a refused load (R104) -/

theorem hostBytes_cons (b : Byte) (l : List Byte) (s : State) : hostBytes (b :: l) s = hostBytes l (hostByte s b) :=
  List.foldl_cons ..

theorem hostBytes_concat (l : List Byte) (b : Byte) (s : State) : hostBytes (l ++ [b]) s = hostByte (hostBytes l s) b :=
  List.foldl_concat ..

/-- A state in which no byte changes anything stands, whatever the host clocks. -/
theorem hostBytes_fixed {s : State} (h : ∀ b, hostByte s b = s) (l : List Byte) : hostBytes l s = s := by
  induction l with
  | nil => rfl
  | cons b l ih => rw [hostBytes_cons, h, ih]

theorem hostByte_refusedLoad {s : State} (h : s.link.frame = .refusedLoad) (b : Byte) : hostByte s b = s := by
  rw [hostByte, h]

theorem takeItems_load (s : State) : (takeItems s).link.load = s.link.load := by
  unfold takeItems
  split
  · rename_i r _
    cases r <;> rfl
  · rfl

theorem takeItems_refusal (s : State) : (takeItems s).link.refusal = s.link.refusal := by
  unfold takeItems
  split
  · rename_i r _
    cases r <;> rfl
  · rfl

/-- The link of a LOAD BATCH frame that was refused with `st`, from the end of its status position on. -/
structure Link.Refused (st : Status) (l : Link) : Prop where
  frame : l.frame = .refusedLoad
  refusal : l.refusal = some st

theorem Link.Refused.sdoByte {st : Status} {s : State} (h : s.link.Refused st) : s.sdoByte = some st.code := by
  simp only [State.sdoByte, h.frame, h.refusal]

theorem sendStatus_refused {st : Status} {s : State} (hl : s.link.load = none) (hr : s.link.refusal = some st) :
    (sendStatus s).link.Refused st ∧
      (s.link.late = none → sendStatus s = { s with link := (sendStatus s).link }) := by
  obtain ⟨u, hu, h | ⟨-, -, e⟩ | h | h⟩ := sendStatus_cases s
  case inr.inl =>
    refine ⟨⟨by rw [e], ?_⟩, fun hn => ?_⟩
    · rw [e, hu]
      exact (takeItems_refusal s).trans hr
    · rw [e, hu, takeItems_none hn]
  all_goals
    have load : u.link.load = none := by rw [hu]; exact (takeItems_load s).trans hl
    have refusal : u.link.refusal = some st := by rw [hu]; exact (takeItems_refusal s).trans hr
    simp [load, refusal] at h

/-- Every position of a refused load behind its status position carries the status, and changes nothing. -/
theorem hostBytes_refused {st : Status} {s : State} (hf : s.link.frame = .status) (hw : s.link.waitBegun = false)
    (hl : s.link.load = none) (hr : s.link.refusal = some st) {bytes : List Byte} (hb : bytes ≠ []) :
    hostBytes bytes s = sendStatus s := by
  obtain ⟨⟨frame, -⟩, -⟩ := sendStatus_refused hl hr
  have waiting : (sendStatus s).link.frame ≠ .waiting := by rw [frame]; decide
  obtain ⟨b, l, rfl⟩ := List.exists_cons_of_ne_nil hb
  have position : hostByte s b = sendStatus s := by
    rw [hostByte, hf]
    dsimp only
    rw [endStatus_of_not_begun hw, readAwaited_of_ne waiting, beginWait_of_ne waiting]
  rw [hostBytes_cons, position, hostBytes_fixed (hostByte_refusedLoad frame)]

/-! ### The obligation -/

/-- Settles O22: the status decides, and the frame of a refused load stands in it. -/
theorem loadBatchIsDecided : Obligations.LoadBatchIsDecided := by
  refine ⟨fun n d letter tag check s h hn hd h1 h2 h3 hs => ?_, fun letter tag check s st h hst => ?_⟩
  · let u : State := { s with link := s.link.waits (.loadBatch letter tag) }
    have status : loadStatus letter tag u = .ok :=
      (loadStatus_named (s := u) (RunState.hasModel_of_ne h1 h2 h3) hn hd).trans (Buffer.loadStatus_ok hs)
    have accepted : exec (.loadBatch letter tag check) s = .next (acceptLoad n d u) :=
      (exec_direct h rfl).trans (congrArg _ (directLoadBatch_accepts status hn hd))
    refine ⟨_, accepted, acceptLoad_rest n d u, rfl, rfl, rfl, rfl, setBuffer_buffer .., fun m hm =>
      setBuffer_other _ _ _ _ hm, setBuffer_armOrder .., setBuffer_stats .., setBuffer_cueStop ..⟩
  · let u : State := { s with link := s.link.waits (.loadBatch letter tag) }
    have status : loadStatus letter tag u = st ∧ st ≠ .ok := by
      obtain ⟨hr, rfl⟩ | ⟨h1, h2, h3, ⟨hn, rfl⟩ | ⟨n, d, hn, hd, h⟩⟩ := hst
      · exact ⟨loadStatus_protect hr, by decide⟩
      · exact ⟨loadStatus_unnamed (RunState.hasModel_of_ne h1 h2 h3) hn, by decide⟩
      · rw [loadStatus_named (s := u) (RunState.hasModel_of_ne h1 h2 h3) hn hd]
        obtain ⟨hs, ht, rfl⟩ | ⟨hs, rfl⟩ := h
        · exact ⟨Buffer.loadStatus_range hs ht, by decide⟩
        · exact ⟨Buffer.loadStatus_busy hs, by decide⟩
    have refused : exec (.loadBatch letter tag check) s = .next (refuseLoad st u) :=
      (exec_direct h rfl).trans (congrArg _ (directLoadBatch_refuses status.1 status.2))
    obtain ⟨link, rest⟩ := sendStatus_refused (s := refuseLoad st u) rfl rfl
    refine ⟨_, refused, rfl, rfl, fun bytes hb => ?_⟩
    rw [hostBytes_refused (s := refuseLoad st u) rfl rfl rfl rfl hb]
    exact ⟨link.frame, link.sdoByte, fun late => rest late⟩

end Sys2Proof.Machine
end

section
/-! PROOFS. The entries of a load (O23): the bytes that an entry is gathered from, the byte that ends it, and a full
buffer (R101, R102, R188, R191). -/

namespace Sys2Proof.Machine

/-! ### The number that eight bytes make (R191) -/

theorem packEntry_concat (l : List Byte) (b : Byte) : packEntry (l ++ [b]) = packEntry l <<< 8 ||| b.setWidth 64 :=
  List.foldl_concat ..

/-- Byte `j` from the end of a list stands in byte `j` from the end of its number. -/
theorem extract_packEntry (l : List Byte) {j : Nat} (hj : j < 8) :
    (packEntry l).extractLsb' (8 * j) 8 = l.reverse[j]?.getD 0 := by
  induction l using List.reverseRecOn generalizing j with
  | nil => simp [packEntry]
  | append_singleton l b ih =>
    rw [packEntry_concat, List.reverse_concat]
    cases j with
    | zero =>
      refine BitVec.eq_of_getLsbD_eq fun i hi => ?_
      simp [hi, show i < 64 by omega]
    | succ j =>
      rw [List.getElem?_cons_succ, ← ih (by omega)]
      refine BitVec.eq_of_getLsbD_eq fun i hi => ?_
      simp [hi, show 8 * (j + 1) + i < 64 by omega, show ¬8 * (j + 1) + i < 8 by omega,
        show 8 * (j + 1) + i - 8 = 8 * j + i by omega, BitVec.getLsbD_of_ge b (8 * (j + 1) + i) (by omega),
        BitVec.getLsbD_eq_getElem (show 8 * j + i < 64 by omega)]

theorem entryByte_packEntry {l : List Byte} (hl : l.length = 8) {i : Nat} (h : i < l.length) :
    entryByte (packEntry l) i = l[i] := by
  rw [entryByte, extract_packEntry l (by omega), List.getElem?_reverse (by omega)]
  simp [show l.length - 1 - (7 - i) = i by omega, h]

/-! ### The writes of a load -/

theorem setBuffer_self (n : BufferName) (s : State) : setBuffer n (s.sequencer.buffer n) s = s := by
  cases n <;> rfl

theorem setBuffer_rest (n : BufferName) (b : Buffer) (s : State) :
    setBuffer n b s = { s with sequencer := (setBuffer n b s).sequencer } := by
  cases n <;> rfl

section
variable {n : BufferName} {s : State} {l : LastLoad} (hl : (s.sequencer.buffer n).lastLoad = some l)
include hl

theorem setOutcome_eq (o : LoadOutcome) :
    setOutcome n o s = setBuffer n { s.sequencer.buffer n with lastLoad := some { l with outcome := o } } s := by
  rw [setOutcome, hl, Option.map_some]

theorem markCheck_eq : markCheck n s = setOutcome n (if l.outcome = .full then .full else .check) s := by
  rw [markCheck, hl]
  dsimp only
  split
  · rename_i hf
    rw [setOutcome_eq hl, ← hf, ← hl, setBuffer_self]
  · rfl

theorem countEntry_eq (bytes : List Byte) :
    countEntry n bytes s = setBuffer n
      { s.sequencer.buffer n with
        entries := (s.sequencer.buffer n).entries ++ [packEntry bytes]
        lastLoad := some { l with counted := l.counted + 1 } } s := by
  rw [countEntry, hl, Option.map_some]

end

/-! ### The bytes of an entry (R101, R188) -/

/-- The bytes of an entry that are gathered before the byte that ends it. -/
def Link.gathersUpTo (l : Link) : Nat := if l.frameCheck then 8 else 7

/-- `s` with the bytes `l` gathered of an entry. -/
def State.gathering (l : List Byte) (s : State) : State := { s with link.gathered := l }

theorem gathering_self {s : State} {l : List Byte} (h : s.link.gathered = l) : s.gathering l = s := by
  rw [← h]
  rfl

/-- A LOAD BATCH frame loads buffer `n`. -/
structure State.Loads (n : BufferName) (s : State) : Prop where
  frame : s.link.frame = .entries
  load : s.link.load = some n

theorem State.Loads.hostByte {n : BufferName} {s : State} (h : s.Loads n) (b : Byte) :
    hostByte s b = gatherByte b s := by
  rw [Machine.hostByte, h.frame]

section
variable {n : BufferName} {s : State} (h : s.Loads n)
include h

theorem gatherByte_full (hr : Config.bufferCapacity ≤ (s.sequencer.buffer n).entries.length) (b : Byte) :
    gatherByte b s = setOutcome n .full s := by
  simp only [gatherByte, h.load, if_pos hr]

/-- A full buffer takes no byte, and the first that it does not take makes the outcome FULL (R102). -/
theorem hostBytes_full (hr : Config.bufferCapacity ≤ (s.sequencer.buffer n).entries.length) {l : LastLoad}
    (hl : (s.sequencer.buffer n).lastLoad = some l) {bytes : List Byte} (hb : bytes ≠ []) :
    hostBytes bytes s = setOutcome n .full s := by
  have loads : (setOutcome n .full s).Loads n := ⟨by simp [h.frame], by simp [h.load]⟩
  obtain ⟨b, rest, rfl⟩ := List.exists_cons_of_ne_nil hb
  rw [hostBytes_cons, h.hostByte, gatherByte_full h hr]
  refine hostBytes_fixed (fun c => ?_) rest
  rw [loads.hostByte, gatherByte_full loads (by rw [setOutcome, setBuffer_buffer]; exact hr), setOutcome_eq hl,
    setOutcome_eq (l := { l with outcome := .full }) (by rw [setBuffer_buffer]), setBuffer_setBuffer, setBuffer_buffer]

variable (hr : (s.sequencer.buffer n).entries.length < Config.bufferCapacity) {l : List Byte}
include hr

theorem gatherByte_gathers (hl : l.length < s.link.gathersUpTo) (b : Byte) :
    gatherByte b (s.gathering l) = s.gathering (l ++ [b]) := by
  by_cases h7 : l.length < 7
  · simp [gatherByte, State.gathering, h.load, Nat.not_le.2 hr, h7]
  · have checked : s.link.frameCheck = true ∧ l.length = 7 := by
      unfold Link.gathersUpTo at hl
      split at hl
      · exact ⟨‹_›, by omega⟩
      · omega
    simp [gatherByte, State.gathering, h.load, Nat.not_le.2 hr, checked]

theorem gatherByte_counts (hc : s.link.frameCheck = false) (hl : l.length = 7) (b : Byte) :
    gatherByte b (s.gathering l) = countEntry n (l ++ [b]) (s.gathering []) := by
  simp [gatherByte, State.gathering, h.load, Nat.not_le.2 hr, hl, hc]

theorem gatherByte_checks (hl : l.length = 8) :
    gatherByte (xorBytes l) (s.gathering l) = countEntry n l (s.gathering []) := by
  simp [gatherByte, State.gathering, h.load, Nat.not_le.2 hr, hl]

theorem gatherByte_drops (hl : l.length = 8) {b : Byte} (hb : b ≠ xorBytes l) :
    gatherByte b (s.gathering l) = raise .linkCheck (markCheck n (s.gathering [])) := by
  simp [gatherByte, State.gathering, h.load, Nat.not_le.2 hr, hl, hb.symm]

/-! ### The bytes of an entry, from boundary to boundary -/

variable (hg : s.link.gathered = [])
include hg

/-- Bytes at an entry boundary are gathered until the one that ends the entry. -/
theorem hostBytes_gathers (hl : l.length ≤ s.link.gathersUpTo) : hostBytes l s = s.gathering l := by
  induction l using List.reverseRecOn with
  | nil => exact (gathering_self hg).symm
  | append_singleton l b ih =>
    have loads : (s.gathering l).Loads n := ⟨h.frame, h.load⟩
    rw [List.length_append, List.length_singleton] at hl
    rw [hostBytes_concat, ih (by omega), loads.hostByte, gatherByte_gathers h hr hl]

/-- The byte that ends an entry finds the others gathered. -/
theorem hostBytes_ends (hl : l.length = s.link.gathersUpTo) (b : Byte) :
    hostBytes (l ++ [b]) s = gatherByte b (s.gathering l) := by
  have loads : (s.gathering l).Loads n := ⟨h.frame, h.load⟩
  rw [hostBytes_concat, hostBytes_gathers h hr hg hl.le, loads.hostByte]

/-- Eight bytes, in check mode with their XOR behind them, count as an entry (R101). -/
theorem hostBytes_counts (hl : l.length = 8) :
    hostBytes (if s.link.frameCheck then l ++ [xorBytes l] else l) s = countEntry n l s := by
  cases hc : s.link.frameCheck with
  | false =>
    obtain ⟨front, b, rfl⟩ : ∃ front b, l = front ++ [b] :=
      ⟨_, _, (List.dropLast_append_getLast (by rintro rfl; cases hl)).symm⟩
    have front7 : front.length = 7 := by simpa using hl
    have upTo : front.length = s.link.gathersUpTo := by rw [Link.gathersUpTo, hc, front7]; rfl
    rw [if_neg (by decide), hostBytes_ends h hr hg upTo, gatherByte_counts h hr hc front7, gathering_self hg]
  | true =>
    have upTo : l.length = s.link.gathersUpTo := by rw [Link.gathersUpTo, hc, hl]; rfl
    rw [if_pos rfl, hostBytes_ends h hr hg upTo, gatherByte_checks h hr hl, gathering_self hg]

/-- In check mode a byte that is not their XOR drops the eight bytes before it (R101, R188). -/
theorem hostBytes_drops (hl : l.length = 8) (hc : s.link.frameCheck = true) {b : Byte} (hb : b ≠ xorBytes l) :
    hostBytes (l ++ [b]) s = raise .linkCheck (markCheck n s) := by
  have upTo : l.length = s.link.gathersUpTo := by rw [Link.gathersUpTo, hc, hl]; rfl
  rw [hostBytes_ends h hr hg upTo, gatherByte_drops h hr hl hb, gathering_self hg]

end

/-! ### The status before the entries -/

/-- `s` when the status of an accepted load has been clocked. -/
def State.pastStatus (s : State) : State :=
  { s with link.frame := .entries, link.reply := s.link.reply.tail, link.waitBegun := false }

theorem sendStatus_load {n : BufferName} {s : State} (hn : s.link.load = some n) (hl : s.link.late = none)
    (hc : s.link.checkNext = none) :
    sendStatus s = s.pastStatus := by
  unfold sendStatus
  simp only [takeItems_none hl, hn, hc, Option.isSome_some, if_true, Option.getD_none, State.pastStatus]

theorem exec_batchEntry {s : State} (hf : s.link.frame = .entries) (hg : s.arbiter.grant ≠ .link) (bytes : List Byte) :
    exec (.batchEntry bytes) s = .next (hostBytes bytes s) := by
  refine congrArg (fun u => Host.Outcome.next (hostBytes bytes u)) ?_
  rw [finishLink_of_ne hg, readStatusFirst, if_neg (by rw [hf]; decide)]

theorem exec_batchEntry_status {n : BufferName} {s : State} (hf : s.link.frame = .status) (hn : s.link.load = some n)
    (hl : s.link.late = none) (hc : s.link.checkNext = none) (hg : s.arbiter.grant ≠ .link) (bytes : List Byte) :
    exec (.batchEntry bytes) s = .next (hostBytes bytes s.pastStatus) := by
  refine congrArg (fun u => Host.Outcome.next (hostBytes bytes u)) ?_
  rw [finishLink_of_ne hg, readStatusFirst, if_pos hf, sendStatus_load hn hl hc]

/-! ### The obligation -/

/-- Settles O23: the bytes of an entry, gathered and ended. -/
theorem entriesAreCounted : Obligations.EntriesAreCounted := by
  refine ⟨fun n bytes s hf hn hl hc hg => ?_, fun n bytes l s hf hn hb hg hl h8 =>
    ⟨fun hr => ⟨?_, fun byte hc hx => ?_⟩, fun hr => ?_⟩⟩
  · exact (exec_batchEntry_status hf hn hl hc hg bytes).trans (exec_batchEntry (s := s.pastStatus) rfl hg bytes).symm
  · refine ⟨_, packEntry bytes, exec_batchEntry hf hg _, ?_⟩
    rw [hostBytes_counts ⟨hf, hn⟩ hr hb h8, countEntry_eq hl]
    exact ⟨setBuffer_rest .., setBuffer_buffer .., fun m hm => setBuffer_other _ _ _ _ hm, setBuffer_armOrder ..,
      setBuffer_stats .., setBuffer_cueStop .., fun i h => entryByte_packEntry h8 h⟩
  · refine ⟨_, exec_batchEntry hf hg _, ?_⟩
    rw [hostBytes_drops ⟨hf, hn⟩ hr hb h8 hc hx, markCheck_eq hl, setOutcome_eq hl]
    refine ⟨?_, setBuffer_buffer .., fun m hm => setBuffer_other _ _ _ _ hm, setBuffer_armOrder ..,
      setBuffer_stats .., setBuffer_cueStop ..⟩
    cases n <;> rfl
  · refine ⟨_, exec_batchEntry hf hg _, ?_⟩
    rw [hostBytes_full ⟨hf, hn⟩ hr hl (by rintro rfl; cases h8), setOutcome_eq hl]
    exact ⟨setBuffer_rest .., setBuffer_buffer .., fun m hm => setBuffer_other _ _ _ _ hm, setBuffer_armOrder ..,
      setBuffer_stats .., setBuffer_cueStop ..⟩

end Sys2Proof.Machine
end

section
/-! PROOFS. The reads that take no claim (O16): the items of a reading command and the position that takes them, a
filler byte in its row, and the reads of one line (R144, R154, R159, R173, R174, R181, R187). -/

namespace Sys2Proof.Machine

/-! ### The words of a reply -/

theorem eventWord_bit (flags : BitVec 19) (e : Event) : (eventWord flags).getLsbD e.bit = flags.getLsbD e.bit := by
  have h := e.bit_lt
  simp [eventWord, show e.bit < 24 by omega]

theorem eventWord_above (flags : BitVec 19) {n : Nat} (h : 19 ≤ n) : (eventWord flags).getLsbD n = false := by
  simp [eventWord, BitVec.getLsbD_of_ge flags n h]

theorem bitsToNat_cons (b : Bool) (l : List Bool) : bitsToNat (b :: l) = Nat.bit b (bitsToNat l) := by
  cases b
  · exact Nat.zero_add _
  · exact Nat.add_comm 1 _

theorem testBit_bitsToNat (l : List Bool) (n : Nat) : (bitsToNat l).testBit n = l[n]?.getD false := by
  induction l generalizing n with
  | nil => exact Nat.zero_testBit n
  | cons b l ih =>
    rw [bitsToNat_cons]
    cases n with
    | zero => exact Nat.testBit_bit_zero ..
    | succ n => rw [Nat.testBit_bit_succ, ih, List.getElem?_cons_succ]

/-- One bit for each line: the bit of a line is what `f` reads of it (R194). -/
theorem lineBits_bit {α : Type} {w : Nat} (v : Vector α w) (f : α → Bool) (n : Fin w) :
    (BitVec.ofNat w (bitsToNat (v.toList.map f))).getLsbD n.val = f (v.get n) := by
  simp [-BitVec.getLsbD_eq_getElem, BitVec.getLsbD_ofNat, testBit_bitsToNat, Vector.get_eq_getElem]

theorem outputBits_bit {w : Nat} (v : Vector Indicator w) (active : Bool) (f : PinLevel → Bool) (n : Fin w) :
    (BitVec.ofNat w (bitsToNat ((v.toList.map fun l => l.output active).map f))).getLsbD n.val =
      f ((v.get n).output active) := by
  rw [List.map_map]
  exact lineBits_bit v (f ∘ fun l => l.output active) n

/-! ### The position that takes the items (R181, R187) -/

theorem LateRead.items_ne_nil (r : LateRead) (s : State) : r.items s ≠ [] := by
  cases r <;> nofun

theorem replyBytes_tail (checked : Bool) (st : Status) (data : List Byte) :
    (replyBytes checked st data).tail = if checked then data ++ [xorBytes (st.code :: data)] else data := by
  cases checked <;> rfl

theorem LateRead.effect_link (r : LateRead) (s : State) :
    (r.effect s).link = { s.link with captured := (r.effect s).link.captured } := by
  cases r <;> rfl

/-- A status position that neither a load nor a SET CHECK MODE shares. -/
structure Link.SendsStatus (l : Link) : Prop where
  load : l.load = none
  refusal : l.refusal = none
  checkNext : l.checkNext = none
  waitBegun : l.waitBegun = false

section
variable {s : State} {r : LateRead} (h : s.link.SendsStatus) (hr : s.link.late = some r)
include h hr

/-- The items are the reply, and beside the capture of a READ EVENTS the position changes nothing else. -/
theorem sendStatus_items : sendStatus s = (r.effect s).withItems (r.items s) := by
  have link := r.effect_link s
  obtain ⟨u, hu, hcases⟩ := sendStatus_cases s
  have taken : u = { (r.effect s).withItems (r.items s) with link.frame := s.link.frame } := by
    rw [hu, takeItems_some hr]
    dsimp only [State.withItems]
    rw [link, replyBytes_tail, h.checkNext, h.waitBegun]
    rfl
  have load : u.link.load = none := by rw [taken]; exact (congrArg Link.load link).trans h.load
  have refusal : u.link.refusal = none := by rw [taken]; exact (congrArg Link.refusal link).trans h.refusal
  have reply : u.link.reply ≠ [] := by
    rw [taken]
    dsimp only [State.withItems]
    split <;> simp [r.items_ne_nil]
  obtain ⟨hl, -⟩ | ⟨-, hf, -⟩ | ⟨-, -, hp, -⟩ | ⟨-, -, -, e⟩ := hcases
  · rw [load] at hl; cases hl
  · rw [refusal] at hf; cases hf
  · exact absurd hp reply
  · rw [e, taken]; rfl

theorem hostByte_items (hf : s.link.frame = .status) (byte : Byte) :
    hostByte s byte = (r.effect s).withItems (r.items s) := by
  have waiting : ((r.effect s).withItems (r.items s)).link.frame ≠ .waiting := nofun
  rw [hostByte, hf]
  dsimp only
  rw [endStatus_of_not_begun h.waitBegun, sendStatus_items h hr, readAwaited_of_ne waiting, beginWait_of_ne waiting]

end

/-- Out of check mode a byte behind a command falls in the position that follows its decision (R184). -/
theorem hostCommand_filler {c : Command} {s : State} (h : Taken c none s) (hm : s.link.checkMode = false) (byte : Byte) :
    hostCommand c (some byte) s = hostByte (hostCommand c none s) byte := by
  obtain ⟨hf, -⟩ := h
  simp [hostCommand, hf, hm]

/-- A READ EVENTS row with one byte more clocks its own status position (R154; log 6). -/
theorem hostCommand_readEvents_filler {s : State} (h : Taken .readEvents none s) (hm : s.link.checkMode = false)
    (hl : s.link.load = none) (hr : s.link.refusal = none) (hc : s.link.checkNext = none) (byte : Byte) :
    hostCommand .readEvents (some byte) s =
      { s with
        watch.flags := 0
        link :=
          { s.link.replied .readEvents .ok [] with
            frame := .reply, reply := bytes24 (eventWord s.watch.flags), late := none,
            captured := some s.watch.flags } } := by
  let u : State := { s with link := s.link.repliedLate .readEvents .events }
  have answered : hostCommand .readEvents none s = u := hostCommand_direct h rfl
  have position : hostByte u byte = (captureEvents u).withItems (bytes24 (eventWord s.watch.flags)) :=
    hostByte_items (s := u) (r := .events) ⟨hl, hr, hc, rfl⟩ rfl rfl byte
  have unchecked : (captureEvents u).link.frameCheck = false := hm
  rw [hostCommand_filler h hm, answered, position, State.withItems, unchecked]
  rfl

/-! ### The reads of one line (R174) -/

/-- The taken level as a reply shows it: 2 for none. -/
def levelByte (taken : Option Bool) : Byte :=
  match taken with
  | some true => 1
  | some false => 0
  | none => 2

theorem directReadCueLine_of_lt {line : Byte} (h : line.toNat < 8) (s : State) :
    directReadCueLine line s =
      let c := s.panel.cues[line.toNat]
      answer .ok
        [c.function.code, c.edge.code, flagByte c.intEnable, levelByte c.taken, flagByte c.asserted, flagByte c.flag]
        s := by
  rw [directReadCueLine, parseCue, dif_pos h]
  simp only [Vector.get_eq_getElem]
  rcases s.panel.cues[line.toNat].taken with _ | _ | _ <;> rfl

theorem directReadCueLine_of_ge {line : Byte} (h : ¬line.toNat < 8) (s : State) :
    directReadCueLine line s = answer .range [] s := by
  rw [directReadCueLine, parseCue, dif_neg h]

theorem directReadIndicator_of_lt {line : Byte} (h : line.toNat < 16) (s : State) :
    directReadIndicator line s =
      let l := s.panel.indicators[line.toNat]
      answer .ok
        ([l.mode.code] ++ reply16 l.node ++
          [flagByte l.fixedActive, flagByte l.activeHigh, flagByte l.highZ, l.followed.code,
           (l.output s.panel.flashActive).code]) s := by
  rw [directReadIndicator, parseIndicator, dif_pos h]
  rfl

theorem directReadIndicator_of_ge {line : Byte} (h : ¬line.toNat < 16) (s : State) :
    directReadIndicator line s = answer .range [] s := by
  rw [directReadIndicator, parseIndicator, dif_neg h]

/-! ### The obligation -/

/-- Settles O16: a late read is answered without its items, the status position takes them, and a release before it
finds no capture to put back. -/
theorem directReadsReply : Obligations.DirectReadsReply := by
  refine ⟨⟨fun check s h => exec_direct h rfl, fun check s h => exec_direct h rfl, fun check s h => exec_direct h rfl,
      fun check s h => exec_direct h rfl⟩, ⟨fun line check s h => ?_, fun line check s h => ?_⟩,
    fun byte s hf hl hr hc hw => ?_, fun byte s h hm hl hr hc => ?_, fun s hf _ hc hl hg _ => ?_⟩
  · by_cases hn : line.toNat < 8
    · rw [dif_pos hn]
      exact (exec_direct h rfl).trans (congrArg Host.Outcome.next (directReadCueLine_of_lt hn _))
    · rw [dif_neg hn]
      exact (exec_direct h rfl).trans (congrArg Host.Outcome.next (directReadCueLine_of_ge hn _))
  · by_cases hn : line.toNat < 16
    · rw [dif_pos hn]
      exact (exec_direct h rfl).trans (congrArg Host.Outcome.next (directReadIndicator_of_lt hn _))
    · rw [dif_neg hn]
      exact (exec_direct h rfl).trans (congrArg Host.Outcome.next (directReadIndicator_of_ge hn _))
  · have position := fun r late => hostByte_items (r := r) ⟨hl, hr, hc, hw⟩ late hf byte
    refine ⟨position .status, position .interrupt, fun late => ?_, fun late => ?_⟩
    · exact ⟨eventWord s.watch.flags, position .events late, eventWord_bit _, fun n => eventWord_above _⟩
    · refine ⟨_, _, _, _, position .lines late, fun n => ⟨lineBits_bit .., lineBits_bit ..⟩, fun n => ⟨?_, ?_⟩⟩
      · exact (outputBits_bit ..).trans decide_not
      · exact outputBits_bit ..
  · exact ⟨_, (exec_toInstr .readEvents ..).trans
      (congrArg Host.Outcome.next (hostCommand_readEvents_filler h hm hl hr hc byte)), eventWord_bit _,
      fun n => eventWord_above _⟩
  · have framed : s.Framed := .of_frame .status hf
    obtain ⟨a, e, -⟩ := arbitrate_withdrawn s
    have released : selRelease [] s = arbitrate s.withdrawn := by
      rw [selRelease, finishLink_of_ne hg]
      exact endFrame_bare framed hl hc
    exact ⟨_, congrArg Host.Outcome.next (released.trans e), rfl⟩

end Sys2Proof.Machine
end

section
/-! PROOFS. SEL released with an event capture or a load in hand (O8): the capture is put back, and an entry partly
gathered is torn (R103, R155). -/

namespace Sys2Proof.Machine

/-! ### What the end of a frame settles -/

/-- A capture that has not been delivered is set again beside the flags raised since (R155). -/
theorem putBackCapture_some {flags : BitVec 19} {s : State} (h : s.link.captured = some flags) :
    putBackCapture s = { s with watch.flags := s.watch.flags ||| flags } := by
  rw [putBackCapture, h]

theorem putBackCapture_none {s : State} (h : s.link.captured = none) : putBackCapture s = s := by
  rw [putBackCapture, h]

theorem endLoad_none {s : State} (h : s.link.load = none) : endLoad s = s := by
  rw [endLoad, h]

/-- At an entry boundary nothing is torn (R103). -/
theorem endLoad_boundary {s : State} (h : s.link.gathered = []) : endLoad s = s := by
  unfold endLoad
  rw [h]
  split <;> rfl

/-- A buffer whose last load has an entry torn (R103). -/
def Buffer.torn (b : Buffer) : Buffer := { b with lastLoad := b.lastLoad.map fun l => { l with torn := true } }

/-- An entry partly gathered is torn (R103). -/
theorem endLoad_tears {n : BufferName} {s : State} (hl : s.link.load = some n) (hg : s.link.gathered ≠ []) :
    endLoad s = raise .entryTorn (setBuffer n (s.sequencer.buffer n).torn s) := by
  rw [endLoad, hl]
  exact if_neg (mt List.isEmpty_iff.1 hg)

/-- With no LINK grant in progress a release that clocks no byte ends the frame as it stands: the load and the capture
are settled, and beside them only the link and the arbiter are written (R177, R183). -/
theorem exec_selRelease_framed {s : State} (h : s.Framed) (hg : s.arbiter.grant ≠ .link) :
    ∃ a, exec (.selRelease []) s =
      .next { putBackCapture (endLoad s) with link := s.link.ended, arbiter := a } := by
  obtain ⟨a, e, -⟩ := arbitrate_withdrawn (putBackCapture (endLoad s))
  rw [putBackCapture_link, endLoad_link] at e
  refine ⟨a, congrArg Host.Outcome.next ?_⟩
  rw [selRelease, finishLink_of_ne hg]
  exact (endFrame_framed h).trans e

/-! ### The obligation -/

/-- Settles O8: the release settles the load and the capture, of which each frame has one. -/
theorem selReleaseSettlesCapturesAndLoads : Obligations.SelReleaseSettlesCapturesAndLoads := by
  refine ⟨fun flags s hf hc hl hg _ => ?_, fun n s hf hl hc hg _ => ?_⟩
  · have framed : s.Framed := hf.elim (.of_frame .status) (.of_frame .reply)
    obtain ⟨a, released⟩ := exec_selRelease_framed framed hg
    rw [endLoad_none hl, putBackCapture_some hc] at released
    exact ⟨_, released, rfl, rfl⟩
  · obtain ⟨a, released⟩ := exec_selRelease_framed (.of_frame .entries hf) hg
    rw [putBackCapture_none ((congrArg Link.captured (endLoad_link s)).trans hc)] at released
    refine ⟨_, released, ?_⟩
    by_cases hb : s.link.gathered = []
    · rw [endLoad_boundary hb, if_pos hb, if_pos hb]
      exact ⟨rfl, rfl, fun _ _ => rfl, rfl, rfl, rfl, rfl⟩
    · rw [endLoad_tears hl hb, if_neg hb, if_neg hb]
      refine ⟨setBuffer_buffer .., ?_, fun m hm => setBuffer_other _ _ _ _ hm, ?_, setBuffer_armOrder ..,
        setBuffer_stats .., setBuffer_cueStop ..⟩ <;> cases n <;> rfl

end Sys2Proof.Machine
end

section
/-! PROOFS. SET WATCH and CLEAR WATCH (O39): a condition that is written is evaluated at once when it is ARMED, and its
state is the reply (R147 to R150). -/

namespace Sys2Proof.Machine

/-! ### A condition that is written (R149, R150) -/

theorem watchEvent_bit (n : Fin 4) : (watchEvent n).bit = 13 + n.val := by
  revert n
  decide

theorem code_of_parseWatchState {b : Byte} {w : WatchState} (h : parseWatchState b = some w) : w.code = b := by
  unfold parseWatchState at h
  split at h <;> cases h <;> exact BitVec.eq_of_toNat_eq (Eq.symm ‹b.toNat = _›)

theorem setCondition_get (n : Fin 4) (w : Watch) (s : State) : (setCondition n w s).watch.conditions.get n = w :=
  Vector.getElem_set_self ..

theorem setCondition_setCondition (n : Fin 4) (v w : Watch) (s : State) :
    setCondition n w (setCondition n v s) = setCondition n w s := by
  simp only [setCondition, Vector.set_set]

theorem setCondition_quantity (n : Fin 4) (w : Watch) (s : State) (q : Quantity) :
    (setCondition n w s).quantity q = s.quantity q := by
  cases q <;> rfl

/-- A condition that trips at time `time` (R148). -/
def Watch.trippedAt (time : Nat) (w : Watch) : Watch := { w with state := .tripped, tripTime := some time }

section
variable {n : Fin 4} {w : Watch} {s : State}

/-- An ARMED condition whose test is true trips as it is written. -/
theorem rewriteWatch_trips (hw : w.state = .armed) (ht : w.test (s.quantity w.quantity) = true) :
    rewriteWatch n w s =
      answer .ok [WatchState.tripped.code] (raise (watchEvent n) (setCondition n (w.trippedAt s.clock.time) s)) := by
  have evaluated : evaluate n (setCondition n w s) =
      raise (watchEvent n) (setCondition n (w.trippedAt s.clock.time) s) := by
    unfold evaluate
    dsimp only
    rw [setCondition_get, setCondition_quantity, if_pos ⟨hw, ht⟩, setCondition_setCondition]
    rfl
  unfold rewriteWatch
  dsimp only
  rw [if_pos hw, evaluated, raise_conditions, setCondition_get]
  rfl

/-- Any other condition stands as it is written. -/
theorem rewriteWatch_stands (h : ¬(w.state = .armed ∧ w.test (s.quantity w.quantity) = true)) :
    rewriteWatch n w s = answer .ok [w.state.code] (setCondition n w s) := by
  have evaluated : evaluate n (setCondition n w s) = setCondition n w s := by
    unfold evaluate
    dsimp only
    rw [setCondition_get, setCondition_quantity, if_neg h]
  unfold rewriteWatch
  dsimp only
  rw [evaluated, ite_self, setCondition_get]

end

/-- On a quiet part a command that writes a condition changes the Watch Unit and the link alone, and replies the state
the condition then has. -/
theorem exec_rewriteWatch {c : Command} {check : Option Byte} {s : State} {n : Fin 4} {w : Watch}
    (h : Taken c check s) (ha : accessOf c = .claim) (hq : Quiet s)
    (hu : carryOut c (s.inGrant c) = rewriteWatch n w (s.inGrant c)) :
    exec (c.toInstr check) s = .next
      (if w.state = .armed ∧ w.test (s.quantity w.quantity) = true then
        { s with
          link := s.link.replied c .ok [WatchState.tripped.code]
          watch.conditions := s.watch.conditions.set n.val (w.trippedAt s.clock.time)
          watch.flags := s.watch.flags ||| (1#19 <<< (13 + n.val)) }
       else
        { s with
          link := s.link.replied c .ok [w.state.code]
          watch.conditions := s.watch.conditions.set n.val w }) := by
  have ⟨_, _, _, _, notReady, _⟩ := hq
  have quantity : (s.inGrant c).quantity w.quantity = s.quantity w.quantity := by cases w.quantity <;> rfl
  rw [← watchEvent_bit]
  split
  next met =>
    rw [← quantity] at met
    exact exec_answered_free h ha hq (hu.trans (rewriteWatch_trips met.1 met.2)) rfl rfl rfl notReady
  next unmet =>
    rw [← quantity] at unmet
    exact exec_answered_free h ha hq (hu.trans (rewriteWatch_stands unmet)) rfl rfl rfl notReady

/-! ### The two grants -/

section
variable {number quantity relation : Byte} {threshold : U16} {state : Byte} {s : State}

theorem grantSetWatch_writes {n : Fin 4} {q : Quantity} {r : Relation} {w : WatchState}
    (hn : parseCondition number = some n) (hq : parseQuantity quantity = some q) (hr : parseRelation relation = some r)
    (hw : parseWatchState state = some w) :
    grantSetWatch number quantity relation threshold state s =
      rewriteWatch n
        { quantity := q, relation := r, threshold := threshold.toNat, state := w, tripTime := none } s := by
  rw [grantSetWatch, hn, hq, hr, hw]

theorem grantSetWatch_range
    (h : parseCondition number = none ∨ parseQuantity quantity = none ∨ parseRelation relation = none ∨
      parseWatchState state = none) :
    grantSetWatch number quantity relation threshold state s = answer .range [] s := by
  unfold grantSetWatch
  split
  next hn hq hr hw => simp [hn, hq, hr, hw] at h
  next => rfl

theorem grantClearWatch_tripped {n : Fin 4} (hn : parseCondition number = some n)
    (hw : (s.watch.conditions.get n).state = .tripped) :
    grantClearWatch number s =
      rewriteWatch n { s.watch.conditions.get n with state := .armed, tripTime := none } s := by
  rw [grantClearWatch, hn]
  exact if_pos hw

theorem grantClearWatch_other {n : Fin 4} (hn : parseCondition number = some n)
    (hw : (s.watch.conditions.get n).state ≠ .tripped) :
    grantClearWatch number s = answer .ok [(s.watch.conditions.get n).state.code] s := by
  rw [grantClearWatch, hn]
  exact if_neg hw

theorem grantClearWatch_range (hn : parseCondition number = none) :
    grantClearWatch number s = answer .range [] s := by
  rw [grantClearWatch, hn]

end

/-! ### The obligation -/

/-- Settles O39: both commands write a condition, and `exec_rewriteWatch` says what becomes of it. -/
theorem watchCommandsEvaluateAtOnce : Obligations.WatchCommandsEvaluateAtOnce := by
  refine ⟨fun number quantity relation threshold state check s h hq =>
    ⟨fun n q rel w met hn hqu hr hs hmet => ?_, fun hbad => exec_read h rfl hq (grantSetWatch_range hbad)⟩,
    fun number check s h hq => ⟨fun n w hn hw ht => ?_, fun n hn ht => ?_, fun hn => ?_⟩⟩
  · have test : Watch.test ⟨q, rel, threshold.toNat, w, none⟩ (s.quantity q) = met := by
      rw [hmet]
      cases rel <;> rfl
    obtain rfl := code_of_parseWatchState hs
    rw [← test]
    exact exec_rewriteWatch h rfl hq (grantSetWatch_writes hn hqu hr hs)
  · subst hw
    refine (exec_rewriteWatch h rfl hq (grantClearWatch_tripped (s := s.inGrant (.clearWatch number)) hn ht)).trans ?_
    have stays : (s.watch.conditions.get n).trippedAt s.clock.time =
        { s.watch.conditions.get n with tripTime := some s.clock.time } := by rw [Watch.trippedAt, ← ht]
    rw [← stays]
    simp only [true_and]
    rfl
  · exact exec_read h rfl hq (grantClearWatch_other (s := s.inGrant (.clearWatch number)) hn ht)
  · exact exec_read h rfl hq (grantClearWatch_range hn)

end Sys2Proof.Machine
end

section
/-! PROOFS. The event enables and the interrupt line (O17, O18): the settings and their refusals (R156, R157), the
request and the level of INT (R158). -/

namespace Sys2Proof.Machine

/-! ### The settings of the interrupt line (R157) -/

theorem parseFlag_of_le {b : Byte} (h : b.toNat ≤ 1) : parseFlag b = some (b == 1) := by
  rw [parseFlag_eq]
  obtain rfl | rfl : b = 0 ∨ b = 1 := by bv_omega
  · rfl
  · rfl

/-- The settings that SET INTERRUPT LINE takes: each is 0 or 1, and a HIGH line is not OPEN_DRAIN (R157). -/
def TakesLine (enabled level drive : Byte) : Prop :=
  enabled.toNat ≤ 1 ∧ level.toNat ≤ 1 ∧ drive.toNat ≤ 1 ∧ ¬(level = 1 ∧ drive = 0)

section
variable {enabled level drive : Byte} (s : State)

theorem directSetInterruptLine_takes (h : TakesLine enabled level drive) :
    directSetInterruptLine enabled level drive s =
      answer .ok [] { s with
        watch.intEnabled := enabled == 1, watch.intActiveHigh := level == 1, watch.intPushPull := drive == 1 } := by
  obtain ⟨he, hl, hd, hopen⟩ := h
  have driven : ¬((level == 1) && !(drive == 1)) = true := by
    simp only [Bool.and_eq_true, Bool.not_eq_true', beq_iff_eq, beq_eq_false_iff_ne]
    exact fun ⟨high, push⟩ => hopen ⟨high, by bv_omega⟩
  rw [directSetInterruptLine, parseFlag_of_le he, parseFlag_of_le hl, parseFlag_of_le hd]
  exact if_neg driven

theorem directSetInterruptLine_refuses (h : ¬TakesLine enabled level drive) :
    directSetInterruptLine enabled level drive s = answer .range [] s := by
  have le {b : Byte} {f : Bool} (hb : parseFlag b = some f) : b.toNat ≤ 1 := by
    by_contra hn
    rw [parseFlag_none (by omega)] at hb
    cases hb
  unfold directSetInterruptLine
  split
  next e high push he hl hd =>
    obtain ⟨hlevel, hdrive⟩ : level = 1 ∧ drive = 0 := by
      by_contra hn
      exact h ⟨le he, le hl, le hd, hn⟩
    subst hlevel hdrive
    cases hl
    cases hd
    rfl
  next => rfl

end

/-- Settles O17. -/
theorem interruptSettingsAreWritten : Obligations.InterruptSettingsAreWritten := by
  refine ⟨fun word check s h => ⟨_, exec_direct h rfl, rfl, fun e => ?_⟩,
    fun enabled level drive check s h => ?_⟩
  · have taken : e.bit < 19 := e.bit_lt
    show (word.setWidth 19).getLsbD e.bit = _
    simp [taken]
  · refine (exec_direct h rfl).trans (congrArg Host.Outcome.next ?_)
    split
    next takes => exact directSetInterruptLine_takes _ takes
    next refuses => exact directSetInterruptLine_refuses _ refuses

/-! ### The request (R158) -/

/-- Each of the nineteen bits is the flag of an event (R194). -/
theorem Event.exists_bit {i : Nat} (h : i < 19) : ∃ e : Event, e.bit = i := by
  have each : ∀ i : Fin 19, (Event.ofNat i).bit = i := by decide
  exact ⟨_, each ⟨i, h⟩⟩

theorem interruptRequest_iff (s : State) :
    s.interruptRequest = true ↔ ∃ e : Event, s.flag e = true ∧ s.watch.enables.getLsbD e.bit = true := by
  have request : s.interruptRequest = true ↔ s.watch.flags &&& s.watch.enables ≠ 0#19 := bne_iff_ne
  rw [request]
  constructor
  · intro nonzero
    by_contra absent
    refine nonzero (BitVec.eq_of_getLsbD_eq fun i hi => ?_)
    obtain ⟨e, rfl⟩ := Event.exists_bit hi
    rw [BitVec.getLsbD_and, BitVec.getLsbD_zero, Bool.and_eq_false_imp]
    exact fun flag => Bool.eq_false_of_not_eq_true fun enabled => absent ⟨e, flag, enabled⟩
  · rintro ⟨e, flag, enabled⟩ zero
    have bit : (s.watch.flags &&& s.watch.enables).getLsbD e.bit = true := by
      rw [BitVec.getLsbD_and, enabled, Bool.and_true]
      exact flag
    rw [zero, BitVec.getLsbD_zero] at bit
    cases bit

/-- Settles O18: the request bit by bit, and INT by its settings. -/
theorem interruptLineFollowsTheRequest : Obligations.InterruptLineFollowsTheRequest := by
  refine fun s => ⟨interruptRequest_iff s, fun he => ?_, fun he hp => ?_, fun he hp => ?_⟩
  · simp only [State.intPin, he, Bool.not_false, if_true]
  · simp only [State.intPin, he, hp, Bool.not_true, Bool.false_eq_true, if_false]
  · simp only [State.intPin, he, hp, Bool.not_true, Bool.false_eq_true, if_false, if_true]
    cases s.interruptRequest <;> cases s.watch.intActiveHigh <;> rfl

end Sys2Proof.Machine
end

section
/-! PROOFS. The indicator lines, the SETTLE line and the flash phase (O41): what a report gives each line (R168, R169),
the output table (R170), the level of SETTLE (R172) and the turn of the flash phase (R171). -/

namespace Sys2Proof.Machine

/-! ### The report (R168, R169) -/

/-- The island of a node, when the node is defined and has one. -/
def Store.islandOf (st : Store) (n : Nat) : Option Island :=
  (st.node n).bind fun r => r.island.bind fun k => st.island k

theorem Store.feedOfNode_eq (st : Store) (n : Nat) : st.feedOfNode n = (st.islandOf n).map (·.feed) := by
  simp only [Store.feedOfNode, Store.islandOf, Option.map_bind, Function.comp_def]

section
variable {st : Store} {n : Nat}

theorem Store.followedOf_live {b : Island} (h : st.islandOf n = some b) (hf : b.feed = .live) :
    st.followedOf n = .live := by
  rw [Store.followedOf, Store.feedOfNode_eq, h, Option.map_some, hf]

theorem Store.followedOf_dead {b : Island} (h : st.islandOf n = some b) (hf : b.feed = .dead) :
    st.followedOf n = .dead := by
  rw [Store.followedOf, Store.feedOfNode_eq, h, Option.map_some, hf]

theorem Store.followedOf_none (h : st.islandOf n = none) : st.followedOf n = .none := by
  rw [Store.followedOf, Store.feedOfNode_eq, h, Option.map_none]

end

theorem report_indicator (s : State) (n : Fin 16) :
    (report s).panel.indicators.get n =
      { s.panel.indicators.get n with followed := s.store.followedOf (s.panel.indicators.get n).node } :=
  mapVector_get ..

theorem RunState.followsNone_of_hasModel {r : RunState} (h : r.hasModel = true) : r.followsNone = false := by
  cases r with
  | build | compiling | restoring => cases h
  | _ => rfl

theorem grantRefreshIndicators_reports {s : State} (h : s.run.state.hasModel = true) :
    grantRefreshIndicators s = answer .ok [] (report s) := by
  rw [grantRefreshIndicators, RunState.followsNone_of_hasModel h]
  rfl

theorem grantRefreshIndicators_build {s : State} (h : s.run.state = .build) :
    grantRefreshIndicators s = answer .ok [] s := by
  rw [grantRefreshIndicators, h]
  rfl

/-! ### The output of a line (R170) -/

theorem Indicator.lit_iff (l : Indicator) (phase : Bool) :
    l.lit phase = true ↔
      l.mode = .fixed ∧ l.fixedActive = true ∨ l.mode = .live ∧ l.followed = .live ∨
        l.mode = .deadFlash ∧ (l.followed = .live ∨ l.followed = .dead ∧ phase = true) := by
  obtain ⟨mode, node, fixed, high, z, followed⟩ := l
  cases mode with
  | fixed => simp [Indicator.lit]
  | live => cases followed <;> simp [Indicator.lit]
  | deadFlash => cases followed <;> simp [Indicator.lit]

theorem Indicator.output_highZ {l : Indicator} (h : l.highZ = true) (phase : Bool) : l.output phase = .highZ :=
  if_pos h

theorem Indicator.output_driven {l : Indicator} (h : l.highZ = false) (phase : Bool) :
    l.output phase =
      if l.lit phase = true then (if l.activeHigh then .high else .low)
      else (if l.activeHigh then .low else .high) := by
  rw [Indicator.output, h]
  cases l.lit phase <;> cases l.activeHigh <;> rfl

/-! ### SETTLE (R172) -/

theorem RunState.holdsStore_iff (r : RunState) : r.holdsStore = true ↔ r = .compiling ∨ r = .restoring := by
  cases r <;> simp [RunState.holdsStore]

theorem State.settleActive_iff (s : State) :
    s.settleActive = true ↔
      s.resolver.queue ≠ [] ∨ s.resolver.current ≠ none ∨ s.run.state = .compiling ∨ s.run.state = .restoring := by
  have unsettled : (!s.settled) = true ↔ s.resolver.queue ≠ [] ∨ s.resolver.current ≠ none := by
    rw [State.settled, Bool.not_and, Bool.or_eq_true, Bool.not_eq_true', Bool.not_eq_true', ← Bool.not_eq_true,
      ← Bool.not_eq_true, List.isEmpty_iff, Option.isNone_iff_eq_none]
  rw [State.settleActive, Bool.or_eq_true, unsettled, RunState.holdsStore_iff, or_assoc]

theorem State.settlePin_eq (s : State) : s.settlePin = if s.settleActive = true then .low else .high := by
  rw [State.settlePin]
  cases s.settleActive <;> rfl

/-! ### The obligation -/

/-- Settles O41: the grant is the report of R168, and the rest are the tables of R170 and R172. -/
theorem indicatorsAndSettleFollow : Obligations.IndicatorsAndSettleFollow := by
  refine ⟨fun check s h hq => ⟨fun hm => ?_, fun hb => ?_⟩, fun l phase => ⟨fun hz => ?_, fun hz => ?_⟩, fun s => ?_,
    fun s => ⟨_, rfl, rfl, Bool.not_ne_self _⟩⟩
  · have ⟨_, _, _, _, notReady, _⟩ := hq
    refine ⟨_, exec_answered_free h rfl hq (grantRefreshIndicators_reports (s := s.inGrant _) hm) rfl rfl rfl notReady,
      rfl, fun n => ?_⟩
    refine (report_indicator (s.inGrant .refreshIndicators) n).trans
      (congrArg (fun f => { s.panel.indicators.get n with followed := f }) ?_)
    split
    next b hb =>
      split
      next live => exact Store.followedOf_live hb live
      next dead => exact Store.followedOf_dead hb dead
    next hb => exact Store.followedOf_none hb
  · exact exec_read h rfl hq (grantRefreshIndicators_build (s := s.inGrant .refreshIndicators) hb)
  · exact Indicator.output_highZ hz phase
  · simp only [Indicator.output_driven hz, Indicator.lit_iff]
  · simp only [State.settlePin_eq, State.settleActive_iff]

end Sys2Proof.Machine
end

section
/-! PROOFS. The settings of the panel lines (O19) and the flags of the cue lines (O20): one line is written and the
others stand (R165 to R168). -/

namespace Sys2Proof.Machine

/-! ### One line of the panel -/

theorem line_get {α : Type} {w : Nat} (v : Vector α w) (n m : Fin w) (x : α) :
    (v.set n.val x n.isLt).get m = if m = n then x else v.get m := by
  simp [Vector.get_eq_getElem, Vector.getElem_set, Fin.ext_iff, eq_comm]

theorem setCue_get (n m : Fin 8) (c : CueLine) (s : State) :
    (setCue n c s).panel.cues.get m = if m = n then c else s.panel.cues.get m :=
  line_get ..

theorem setIndicatorLine_get (n m : Fin 16) (l : Indicator) (s : State) :
    (setIndicatorLine n l s).panel.indicators.get m = if m = n then l else s.panel.indicators.get m :=
  line_get ..

/-! ### The operands (R193) -/

theorem parseCue_eq_some {b : Byte} {n : Fin 8} : parseCue b = some n ↔ n.val = b.toNat := by
  rw [parseCue, Option.dite_none_right_eq_some]
  simp only [Option.some.injEq, Fin.ext_iff, exists_prop]
  omega

theorem parseIndicator_eq_some {b : Byte} {n : Fin 16} : parseIndicator b = some n ↔ n.val = b.toNat := by
  rw [parseIndicator, Option.dite_none_right_eq_some]
  simp only [Option.some.injEq, Fin.ext_iff, exists_prop]
  omega

theorem parseFunction_isSome (b : Byte) : (parseFunction b).isSome = true ↔ b.toNat < 4 := by
  unfold parseFunction
  split <;> grind

theorem code_of_parseFunction {b : Byte} {f : CueFunction} (h : parseFunction b = some f) : f.code = b := by
  unfold parseFunction at h
  split at h <;> cases h <;> exact BitVec.eq_of_toNat_eq (Eq.symm ‹b.toNat = _›)

theorem parseEdge_isSome (b : Byte) : (parseEdge b).isSome = true ↔ b.toNat < 2 := by
  unfold parseEdge
  split <;> grind

theorem code_of_parseEdge {b : Byte} {e : CueEdge} (h : parseEdge b = some e) : e.code = b := by
  unfold parseEdge at h
  split at h <;> cases h <;> exact BitVec.eq_of_toNat_eq (Eq.symm ‹b.toNat = _›)

theorem parseMode_isSome (b : Byte) : (parseMode b).isSome = true ↔ b.toNat < 3 := by
  unfold parseMode
  split <;> grind

theorem code_of_parseMode {b : Byte} {m : IndicatorMode} (h : parseMode b = some m) : m.code = b := by
  unfold parseMode at h
  split at h <;> cases h <;> exact BitVec.eq_of_toNat_eq (Eq.symm ‹b.toNat = _›)

theorem parseFlag_isSome (b : Byte) : (parseFlag b).isSome = true ↔ b.toNat < 2 := by
  unfold parseFlag
  split <;> grind

theorem flagByte_of_parseFlag {b : Byte} {f : Bool} (h : parseFlag b = some f) : flagByte f = b := by
  unfold parseFlag at h
  split at h <;> cases h <;> exact BitVec.eq_of_toNat_eq (Eq.symm ‹b.toNat = _›)

/-! ### SET CUE LINE (R165) -/

section
variable {line function edge enable : Byte} {s : State}

theorem directSetCueLine_writes {n : Fin 8} {f : CueFunction} {e : CueEdge} {i : Bool} (hn : parseCue line = some n)
    (hf : parseFunction function = some f) (he : parseEdge edge = some e) (hi : parseFlag enable = some i) :
    directSetCueLine line function edge enable s =
      answer .ok [] (refreshHold
        (setCue n { s.panel.cues.get n with function := f, edge := e, intEnable := i } s)) := by
  rw [directSetCueLine, hn, hf, he, hi]

theorem directSetCueLine_refuses
    (h : ¬(line.toNat < 8 ∧ function.toNat < 4 ∧ edge.toNat < 2 ∧ enable.toNat < 2)) :
    directSetCueLine line function edge enable s = answer .range [] s := by
  unfold directSetCueLine
  split
  next n f e i hn hf he hi =>
    exact absurd ⟨parseCue_eq_some.1 hn ▸ n.isLt, (parseFunction_isSome _).1 (Option.isSome_of_eq_some hf),
      (parseEdge_isSome _).1 (Option.isSome_of_eq_some he), (parseFlag_isSome _).1 (Option.isSome_of_eq_some hi)⟩ h
  next => rfl

end

/-! ### SET INDICATOR (R167, R168) -/

theorem RunState.followsNone_iff (r : RunState) :
    r.followsNone = true ↔ r = .build ∨ r = .compiling ∨ r = .restoring := by
  cases r <;> simp [RunState.followsNone]

section
variable {line mode : Byte} {node : U16} {fixed level highZ : Byte} {s : State}

theorem directSetIndicator_writes {n : Fin 16} {m : IndicatorMode} {f a z : Bool} (hk : node.toNat < 4096)
    (hn : parseIndicator line = some n) (hm : parseMode mode = some m) (hf : parseFlag fixed = some f)
    (ha : parseFlag level = some a) (hz : parseFlag highZ = some z) :
    directSetIndicator line mode node fixed level highZ s =
      answer .ok [] (setIndicatorLine n
        { mode := m, node := node.toNat, fixedActive := f, activeHigh := a, highZ := z,
          followed := refollow s.run.state (s.panel.indicators.get n) node.toNat } s) := by
  rw [directSetIndicator, hn, hm, hf, ha, hz]
  exact if_neg (Nat.not_le.2 hk)

theorem directSetIndicator_refuses
    (h : ¬(line.toNat < 16 ∧ mode.toNat < 3 ∧ node.toNat < 4096 ∧ fixed.toNat < 2 ∧ level.toNat < 2 ∧
      highZ.toNat < 2)) :
    directSetIndicator line mode node fixed level highZ s = answer .range [] s := by
  unfold directSetIndicator
  split
  next => rfl
  next hk =>
    split
    next n m f a z hn hm hf ha hz =>
      exact absurd ⟨parseIndicator_eq_some.1 hn ▸ n.isLt, (parseMode_isSome _).1 (Option.isSome_of_eq_some hm),
        Nat.not_le.1 hk, (parseFlag_isSome _).1 (Option.isSome_of_eq_some hf),
        (parseFlag_isSome _).1 (Option.isSome_of_eq_some ha), (parseFlag_isSome _).1 (Option.isSome_of_eq_some hz)⟩ h
    next => rfl

end

/-! ### The obligation on the settings -/

/-- Settles O19: each operand in range is the code of a setting, and one line is written. -/
theorem panelLinesAreConfigured : Obligations.PanelLinesAreConfigured := by
  refine ⟨fun line function edge enable check s h => ⟨fun ⟨hl, hf, he, hi⟩ => ?_, fun hbad => ?_⟩,
    fun line mode node fixed level highZ check s h => ⟨fun ⟨hl, hm, hk, hf, ha, hz⟩ => ?_, fun hbad => ?_⟩⟩
  · obtain ⟨k, hn⟩ : ∃ k, parseCue line = some k := ⟨⟨_, hl⟩, parseCue_eq_some.2 rfl⟩
    obtain ⟨f, hf⟩ := Option.isSome_iff_exists.1 ((parseFunction_isSome _).2 hf)
    obtain ⟨e, he⟩ := Option.isSome_iff_exists.1 ((parseEdge_isSome _).2 he)
    obtain ⟨i, hi⟩ := Option.isSome_iff_exists.1 ((parseFlag_isSome _).2 hi)
    have named := parseCue_eq_some.1 hn
    refine ⟨_, (exec_direct h rfl).trans (congrArg _ (directSetCueLine_writes hn hf he hi)), rfl,
      fun n hline => ?_, fun n other => ?_⟩
    · obtain rfl : n = k := Fin.ext (hline.trans named.symm)
      simp only [answer_panel, refreshHold_panel, setCue_get, if_true, code_of_parseFunction hf, code_of_parseEdge he,
        flagByte_of_parseFlag hi, and_self]
    · exact (setCue_get ..).trans (if_neg fun same => other ((congrArg Fin.val same).trans named))
  · exact (exec_direct h rfl).trans (congrArg _ (directSetCueLine_refuses hbad))
  · obtain ⟨k, hn⟩ : ∃ k, parseIndicator line = some k := ⟨⟨_, hl⟩, parseIndicator_eq_some.2 rfl⟩
    obtain ⟨m, hm⟩ := Option.isSome_iff_exists.1 ((parseMode_isSome _).2 hm)
    obtain ⟨f, hf⟩ := Option.isSome_iff_exists.1 ((parseFlag_isSome _).2 hf)
    obtain ⟨a, ha⟩ := Option.isSome_iff_exists.1 ((parseFlag_isSome _).2 ha)
    obtain ⟨z, hz⟩ := Option.isSome_iff_exists.1 ((parseFlag_isSome _).2 hz)
    have named := parseIndicator_eq_some.1 hn
    refine ⟨_, (exec_direct h rfl).trans (congrArg _ (directSetIndicator_writes hk hn hm hf ha hz)), rfl,
      fun n hline => ?_, fun n other => ?_⟩
    · obtain rfl : n = k := Fin.ext (hline.trans named.symm)
      simp only [answer_panel, setIndicatorLine_get, if_true, code_of_parseMode hm, flagByte_of_parseFlag hf,
        flagByte_of_parseFlag ha, flagByte_of_parseFlag hz, refollow, RunState.followsNone_iff, and_self]
    · exact (setIndicatorLine_get ..).trans (if_neg fun same => other ((congrArg Fin.val same).trans named))
  · exact (exec_direct h rfl).trans (congrArg _ (directSetIndicator_refuses hbad))

/-! ### CLEAR LINE FLAGS (R166) -/

/-- A cue line whose mask bit is `clear`. -/
def CueLine.masked (clear : Bool) (c : CueLine) : CueLine := { c with flag := c.flag && !clear }

theorem CueLine.masked_false (c : CueLine) : c.masked false = c := by
  simp [CueLine.masked]

theorem CueLine.masked_true (c : CueLine) : c.masked true = { c with flag := false } := by
  simp [CueLine.masked]

theorem CueLine.masked_masked (clear : Bool) (c : CueLine) : (c.masked clear).masked clear = c.masked clear := by
  simp [CueLine.masked]

/-- What CLEAR LINE FLAGS makes of one line: its flag is cleared where its mask bit is 1 (R166). -/
def maskLine (mask : Byte) (v : Vector CueLine 8) (n : Fin 8) : Vector CueLine 8 :=
  if mask.getLsbD n.val then v.set n.val { v.get n with flag := false } n.isLt else v

theorem clearedCues_eq_foldl (mask : Byte) (v : Vector CueLine 8) :
    clearedCues mask v = allCues.foldl (maskLine mask) v := rfl

theorem maskLine_get (mask : Byte) (v : Vector CueLine 8) (n m : Fin 8) :
    (maskLine mask v n).get m = if m = n then (v.get m).masked (mask.getLsbD m.val) else v.get m := by
  by_cases bit : mask.getLsbD n.val = true
  · rw [maskLine, if_pos bit, line_get]
    split
    next same => rw [same, bit, CueLine.masked_true]
    next => rfl
  · rw [maskLine, if_neg bit]
    split
    next same => rw [same, Bool.eq_false_of_not_eq_true bit, CueLine.masked_false]
    next => rfl

/-- Masking a line again changes nothing more, so neither the order of the lines nor a line named twice matters. -/
theorem foldl_maskLine_get (mask : Byte) (l : List (Fin 8)) (v : Vector CueLine 8) (m : Fin 8) :
    (l.foldl (maskLine mask) v).get m = if m ∈ l then (v.get m).masked (mask.getLsbD m.val) else v.get m := by
  induction l generalizing v with
  | nil => rfl
  | cons n l ih =>
    rw [List.foldl_cons, ih, maskLine_get]
    by_cases first : m = n <;> by_cases later : m ∈ l <;> simp [first, later, CueLine.masked_masked]

theorem clearedCues_get (mask : Byte) (v : Vector CueLine 8) (m : Fin 8) :
    (clearedCues mask v).get m = (v.get m).masked (mask.getLsbD m.val) := by
  rw [clearedCues_eq_foldl, foldl_maskLine_get, if_pos (mem_allCues m)]

/-- Settles O20. -/
theorem clearLineFlagsClearsTheMask : Obligations.ClearLineFlagsClearsTheMask :=
  fun mask _ s h => ⟨_, exec_direct h rfl, rfl, clearedCues_get mask s.panel.cues⟩

end Sys2Proof.Machine
end

section
/-! PROOFS. The coding of commands (O9) and the bytes of a command's row, one position after the other (O10) (R176 to
R178, R184, R186). -/

namespace Sys2Proof.Machine

/-! ### The coding (R178) -/

/-- A one-byte operand is its byte; a longer number is what its bytes spell (R178). -/
theorem decodeCommand_bytes (c : Command) : decodeCommand c.code c.argBytes = some c := by
  cases c <;>
    simp [decodeCommand, Command.code, Command.argBytes, spell0, spell1, spell2, spell3, spell4, spell5, spell6, spell7,
      bytes16, bytes24, bytes32, word16_bytes, word24_bytes, word32_bytes]

theorem argCount_code (c : Command) : argCount c.code = some c.argBytes.length := by
  cases c <;> rfl

/-- What decodes are the bytes of the command that they spell. -/
theorem bytes_of_decodeCommand {code : Byte} {args : List Byte} {c : Command} (h : decodeCommand code args = some c) :
    c.code = code ∧ c.argBytes = args := by
  unfold decodeCommand at h
  split at h
  case h_44 => cases h
  all_goals
    rename_i hcode
    simp only [spell0, spell1, spell2, spell3, spell4, spell5, spell6, spell7] at h
    split at h <;> cases h
    exact ⟨BitVec.eq_of_toNat_eq hcode.symm, by simp [Command.argBytes, bytes16_word, bytes24_word, bytes32_word]⟩

/-- Settles O9: the numbers come back from their bytes, and the bytes from the numbers. -/
theorem commandCodingIsExact : Obligations.CommandCodingIsExact :=
  ⟨fun c => ⟨decodeCommand_bytes c, argCount_code c⟩, fun _ _ _ h => bytes_of_decodeCommand h⟩

/-- Fewer bytes than a command has spell nothing yet. -/
theorem decodeCommand_short {c : Command} {args : List Byte} (h : args.length < c.argBytes.length) :
    decodeCommand c.code args = none := by
  refine Option.eq_none_iff_forall_ne_some.2 fun d hd => ?_
  obtain ⟨hcode, rfl⟩ := bytes_of_decodeCommand hd
  have counts := argCount_code d
  rw [hcode, argCount_code c, Option.some.injEq] at counts
  omega

/-! ### A frame that takes its bytes (R177) -/

theorem xorBytes_concat (l : List Byte) (b : Byte) : xorBytes (l ++ [b]) = xorBytes l ^^^ b :=
  List.foldl_concat ..

/-- `s` with a command byte and the argument bytes behind it latched (R177, R184, R186). -/
def State.latched (code : Byte) (args : List Byte) (s : State) : State :=
  { s with
    link.code := some code
    link.args := args
    link.xor := xorBytes args
    link.waitBegun := false
    link.frameCheck := s.link.checkMode }

/-- `s` in the frame state `f`. -/
def State.inFrame (f : FrameState) (s : State) : State := { s with link.frame := f }

/-- `s` when the argument bytes `args` have come: they spell a command, or the frame takes more (R178). -/
def State.gathers (code : Byte) (args : List Byte) (s : State) : State :=
  match decodeCommand code args with
  | some c => endArguments c (s.latched code args)
  | none => (s.latched code args).inFrame .arguments

section
variable {c : Command} {s : State}

theorem latchArgument_latched (code b : Byte) (args : List Byte) (f : FrameState) :
    latchArgument b ((s.latched code args).inFrame f) = (s.latched code (args ++ [b])).inFrame f := by
  simp only [State.latched, xorBytes_concat]
  rfl

theorem testCheck_inFrame (byte : Byte) (f : FrameState) : testCheck c byte (s.inFrame f) = testCheck c byte s := by
  cases c <;> rfl

theorem gathers_short {args : List Byte} (h : args.length < c.argBytes.length) :
    s.gathers c.code args = (s.latched c.code args).inFrame .arguments := by
  rw [State.gathers, decodeCommand_short h]

theorem gathers_last : s.gathers c.code c.argBytes = endArguments c (s.latched c.code c.argBytes) := by
  rw [State.gathers, decodeCommand_bytes]

theorem hostByte_code (hf : s.link.frame = .command) : hostByte s c.code = s.gathers c.code [] := by
  rw [hostByte, hf]
  simp only [commandByte, argCount_code c]
  rfl

theorem hostByte_argument (args : List Byte) (b : Byte) :
    hostByte ((s.latched c.code args).inFrame .arguments) b = s.gathers c.code (args ++ [b]) := by
  show argumentByte b _ = _
  rw [argumentByte, latchArgument_latched]
  rfl

/-- As long as bytes are missing the command's bytes are gathered; the last one ends its arguments (R177). -/
theorem hostBytes_gathers_args (hf : s.link.frame = .command) {args : List Byte}
    (h : args.length ≤ c.argBytes.length) : hostBytes (c.code :: args) s = s.gathers c.code args := by
  induction args using List.reverseRecOn with
  | nil => exact hostByte_code hf
  | append_singleton args b ih =>
    have short : args.length < c.argBytes.length := by
      rw [List.length_append, List.length_singleton] at h
      omega
    rw [← List.cons_append, hostBytes_concat, ih short.le, gathers_short short, hostByte_argument]

/-- A row without a check byte ends with the last argument byte. -/
theorem hostCommand_none (hf : s.link.frame = .command) :
    hostCommand c none s = endArguments c (s.latched c.code c.argBytes) := by
  unfold hostCommand endArguments
  rw [hf]
  cases hm : s.link.checkMode <;> simp [hm, State.latched]

/-- In check mode the check byte meets the arguments that are latched (R186). -/
theorem hostCommand_checked (hf : s.link.frame = .command) (hm : s.link.checkMode = true) (byte : Byte) :
    hostCommand c (some byte) s = testCheck c byte (s.latched c.code c.argBytes) := by
  simp [hostCommand, hf, hm, State.latched]

/-- In check mode a row without its check byte waits for it (R177). -/
theorem hostCommand_unchecked (hf : s.link.frame = .command) (hm : s.link.checkMode = true) :
    hostCommand c none s = (s.latched c.code c.argBytes).inFrame .check := by
  rw [hostCommand_none hf]
  exact if_pos hm

/-- The check byte of a row falls in the position behind its other bytes, whatever the check mode (R177, R184). -/
theorem hostCommand_some (hf : s.link.frame = .command) (byte : Byte) :
    hostCommand c (some byte) s = hostByte (hostCommand c none s) byte := by
  cases hm : s.link.checkMode with
  | false => exact hostCommand_filler ⟨hf, by simp [GoodCheck, hm]⟩ hm byte
  | true =>
    rw [hostCommand_checked hf hm, hostCommand_unchecked hf hm]
    show _ = checkByte byte _
    have spelt : ((s.latched c.code c.argBytes).inFrame .check).link.command = some c := decodeCommand_bytes c
    rw [checkByte, spelt]
    exact (testCheck_inFrame byte .check).symm

end

/-- Settles O10. -/
theorem commandRowsAreTheirBytes : Obligations.CommandRowsAreTheirBytes := by
  intro c check s hf
  have row : hostCommand c none s = hostBytes c.frameBytes s := by
    rw [hostCommand_none hf, Command.frameBytes, hostBytes_gathers_args hf le_rfl, gathers_last]
  rw [exec_toInstr]
  cases check with
  | none => rw [row, Option.toList_none, List.append_nil]
  | some byte => rw [hostCommand_some hf, row, Option.toList_some, hostBytes_concat]

end Sys2Proof.Machine
end

section
/-! PROOFS. UNKNOWN, CHECK and a missing check byte (O11) (R177, R179, R186, R188). -/

namespace Sys2Proof.Machine

theorem commandByte_unknown {code : Byte} (h : argCount code = none) (s : State) :
    commandByte code s = answer .unknown [] (latchCode code s) := by
  rw [commandByte, h]

theorem testCheck_bad {c : Command} {byte : Byte} {s : State} (h : byte ≠ s.link.xor) :
    testCheck c byte s = refuseCheck c s := if_neg h

/-- Only a LOAD BATCH is refused beyond its answer (R188). -/
theorem refuseCheck_other {c : Command} (h : ∀ letter tag, c ≠ .loadBatch letter tag) (s : State) :
    refuseCheck c s = answer .check [] (raise .linkCheck s) := by
  unfold refuseCheck
  split
  · exact absurd rfl (h _ _)
  · rfl

/-- Settles O11. -/
theorem unknownAndBadlySentCommands : Obligations.UnknownAndBadlySentCommands := by
  refine ⟨fun code s hf hcode hg => ?_, fun c byte s hf hm hbyte => ?_, fun c s hf hm => ?_⟩
  · show Host.Outcome.next (hostByte (finishLink s) code) = _
    rw [finishLink_of_ne hg, hostByte, hf]
    dsimp only
    rw [commandByte_unknown hcode]
    rfl
  · have refused : exec (c.toInstr (some byte)) s = .next (refuseCheck c (s.latched c.code c.argBytes)) := by
      rw [exec_toInstr, hostCommand_checked hf hm, testCheck_bad (s := s.latched c.code c.argBytes) hbyte]
    refine ⟨_, refused, ?_⟩
    by_cases hload : ∃ letter tag, c = .loadBatch letter tag
    · obtain ⟨letter, tag, rfl⟩ := hload
      exact ⟨rfl, rfl, rfl, rfl, fun _ _ _ => rfl, fun h => absurd rfl (h letter tag)⟩
    · have other : ∀ letter tag, c ≠ .loadBatch letter tag := fun letter tag h => hload ⟨letter, tag, h⟩
      rw [refuseCheck_other other]
      refine ⟨rfl, rfl, ?_, rfl, fun letter tag h => absurd h (other letter tag), fun _ => rfl⟩
      exact replyBytes_head ..
  · rw [exec_toInstr, hostCommand_unchecked hf hm, State.inFrame, State.latched, hm]

end Sys2Proof.Machine
end

section
/-! PROOFS. The answer of a command, and a command that is refused (O14) (R76, R180). -/

namespace Sys2Proof.Machine

/-! ### What an answer says -/

/-- The statuses of a command that is not carried out (R180). -/
def Status.refuses : Status → Bool
  | .busy => true
  | .protect => true
  | .range => true
  | .full => true
  | _ => false

theorem Status.refuses_iff (st : Status) :
    st.refuses = true ↔ st.code = 0x02 ∨ st.code = 0x03 ∨ st.code = 0x04 ∨ st.code = 0x08 := by
  cases st <;> decide

/-- A command carried out in `s` has the answer `st` in `t`, and when it is refused nothing but the link is written. -/
structure Answers (st : Status) (s t : State) : Prop where
  reply : t.link.reply.head? = some st.code
  refused : st.refuses = true → t = { s with link := t.link }

theorem answer_answers {st : Status} {s u : State} (h : st.refuses = true → u = s) (data : List Byte) :
    ∃ st', Answers st' s (answer st data u) :=
  ⟨st, replyBytes_head .., fun hst => by rw [h hst]; rfl⟩

theorem answer_self_answers (st : Status) (data : List Byte) (s : State) : ∃ st', Answers st' s (answer st data s) :=
  answer_answers (fun _ => rfl) data

theorem answerLate_answers (r : LateRead) (s : State) : ∃ st, Answers st s (answerLate r s) := ⟨.ok, rfl, nofun⟩

theorem Store.walk_accepts (st : Store) (b : Island) (stride n : Nat) (m : WalkMoveName) :
    (st.walk b stride n m).1.refuses = false := by
  unfold Store.walk
  repeat' split
  all_goals rfl

theorem changeSwitch_answers (sw : Nat) (old new : SwitchRec) (s : State) :
    ∃ st, Answers st s (changeSwitch sw old new s) := by
  unfold changeSwitch
  split
  · exact answer_self_answers ..
  · exact answer_answers (st := .ok) (fun h => by cases h) _

theorem directLoadBatch_answers (letter tag : Byte) (s : State) : ∃ st, Answers st s (directLoadBatch letter tag s) := by
  unfold directLoadBatch
  split
  · exact ⟨.ok, rfl, nofun⟩
  · exact ⟨_, rfl, fun _ => rfl⟩

/-- Every command but CLEAR MODEL is answered when it is carried out, and one that is refused writes nothing but the
link (R76, R78, R180). -/
theorem carryOut_answers {c : Command} (ha : accessOf c ≠ .clear) {s : State} (hf : s.link.frame = .waiting) :
    ∃ st, Answers st s (carryOut c s) := by
  cases c <;> simp only [carryOut]
  case clearModel => exact absurd rfl ha
  case loadBatch letter tag => exact directLoadBatch_answers ..
  case readStatus | readEvents | readInterrupt | readLines => exact answerLate_answers ..
  case overrideSwitch sw action =>
    unfold grantOverrideSwitch
    repeat' split
    case h_1 => exact changeSwitch_answers ..
    all_goals exact answer_self_answers ..
  case retireSwitch sw =>
    unfold grantRetireSwitch
    repeat' split
    case h_1.isFalse => exact changeSwitch_answers ..
    all_goals exact answer_self_answers ..
  case readTable table first =>
    unfold grantReadTable
    repeat' split
    case h_1.isFalse =>
      refine ⟨.ok, ?_, nofun⟩
      rw [readRecord_eq]
      dsimp only
      rw [if_pos hf]
      exact replyBytes_head ..
    all_goals exact answer_self_answers ..
  case walkMove move =>
    unfold grantWalkMove
    repeat' split
    case h_1 =>
      exact answer_answers (fun h => by rw [Store.walk_accepts] at h; cases h) _
    all_goals exact answer_answers (by simp [Status.refuses]) _
  all_goals
    simp only [grantDefineNode, grantDefineSwitch, grantBuildEnd, grantSetPolicy, grantLookupSwitch, grantLookupNode,
      grantLookupIsland, grantWalkSet, grantReadClock, grantSetPacing, grantSetEnd, grantSetMark, grantSetStepSpan,
      grantArmBatch, grantDiscardBatch, grantReadBatch, grantStart, grantPause, grantResume, grantStep, grantRestore,
      grantSetWatch, grantClearWatch, rewriteWatch, grantReadWatch, grantRefreshIndicators, directSetEventEnables,
      directSetInterruptLine, directSetCueLine, directClearLineFlags, directReadCueLine, directSetIndicator,
      directReadIndicator, directSetCheckMode]
    repeat' split
    all_goals exact answer_answers (by simp [Status.refuses]) _

/-! ### The grant -/

/-- A command that meets the part in `s` has the answer `st` in `t`, and when it is refused nothing but the link and the
arbiter is written. -/
structure Concludes (st : Status) (s t : State) : Prop where
  reply : t.link.reply.head? = some st.code
  refused : st.refuses = true → t = { s with link := t.link, arbiter := t.arbiter }

theorem Answers.concludes {st : Status} {l : Link} {s t : State} (h : Answers st { s with link := l } t) :
    Concludes st s t :=
  ⟨h.reply, fun hst => by rw [h.refused hst]⟩

/-- A grant in progress leaves its command answered, and ends. -/
theorem finishLinkGrant_concludes {c : Command} {s : State} (ha : accessOf c = .claim) (hf : s.link.frame = .waiting)
    (hg : s.arbiter.grant = .link) (ht : s.link.taken = some c) (hc : s.arbiter.clearPending = false) :
    ∃ st, Concludes st s (finishLinkGrant s) := by
  obtain ⟨st, reply, refused⟩ := carryOut_answers (by rw [ha]; decide) hf
  have answered := carryOut_answered ha hf
  have finish : finishLinkGrant s = arbitrate (endLinkGrant (carryOut c s)) := by
    rw [finishLinkGrant, if_pos hg, ht]
  have carried : (endLinkGrant (carryOut c s)).link = (carryOut c s).link := endLinkGrant_link _
  refine ⟨st, ?_, fun hst => ?_⟩
  · rw [finish, arbitrate_link (by rw [carried, answered.taken]; nofun), carried, reply]
  · let u : State := { s with link := (carryOut c s).link, arbiter.grant := .none }
    have ended : endLinkGrant (carryOut c s) = u := by
      rw [refused hst]
      exact if_pos hg
    have chosen : arbitrate u = { u with arbiter := (arbitrate u).arbiter } := arbitrate_eq u hc
    rw [finish, ended, chosen]

/-- A claim-taking command places its claim unless compile or restore holds the store (R74, R75). -/
theorem hostCommand_placed {c : Command} {check : Option Byte} {s : State} (h : Taken c check s)
    (ha : accessOf c = .claim) (hg : s.arbiter.grant ≠ .compileRestore) :
    hostCommand c check s =
      beginWait (finishLinkGrant (arbitrate { s with link := s.link.waits c, arbiter.linkClaim := true })) := by
  rw [hostCommand_taken h]
  simp only [decideCommand, ha, if_neg hg]
  rfl

theorem eq_clearModel {c : Command} (ha : accessOf c = .clear) : c = .clearModel := by
  cases c
  case clearModel => rfl
  all_goals cases ha

theorem beginWait_frame (s : State) : (beginWait s).link.frame = s.link.frame := by
  obtain ⟨e, -⟩ | ⟨e, -⟩ := beginWait_cases s <;> rw [e]

section
variable {c : Command} {check : Option Byte} {s : State} (h : Taken c check s)
include h

theorem hostCommand_claim_concludes (ha : accessOf c = .claim) (hc : s.arbiter.clearPending = false)
    (hf : (hostCommand c check s).link.frame = .status) : ∃ st, Concludes st s (hostCommand c check s) := by
  by_cases hg : s.arbiter.grant = .compileRestore
  · rw [hostCommand_busy h ha hg]
    exact ⟨.busy, replyBytes_head .., fun _ => rfl⟩
  · let u : State := { s with link := s.link.waits c, arbiter.linkClaim := true }
    have placed : arbitrate u = { u with arbiter := (arbitrate u).arbiter } := arbitrate_eq u hc
    have unasked := arbitrate_clearPending u hc
    have link : (arbitrate u).link = s.link.waits c := by rw [placed]
    rw [hostCommand_placed h ha hg] at hf ⊢
    rw [beginWait_frame] at hf
    rw [beginWait_of_ne (by rw [hf]; decide)]
    by_cases granted : (arbitrate u).arbiter.grant = .link
    · obtain ⟨st, reply, refused⟩ :=
        finishLinkGrant_concludes ha (by rw [link]; rfl) granted (by rw [link]; rfl) unasked
      refine ⟨st, reply, fun hst => ?_⟩
      rw [refused hst, placed]
    · rw [finishLinkGrant_of_ne granted, link] at hf
      cases hf

/-- A command that has its answer concludes in it; CLEAR MODEL answers OK only (R74 to R79, R180). -/
theorem hostCommand_concludes (hc : s.arbiter.clearPending = false)
    (hf : (hostCommand c check s).link.frame = .status) : ∃ st, Concludes st s (hostCommand c check s) := by
  cases ha : accessOf c with
  | direct =>
    rw [hostCommand_direct h ha]
    obtain ⟨st, answers⟩ := carryOut_answers (c := c) (s := { s with link := s.link.waits c }) (by rw [ha]; decide) rfl
    exact ⟨st, answers.concludes⟩
  | claim => exact hostCommand_claim_concludes h ha hc hf
  | clear =>
    obtain rfl := eq_clearModel ha
    by_cases hg : s.arbiter.grant = .none ∨ s.arbiter.grant = .compileRestore
    · obtain ⟨w, -, e⟩ := hostCommand_clearModel h hg
      rw [Host.Outcome.next.inj ((exec_toInstr .clearModel check s).symm.trans e)]
      exact ⟨.ok, replyBytes_head .., nofun⟩
    · obtain ⟨hn, hr⟩ := not_or.1 hg
      obtain ⟨a, -, -, e⟩ := hostCommand_clearModel_waits h hn hr
      rw [e] at hf
      cases hf

end

/-- Settles O14. -/
theorem refusedCommandsChangeNothing : Obligations.RefusedCommandsChangeNothing := by
  intro c check s t h hc ht hf hreply
  rw [exec_toInstr] at ht
  cases ht
  obtain ⟨st, reply, refused⟩ := hostCommand_concludes h hc hf
  simp only [reply, Option.some.injEq] at hreply
  exact refused (st.refuses_iff.2 hreply)

end Sys2Proof.Machine
end

section
/-! PROOFS. The positions of a reply (O15) and the check-mode flag at the end of a status position (O21) (R175 to R177,
R182, R185). -/

namespace Sys2Proof.Machine

/-! ### A reply, byte by byte (R177, R182) -/

/-- The frame is sending a reply of its own, `rest` still to come: neither a load nor a refused load, an item or a
streamed record stands behind it. -/
structure State.Sends (rest : List Byte) (s : State) : Prop where
  reply : s.link.reply = rest
  ready : s.link.ready = []
  stream : s.link.stream = none
  frame :
    rest ≠ [] ∧ s.link.frame = .reply ∨ rest = [] ∧ s.link.frame = .trailing ∨
    rest ≠ [] ∧ s.link.frame = .status ∧ s.link.waitBegun = false ∧ s.link.load = none ∧ s.link.refusal = none ∧
      s.link.late = none

namespace State.Sends

variable {b : Byte} {rest : List Byte} {s : State}

/-- A reply whose last byte has been sent ends, and the frame is in TRAILING. -/
theorem endReply (hr : s.link.ready = []) (hs : s.link.stream = none) : (endReply s).Sends [] := by
  have ended : Machine.endReply s =
      { s with link := { s.link with frame := .trailing, reply := [], captured := none } } := by
    simp [Machine.endReply, hr, hs]
  rw [ended]
  exact ⟨rfl, hr, hs, .inr (.inl ⟨rfl, rfl⟩)⟩

/-- The status position sends the first byte. -/
theorem sendStatus (h : s.Sends (b :: rest)) (hl : s.link.load = none) (hf : s.link.refusal = none)
    (ht : s.link.late = none) : (sendStatus s).Sends rest := by
  obtain ⟨u, hu, hcases⟩ := sendStatus_cases s
  rw [takeItems_none ht] at hu
  have reply : u.link.reply = rest := by rw [hu]; exact congrArg List.tail h.reply
  have load : u.link.load = none := by rw [hu]; exact hl
  have refusal : u.link.refusal = none := by rw [hu]; exact hf
  have ready : u.link.ready = [] := by rw [hu]; exact h.ready
  have stream : u.link.stream = none := by rw [hu]; exact h.stream
  obtain ⟨hload, -⟩ | ⟨-, href, -⟩ | ⟨-, -, hnil, e⟩ | ⟨-, -, hne, e⟩ := hcases
  · rw [load] at hload; cases hload
  · rw [refusal] at href; cases href
  · obtain rfl : rest = [] := reply.symm.trans hnil
    rw [e]
    exact endReply ready stream
  · rw [e]
    exact ⟨reply, ready, stream, .inl ⟨reply ▸ hne, rfl⟩⟩

/-- Every later position sends one byte. -/
theorem sendReply (h : s.Sends (b :: rest)) (hf : s.link.frame = .reply) : (sendReply s).Sends rest := by
  unfold Machine.sendReply
  dsimp only
  rw [h.reply, List.tail_cons]
  split
  next hnil =>
    obtain rfl := List.isEmpty_iff.1 hnil
    exact endReply h.ready h.stream
  next hne => exact ⟨rfl, h.ready, h.stream, .inl ⟨mt List.isEmpty_iff.2 hne, hf⟩⟩

theorem frame_ne_waiting (h : s.Sends rest) : s.link.frame ≠ .waiting := by
  obtain ⟨-, e⟩ | ⟨-, e⟩ | ⟨-, e, -⟩ := h.frame <;> rw [e] <;> decide

/-- A position that leaves a reply to be sent waits for nothing. -/
theorem awaits_nothing (h : s.Sends rest) : beginWait (readAwaited s) = s := by
  rw [readAwaited_of_ne h.frame_ne_waiting, beginWait_of_ne h.frame_ne_waiting]

theorem hostByte (h : s.Sends (b :: rest)) (byte : Byte) : (hostByte s byte).Sends rest := by
  obtain ⟨-, hf⟩ | ⟨hnil, -⟩ | ⟨-, hf, hw, hl, hr, ht⟩ := h.frame
  · have sent := h.sendReply hf
    rwa [hostByte_reply hf, sent.awaits_nothing]
  · cases hnil
  · have sent := h.sendStatus hl hr ht
    rw [Machine.hostByte, hf]
    dsimp only
    rwa [endStatus_of_not_begun hw, sent.awaits_nothing]

/-- Each position sends one byte, whatever the host clocks in it. -/
theorem hostBytes (h : s.Sends rest) {filler : List Byte} (hl : filler.length ≤ rest.length) :
    (hostBytes filler s).Sends (rest.drop filler.length) := by
  induction filler generalizing rest s with
  | nil => exact h
  | cons byte filler ih =>
    cases rest with
    | nil => cases hl
    | cons b rest =>
      rw [hostBytes_cons]
      exact ih (h.hostByte byte) (Nat.le_of_succ_le_succ hl)

/-- The position that comes next carries the first byte that has not been sent. -/
theorem sdoByte (h : s.Sends (b :: rest)) : s.sdoByte = some b := by
  obtain ⟨-, hf⟩ | ⟨hnil, -⟩ | ⟨-, hf, hw, -⟩ := h.frame
  · simp [State.sdoByte, hf, h.reply]
  · cases hnil
  · simp [State.sdoByte, hf, hw, h.reply]

/-- Behind the reply the frame sends 0x00 (R182). -/
theorem trailing (h : s.Sends []) : s.link.frame = .trailing ∧ s.sdoByte = some 0 := by
  obtain ⟨hne, -⟩ | ⟨-, hf⟩ | ⟨hne, -⟩ := h.frame
  · exact absurd rfl hne
  · exact ⟨hf, by simp only [State.sdoByte, hf]⟩
  · exact absurd rfl hne

end State.Sends

/-! ### Positions that began in WAITING (R175, R176) -/

theorem waiting_position {s : State} (hf : s.link.frame = .waiting) (byte : Byte) :
    s.sdoByte = some 0 ∧
      (s.link.lmode1 = false → hostByte s byte = { s with link.waitBegun := true }) ∧
      (s.link.lmode1 = true → hostByte s byte = s) := by
  have position : hostByte s byte = beginWait s := by rw [hostByte, hf]
  refine ⟨by simp only [State.sdoByte, hf], fun hl => ?_, fun hl => ?_⟩
  · rw [position, beginWait, if_pos ⟨hf, hl⟩]
  · rw [position, beginWait_of_high hl]

/-- A status behind a wait byte that has begun is left to the next position. -/
theorem begun_position {s : State} (hf : s.link.frame = .status) (hw : s.link.waitBegun = true) (byte : Byte) :
    s.sdoByte = some 0 ∧ hostByte s byte = { s with link.waitBegun := false } := by
  refine ⟨by simp [State.sdoByte, hf, hw], ?_⟩
  have waiting : ({ s with link.waitBegun := false } : State).link.frame ≠ .waiting := by
    rw [hf]
    decide
  rw [hostByte, hf]
  dsimp only
  rw [endStatus_of_begun hw, readAwaited_of_ne waiting, beginWait_of_ne waiting]

theorem status_sdoByte {s : State} (hf : s.link.frame = .status) (hw : s.link.waitBegun = false)
    (hr : s.link.reply ≠ []) : s.sdoByte = s.link.reply.head? := by
  obtain ⟨b, rest, e⟩ := List.exists_cons_of_ne_nil hr
  simp [State.sdoByte, hf, hw, e]

/-- Settles O15. -/
theorem repliesAreClockedOut : Obligations.RepliesAreClockedOut := by
  refine ⟨fun reply filler s hf hr hne hw hload href hlate hready hstream => ?_, fun byte s hf => waiting_position hf byte,
    fun byte s hf hw => begun_position hf hw byte, fun c byte s hp hf ha ht hg hc => ?_⟩
  · have sends : s.Sends reply := ⟨hr, hready, hstream, .inr (.inr ⟨hne, hf, hw, hload, href, hlate⟩)⟩
    refine ⟨fun h => ?_, fun h => ?_⟩
    · have sent := sends.hostBytes h.le
      rw [List.drop_eq_getElem_cons h] at sent
      exact sent.sdoByte
    · have sent := sends.hostBytes h.le
      rw [h, List.drop_length] at sent
      exact sent.trailing
  · obtain ⟨answered, -⟩ := finishLink_granted ha hf hg ht
    obtain ⟨st, reply, -⟩ := finishLinkGrant_concludes ha hf hg ht hc
    have idle : step s = .next (finishLinkGrant s) := by rw [step, hp]
    have begun : (finishLinkGrant s).link.waitBegun = s.link.waitBegun := by rw [answered.rest]
    have nonempty : (finishLinkGrant s).link.reply ≠ [] := by
      intro h
      rw [h] at reply
      cases reply
    generalize finishLinkGrant s = u at *
    refine ⟨u, idle, answered.frame, nonempty, fun hw => ?_, fun hw => ?_⟩
    · obtain ⟨sent, position⟩ := begun_position answered.frame (begun.trans hw) byte
      rw [position]
      exact ⟨sent, answered.frame, status_sdoByte (s := { u with link.waitBegun := false }) answered.frame rfl nonempty⟩
    · exact status_sdoByte answered.frame (begun.trans hw) nonempty

/-! ### The check-mode flag (R184, R185) -/

/-- The check-mode flag and the value that a SET CHECK MODE holds for it. -/
def State.checkFlags (s : State) : Bool × Option Bool := (s.link.checkMode, s.link.checkNext)

theorem arbitrate_checkFlags (s : State) : (arbitrate s).checkFlags = s.checkFlags := by
  have cleared : (answerClear (clearModel (refreshClaims s))).checkFlags = s.checkFlags := by
    have link : (clearModel (refreshClaims s)).link = s.link := clearModel_link _
    unfold answerClear State.checkFlags answer
    split <;> rw [link]
  unfold arbitrate
  dsimp only
  split
  · split
    · exact cleared
    · rfl
  · rfl

theorem readAwaited_checkFlags (s : State) : (readAwaited s).checkFlags = s.checkFlags := by
  obtain e | ⟨x, -, -, -, -, e⟩ := readAwaited_cases s <;> rw [e]
  rw [endUnit, arbitrate_checkFlags, readRecord_eq]
  rfl

theorem beginWait_checkFlags (s : State) : (beginWait s).checkFlags = s.checkFlags := by
  obtain ⟨e, -⟩ | ⟨e, -⟩ := beginWait_cases s
  · rw [e]
    rfl
  · rw [e]

theorem endReply_checkFlags (s : State) : (endReply s).checkFlags = s.checkFlags := by
  unfold endReply
  repeat' split
  all_goals rfl

theorem takeItems_checkFlags (s : State) : (takeItems s).checkFlags = s.checkFlags := by
  unfold takeItems
  split
  next r _ => cases r <;> rfl
  next => rfl

/-- The status position gives the flag the value that is held for it (R185). -/
theorem sendStatus_checkFlags (s : State) :
    (sendStatus s).checkFlags = (s.link.checkNext.getD s.link.checkMode, none) := by
  obtain ⟨u, hu, hcases⟩ := sendStatus_cases s
  have taken : (takeItems s).link.checkMode = s.link.checkMode ∧ (takeItems s).link.checkNext = s.link.checkNext :=
    Prod.mk.inj (takeItems_checkFlags s)
  have flags : u.checkFlags = (s.link.checkNext.getD s.link.checkMode, none) := by
    rw [hu, ← taken.1, ← taken.2]
    rfl
  obtain ⟨-, e⟩ | ⟨-, -, e⟩ | ⟨-, -, -, e⟩ | ⟨-, -, -, e⟩ := hcases <;> rw [e]
  · exact flags
  · exact flags
  · rw [endReply_checkFlags, flags]
  · exact flags

theorem directSetCheckMode_of_le {value : Byte} (h : value.toNat ≤ 1) (s : State) :
    directSetCheckMode value s = answer .ok [] { s with link.checkNext := some (value == 1) } := by
  rw [directSetCheckMode, parseFlag_of_le h]

theorem directSetCheckMode_of_gt {value : Byte} (h : ¬value.toNat ≤ 1) (s : State) :
    directSetCheckMode value s = answer .range [] s := by
  have unnamed : parseFlag value = none :=
    Option.not_isSome_iff_eq_none.1 fun hs => h (Nat.le_of_lt_succ ((parseFlag_isSome value).1 hs))
  rw [directSetCheckMode, unnamed]

/-- Settles O21. -/
theorem setCheckModeActsWithItsStatus : Obligations.SetCheckModeActsWithItsStatus := by
  refine ⟨fun value check s h => ?_, fun byte s hf hw => ?_⟩
  · refine (exec_direct h rfl).trans (congrArg Host.Outcome.next ?_)
    split
    next hv => exact directSetCheckMode_of_le hv _
    next hv => exact directSetCheckMode_of_gt hv _
  · have position : hostByte s byte = beginWait (readAwaited (sendStatus s)) := by
      rw [hostByte, hf]
      dsimp only
      rw [endStatus_of_not_begun hw]
    rw [position]
    exact Prod.mk.inj ((beginWait_checkFlags _).trans ((readAwaited_checkFlags _).trans (sendStatus_checkFlags s)))

end Sys2Proof.Machine
end

section
/-! PROOFS. The queue of those that wait: a step runs its front command with the rest (O1), and no command or event
changes what waits behind it (O3). -/

namespace Sys2Proof.Machine

/-! ### What the whole operations of a row leave of the queue -/

@[simp] theorem endUnit_pending (s : State) : (endUnit s).pending = s.pending :=
  (arbitrate_pending _).trans (releaseGrant_pending s)

@[simp] theorem selAssert_pending (s : State) : (selAssert s).pending = s.pending := by
  unfold selAssert
  split <;> rfl

@[simp] theorem readStatusFirst_pending (s : State) : (readStatusFirst s).pending = s.pending := by
  unfold readStatusFirst
  split
  · exact sendStatus_pending s
  · rfl

/-! ### The engines -/

/-- Where a unit of work is due, it leaves the queue as it stands. -/
def KeepsQueue (work : State → Option State) : Prop := ∀ s t, work s = some t → t.pending = s.pending

theorem engineStep_pending {work : State → Option State} {s t : State} (hw : KeepsQueue work)
    (h : engineStep work s = .next t) : t.pending = s.pending := by
  unfold engineStep at h
  cases hv : work (finishLinkGrant s) <;> rw [hv] at h <;> cases h
  case none => exact finishLinkGrant_pending s
  case some => exact (hw _ _ hv).trans (finishLinkGrant_pending s)

theorem compileWork_keepsQueue {effect : State → State} (stage : CompileStage)
    (he : ∀ s, (effect s).pending = s.pending) : KeepsQueue (compileWork stage effect) := by
  intro s t h
  obtain ⟨-, due⟩ := Option.ite_none_right_eq_some.1 h
  cases due
  exact (arbitrate_pending _).trans (he s)

theorem restoreWork_keepsQueue {effect : State → State} (stage : RestoreStage)
    (he : ∀ s, (effect s).pending = s.pending) : KeepsQueue (restoreWork stage effect) := by
  intro s t h
  obtain ⟨-, due⟩ := Option.ite_none_right_eq_some.1 h
  cases due
  exact (arbitrate_pending _).trans (he s)

theorem resolverWork_keepsQueue {unit : JobInProgress → Option (State → State)}
    (hu : ∀ j effect, unit j = some effect → ∀ s, (effect s).pending = s.pending) :
    KeepsQueue (resolverWork unit) := by
  intro s t h
  obtain ⟨-, due⟩ := Option.ite_none_right_eq_some.1 h
  obtain ⟨effect, he, rfl⟩ := Option.map_eq_some_iff.1 due
  obtain ⟨j, -, hj⟩ := Option.bind_eq_some_iff.1 he
  exact (endUnit_pending _).trans (hu j effect hj s)

theorem sequencerWork_keepsQueue : KeepsQueue sequencerWork := by
  intro s t h
  obtain ⟨-, due⟩ := Option.ite_none_right_eq_some.1 h
  obtain ⟨p, -, rfl⟩ := Option.map_eq_some_iff.1 due
  exact (endUnit_pending _).trans (serveEntry_pending s p.1 p.2)

theorem streamWork_keepsQueue : KeepsQueue streamWork := by
  intro s t h
  unfold streamWork at h
  split at h <;> cases h
  exact (endUnit_pending _).trans (readRecord_pending s _)

/-! ### The obligations -/

/-- Settles O1. -/
theorem stepRunsTheFrontCommand : Obligations.StepRunsTheFrontCommand := fun _ _ _ => rfl

/-- Settles O3: a row is a reset, a frame event or a clock event, a command of the host, or the step of an engine, and
none of these writes the queue. -/
theorem execKeepsTheQueue : Obligations.ExecKeepsTheQueue := by
  intro i s t h
  cases i
  case hardwareReset => cases h; rfl
  case selAssert => cases h; exact selAssert_pending s
  case selRelease clocked => cases h; exact selRelease_pending s clocked
  case unknownCommand code => cases h; exact (hostByte_pending _ code).trans (finishLink_pending s)
  case batchEntry bytes =>
    cases h
    calc (hostBytes bytes (readStatusFirst (finishLink s))).pending
        = (readStatusFirst (finishLink s)).pending := hostBytes_pending _ bytes
      _ = (finishLink s).pending := readStatusFirst_pending _
      _ = s.pending := finishLink_pending s
  case compileIncidenceLists =>
    exact engineStep_pending (compileWork_keepsQueue _ compileIncidenceLists_pending) h
  case compileStartingValues =>
    exact engineStep_pending (compileWork_keepsQueue _ compileStartingValues_pending) h
  case compileEnd => exact engineStep_pending (compileWork_keepsQueue _ compileEnd_pending) h
  case restoreFirstStage => exact engineStep_pending (restoreWork_keepsQueue _ restoreFirstStage_pending) h
  case restoreSecondStage => exact engineStep_pending (restoreWork_keepsQueue _ restoreSecondStage_pending) h
  case restoreEnd => exact engineStep_pending (restoreWork_keepsQueue _ restoreEnd_pending) h
  case readTableRecord => exact engineStep_pending streamWork_keepsQueue h
  case applyEntry => exact engineStep_pending sequencerWork_keepsQueue h
  case mergeGuard | mergeRelabel | splitGuard | splitVisit | splitRelabel | sourceJob =>
    refine engineStep_pending (resolverWork_keepsQueue fun j effect he u => ?_) h
    split at he <;> cases he
    simp
  case pacingTick => cases h; exact (arbitrate_pending _).trans (pacingTick_pending s)
  case sampleEvent levels order =>
    cases h
    exact (arbitrate_pending _).trans (sampleEvent_pending s levels order)
  case flashPhaseTurn => cases h; exact flashPhaseTurn_pending s
  all_goals cases h; exact hostCommand_pending ..

end Sys2Proof.Machine
end
